-- ==== Sys2Proof/Word.lean ====
section
/-! DEFINITION. The word types of the VB3120: what the links carry (bytes), what a two-byte field of a frame
holds, and what one conversion of the ADC yields. -/

namespace Sys2Proof

/-- One byte of a serial line (chapter 1, THE LINE). -/
abbrev Byte := BitVec 8

/-- A two-byte field of a frame: a check value, a length field, a flag set. -/
abbrev Word16 := BitVec 16

/-- One conversion of the ADC, 0–4095 (R67, R152). -/
abbrev AdcCode := BitVec 12

end Sys2Proof
end

