-- ==== Sys2Proof/Syntax.lean ====
section
/-! DEFINITION. The commands the VB3120 takes: one constructor of `Instr` for each row of spec/opcode_table.json,
with the operands that come from outside the part. A request row carries the whole frame that arrives (link,
tag, slot byte, body); a row for an event at a pin carries what the pin shows. -/

namespace Sys2Proof

/-- A domain, and the serial link of that domain's processor (00_scope.md, THE THREE DOMAINS). -/
inductive Domain where
  | pay | app | rad
  deriving DecidableEq, Repr

/-- The four side keys (chapter 5, THE SIDE KEY SCANNER). -/
inductive Key where
  | cancel | clear | enter | fn
  deriving DecidableEq, Repr

/-- The two tamper inputs (chapter 8). -/
inductive TamperInput where
  | a | b
  deriving DecidableEq, Repr

/-- The level of a digital pin. -/
inductive Level where
  | low | high
  deriving DecidableEq, Repr

/-- The five conversions of one quantity of a burst, in the order made (R67). -/
structure Codes where
  c0 : AdcCode
  c1 : AdcCode
  c2 : AdcCode
  c3 : AdcCode
  c4 : AdcCode
  deriving DecidableEq, Repr

/-- The twenty codes of a burst (R67). -/
structure Burst where
  x : Codes
  y : Codes
  z1 : Codes
  z2 : Codes
  deriving DecidableEq, Repr

/-- The commands of the VB3120, in the order of spec/opcode_table.json. -/
inductive Instr where
  /-- LINE_ERROR (R1). -/
  | lineError (link : Domain)
  /-- SERIAL_BREAK (R1, R6, R7). -/
  | serialBreak (link : Domain)
  /-- BREAK_END (R1). -/
  | breakEnd (link : Domain)
  /-- INTER_BYTE_TIMEOUT (R5). -/
  | interByteTimeout (link : Domain)
  /-- LENGTH_OVER_512 (R4): the last byte of a header arrives; the five header bytes are the operands. -/
  | lengthOver512 (link : Domain) (kind tag slot : Byte) (length : Word16)
  /-- FRAME_CHECK_FAIL (R2, R4): the last check byte of a frame arrives; the frame and its check field. -/
  | frameCheckFail (link : Domain) (kind tag slot : Byte) (body : List Byte) (check : Word16)
  /-- BAD_KIND_REQUEST (R9): a valid frame of kind `kind` arrives. -/
  | badKindRequest (link : Domain) (kind tag slot : Byte) (body : List Byte)
  /-- POST (R41). -/
  | post (link : Domain) (tag slot : Byte) (body : List Byte)
  /-- STATUS (R169). -/
  | status (link : Domain) (tag slot : Byte) (body : List Byte)
  /-- CLEAR (R163). -/
  | clear (link : Domain) (tag slot : Byte) (body : List Byte)
  /-- NOTICE-TEST (R164). -/
  | noticeTest (link : Domain) (tag slot : Byte) (body : List Byte)
  /-- LOAD (R21). -/
  | load (link : Domain) (tag slot : Byte) (body : List Byte)
  /-- REVERT (R33). -/
  | revert (link : Domain) (tag slot : Byte) (body : List Byte)
  /-- COMMIT (R34). -/
  | commit (link : Domain) (tag slot : Byte) (body : List Byte)
  /-- ENTRY-BEGIN (R104). -/
  | entryBegin (link : Domain) (tag slot : Byte) (body : List Byte)
  /-- ENTRY-ABORT (R120). -/
  | entryAbort (link : Domain) (tag slot : Byte) (body : List Byte)
  /-- SLOT-BAR (R57). -/
  | slotBar (link : Domain) (tag slot : Byte) (body : List Byte)
  /-- UNLOCK (R128). -/
  | unlock (link : Domain) (tag slot : Byte) (body : List Byte)
  /-- RESTART (R17). -/
  | restart (link : Domain) (tag slot : Byte) (body : List Byte)
  /-- READY_ASSERTED (R12). -/
  | readyAsserted (link : Domain)
  /-- READY_DEASSERTED (R13). -/
  | readyDeasserted (link : Domain)
  /-- STALL_TIMER_EXPIRY (R13). -/
  | stallTimerExpiry (link : Domain)
  /-- REPLY_COMPLETE (R15). -/
  | replyComplete (link : Domain)
  /-- ENTRY_END_COMPLETE (R15), on the PAY link. -/
  | entryEndComplete
  /-- ENTRY_PROGRESS_COMPLETE (R15), on the PAY link. -/
  | entryProgressComplete
  /-- INPUT_COMPLETE (R97), on the APP link. -/
  | inputComplete
  /-- NOTICE_COMPLETE (R162). -/
  | noticeComplete (link : Domain)
  /-- DELIVERY_COMPLETE (R55). -/
  | deliveryComplete (link : Domain)
  /-- FULL_RESET (R18), whatever its cause. -/
  | fullReset
  /-- FULL_RESET_END (R167). -/
  | fullResetEnd
  /-- REFILL_TIMER_EXPIRY (R47). -/
  | refillTimerExpiry
  /-- SCAN_TIMER_EXPIRY (R65): `plate` is the level of the TP_YP plate in the detect arrangement, in 1/65536
  of AVDD (R66). -/
  | scanTimerExpiry (plate : Word16)
  /-- BURST_END (R67). -/
  | burstEnd (codes : Burst)
  /-- SUPPLY_REQUEST_TIMER_EXPIRY (R151). -/
  | supplyRequestTimerExpiry
  /-- SUPPLY_CONVERSION_END (R152, R153). -/
  | supplyConversionEnd (code : AdcCode)
  /-- KEY_INPUT_CHANGE (R90): the key's input takes `level`. -/
  | keyInputChange (key : Key) (level : Level)
  /-- KEY_DEBOUNCE_EXPIRY (R90). -/
  | keyDebounceExpiry (key : Key)
  /-- TOTAL_TIMER_EXPIRY (R114). -/
  | totalTimerExpiry
  /-- FIRST_KEY_TIMER_EXPIRY (R114). -/
  | firstKeyTimerExpiry
  /-- INTER_KEY_TIMER_EXPIRY (R114). -/
  | interKeyTimerExpiry
  /-- INPUT_FRAME_START (R129): `lines` are the lengths in pixels of the active lines delivered since the last
  input frame start. -/
  | inputFrameStart (lines : List Nat)
  /-- SILENCE_WATCH_EXPIRY (R130): `lines` as for INPUT_FRAME_START. -/
  | silenceWatchExpiry (lines : List Nat)
  /-- LOCAL_FRAME_END (R134). -/
  | localFrameEnd
  /-- TAMPER_PIN_CHANGE (R147): the pin takes `level`. -/
  | tamperPinChange (input : TamperInput) (level : Level)
  /-- TAMPER_FILTER_EXPIRY (R147). -/
  | tamperFilterExpiry (input : TamperInput)
  /-- PAY_SILENCE_EXPIRY (R157). -/
  | paySilenceExpiry
  /-- REPEAT_TIMER_EXPIRY (R165). -/
  | repeatTimerExpiry (domain : Domain)
  /-- RECEIVED_BYTE (R4): a good character arrives. -/
  | receivedByte (link : Domain) (byte : Byte)
  deriving DecidableEq, Repr

end Sys2Proof
end

