-- ==== Sys2Proof/Decode.lean ====
section
/-! DEFINITION. The words of spec/opcode_table.json. The table gives no row any bits ("fields" is empty in all
48 rows and no row has "fixed"), so no word spells a command. The byte layouts of the part's frames are R2–R4
(Machine/Frames.lean), reached through RECEIVED_BYTE. -/

namespace Sys2Proof

/-- The command that a word spells by the table's bits: none, since the table gives bits to no row. -/
def decodeTableWord (_nbits _w : Nat) : Option Instr := none

end Sys2Proof
end

