-- ==== Sys2Proof/Config.lean ====
section
/-! DEFINITION. What the spec leaves open and the model leaves free. -/

namespace Sys2Proof

/-- Whether the ADC arbiter grants the burst first when a burst request and a supply request are both waiting at
the end of an activity. R68 gives no order between two waiting requests ("either may be granted first" for two
requests at the same moment), so this is a FREE VALUE, one for each time the choice arises (log entry 4). -/
opaque Config.arbiterGrantsBurst : Nat → Bool

/-- Whether VOUT_VSYNC is asserted at a moment of a local frame, by the W, H and refresh rate of its layout and the
moment. R134 says of the blanking only how long the whole frame lasts, so this is a FREE VALUE (log entry 27). -/
opaque Config.localVsync : Nat → Nat → Nat → Nat → Bool

/-- Whether VOUT_HSYNC is asserted at a moment of a local frame: a FREE VALUE as `Config.localVsync` is (R134, log entry
27). -/
opaque Config.localHsync : Nat → Nat → Nat → Nat → Bool

/-- Whether VOUT_PCLK is high at a moment when it does not follow the input. R134 names an internal clock and no more,
and R133 and R137 say nothing of the clock of an idle output, so this is a FREE VALUE (log entry 27). -/
opaque Config.ownClock : Nat → Bool

end Sys2Proof
end

