-- ==== Sys2Proof/Machine/State.lean ====
section
/-! DEFINITION. The state of the VB3120 as plain data, block by block as the spec's chapters name it, and the
state right after a full reset. INVENTORY.md, heading State, lists every field with the rule that names it. -/

namespace Sys2Proof.Machine

open Sys2Proof

/-! ## Indexed groups -/

/-- One value for each domain (or link). -/
structure PerDomain (α : Type) where
  pay : α
  app : α
  rad : α
  deriving DecidableEq, Repr

/-- The value of domain `d`. -/
def PerDomain.get {α : Type} (p : PerDomain α) : Domain → α
  | .pay => p.pay
  | .app => p.app
  | .rad => p.rad

/-- Replace the value of domain `d`. -/
def PerDomain.set {α : Type} (p : PerDomain α) (d : Domain) (v : α) : PerDomain α :=
  match d with
  | .pay => { p with pay := v }
  | .app => { p with app := v }
  | .rad => { p with rad := v }

/-- The same value for each domain. -/
def PerDomain.all {α : Type} (v : α) : PerDomain α := ⟨v, v, v⟩

/-- One value for each side key. -/
structure PerKey (α : Type) where
  cancel : α
  clear : α
  enter : α
  fn : α
  deriving DecidableEq, Repr

/-- The value of key `k`. -/
def PerKey.get {α : Type} (p : PerKey α) : Key → α
  | .cancel => p.cancel
  | .clear => p.clear
  | .enter => p.enter
  | .fn => p.fn

/-- Replace the value of key `k`. -/
def PerKey.set {α : Type} (p : PerKey α) (k : Key) (v : α) : PerKey α :=
  match k with
  | .cancel => { p with cancel := v }
  | .clear => { p with clear := v }
  | .enter => { p with enter := v }
  | .fn => { p with fn := v }

/-- One value for each tamper input. -/
structure PerTamper (α : Type) where
  a : α
  b : α
  deriving DecidableEq, Repr

/-- The value of input `i`. -/
def PerTamper.get {α : Type} (p : PerTamper α) : TamperInput → α
  | .a => p.a
  | .b => p.b

/-- Replace the value of input `i`. -/
def PerTamper.set {α : Type} (p : PerTamper α) (i : TamperInput) (v : α) : PerTamper α :=
  match i with
  | .a => { p with a := v }
  | .b => { p with b := v }

/-- A timer. The model has no clock: a running timer holds the time, in ms, with which it last started, and its
expiry is a command (log entry 2). `expired` is the rest state of the silence watch (R130) and of a repeat
timer (R165), which stand expired until they are restarted. -/
inductive Timer where
  | stopped
  | running (ms : Nat)
  | expired
  deriving DecidableEq, Repr

/-! ## Frames and the link ports (chapter 1) -/

/-- A frame: header fields and body. The start byte, the length and the check follow from these (R2, R3). -/
structure Frame where
  kind : Byte
  tag : Byte
  slot : Byte
  body : List Byte
  deriving DecidableEq, Repr

/-- The receiver of a port (chapter 1, RECEPTION), with the bytes collected so far. -/
inductive Receiver where
  | hunt
  | header (got : List Byte)
  | body (kind tag slot : Byte) (length : Nat) (got : List Byte)
  | check (kind tag slot : Byte) (body : List Byte) (low : Option Byte)
  deriving DecidableEq, Repr

/-- The status codes of a REPLY (chapter 1, FRAMES SENT BY THE VB3120). -/
inductive Status where
  | ok | badKind | badLength | notPermitted | noPolicy | noChannel | notEndpoint | direction | slotDenied
  | slotBarred | tooLong | quota | queueFull | held | locked | busy | staleGeneration | invalidPolicy
  | badParameter | supplyLow | tamperActive | notActive | noLayout
  deriving DecidableEq, Repr

/-- A REPLY in a reply queue (R10). -/
structure Reply where
  tag : Byte
  slot : Byte
  status : Status
  echoed : Byte
  result : List Byte
  deriving DecidableEq, Repr

/-- The place a frame in transmission came from (R14, R15). -/
inductive Source where
  | reply | entryEnd | progress | input | notice | delivery
  deriving DecidableEq, Repr

/-- A frame in transmission: its place and the frame as built when its transmission began (R11). -/
structure Transmission where
  source : Source
  frame : Frame
  deriving DecidableEq, Repr

/-- A link port: receiver, break hold, inter-byte timer, ready input, reply queue, transmitter, stall timer and
stall episode. -/
structure Port where
  rx : Receiver
  inBreak : Bool
  interByte : Timer
  ready : Level
  replies : List Reply
  tx : Option Transmission
  stallTimer : Timer
  stalled : Bool
  deriving DecidableEq, Repr

/-- The outcomes of a session (chapter 6, ENDING A SESSION). -/
inductive SessionOutcome where
  | complete | cancelled | aborted | timeoutFirst | timeoutInter | timeoutTotal | videoLost | supplyLow
  | paySilent | linkReset | tamper
  deriving DecidableEq, Repr

/-- The modes of a session. -/
inductive Mode where
  | pin | calibrate
  deriving DecidableEq, Repr

/-- The data field of an ENTRY-END (R116). -/
inductive EndData where
  | absent
  | digits (ds : List Nat)
  | points (ps : List (Nat × Nat))
  deriving DecidableEq, Repr

/-- An ENTRY-END (R116). -/
structure EntryEnd where
  session : Nat
  outcome : SessionOutcome
  mode : Mode
  count : Nat
  data : EndData
  deriving DecidableEq, Repr

/-- The events of ENTRY-PROGRESS (R113). -/
inductive ProgressEvent where
  | presented | accepted | void | full | empty | short
  deriving DecidableEq, Repr

/-- An ENTRY-PROGRESS (R113). -/
structure Progress where
  session : Nat
  event : ProgressEvent
  count : Nat
  deriving DecidableEq, Repr

/-- The events of an INPUT frame (chapter 1). -/
inductive InputKind where
  | down | move | up | press | release | focusLost | focusReturned
  deriving DecidableEq, Repr

/-- An event of the APP input-event queue (R92, R97). -/
structure InputEvent where
  kind : InputKind
  stroke : Nat
  x : Nat
  y : Nat
  key : Option Key
  edge : Bool
  cancelled : Bool
  unstable : Bool
  deriving DecidableEq, Repr

/-! ## The policy tables (chapter 2) -/

/-- Channel states. -/
inductive ChannelState where
  | unused | opened
  deriving DecidableEq, Repr

/-- Channel directions (R40). -/
inductive Direction where
  | aToB | bToA | both
  deriving DecidableEq, Repr

/-- Traffic classes. -/
inductive Class where
  | priority | bulk
  deriving DecidableEq, Repr

/-- Hold policies (R44). -/
inductive HoldPolicy where
  | pass | hold | refuse
  deriving DecidableEq, Repr

/-- A CHANNEL record (R23). The mask is present when an endpoint is APP. -/
structure Channel where
  state : ChannelState
  endA : Domain
  endB : Domain
  direction : Direction
  cls : Class
  maxPayload : Nat
  mask : Option Byte
  hold : HoldPolicy
  deriving DecidableEq, Repr

/-- A SLOT record (R24). -/
structure Slot where
  barred : Bool
  depth : Nat
  refill : Nat
  deriving DecidableEq, Repr

/-- A colour, each component 0–63. -/
structure Rgb where
  r : Nat
  g : Nat
  b : Nat
  deriving DecidableEq, Repr

/-- The roles of a present cell (R25). -/
inductive Role where
  | digit | enter | clear | back | cancel | dots | band | label
  deriving DecidableEq, Repr

/-- A present CELL record (R25), and a cell of an overlay set (R139). -/
structure Cell where
  role : Role
  x0 : Nat
  y0 : Nat
  x1 : Nat
  y1 : Nat
  fill : Rgb
  ink : Rgb
  glyph : Option Nat
  deriving DecidableEq, Repr

/-- A GEOMETRY record (R27). -/
structure Geometry where
  w : Nat
  h : Nat
  refresh : Nat
  backdrop : Rgb
  deriving DecidableEq, Repr

/-- A TOUCH record (R28). -/
structure Touch where
  scanPeriod : Nat
  spreadLimit : Nat
  cOn : Nat
  cOff : Nat
  downDebounce : Nat
  upDebounce : Nat
  shift : Nat
  moveThreshold : Nat
  penThreshold : Nat
  guardMargin : Nat
  deriving DecidableEq, Repr

/-- A MAPPING record (R29). -/
structure Mapping where
  xu : Int
  xv : Int
  x0 : Int
  yu : Int
  yv : Int
  y0 : Int
  deriving DecidableEq, Repr

/-- The senses of a tamper input (chapter 8). -/
inductive Sense where
  | disabled | tripLow | tripHigh | tripChange
  deriving DecidableEq, Repr

/-- A SUPERVISION record (R30). -/
structure Supervision where
  sense : PerTamper Sense
  warn : Nat
  abort : Nat
  paySilence : Nat
  deriving DecidableEq, Repr

/-- Report modes (R31, R161, R165). -/
inductive ReportMode where
  | edge | repeated
  deriving DecidableEq, Repr

/-- Clear modes (R31, R162). -/
inductive ClearMode where
  | onReport | onClear
  deriving DecidableEq, Repr

/-- A NOTICE-MODE record (R31). -/
structure NoticeMode where
  report : ReportMode
  clear : ClearMode
  deriving DecidableEq, Repr

/-- A glyph bitmap: 160 bytes, four to a row (chapter 2, RECORD LAYOUTS). -/
abbrev Bitmap := List Byte

/-- The glyph store: 64 glyphs (R26). -/
abbrev GlyphStore := Vector Bitmap 64

/-- One set of policy tables, staging or active (R19). -/
structure Policy where
  channels : Vector Channel 32
  slots : Vector Slot 8
  cells : Vector (Option Cell) 20
  glyphs : GlyphStore
  geometry : Geometry
  touch : Touch
  mapping : Mapping
  supervision : Supervision
  debounce : Nat
  notices : PerDomain NoticeMode
  weights : PerDomain Nat
  deriving DecidableEq, Repr

/-! ## The channel switch (chapter 3) -/

/-- A delivery queue entry (R49). The payload length is the payload's. -/
structure Entry where
  channel : Nat
  source : Domain
  slot : Option Nat
  cls : Class
  held : Bool
  sending : Bool
  payload : List Byte
  deriving DecidableEq, Repr

/-- One value for each class. -/
structure PerClass (α : Type) where
  priority : α
  bulk : α
  deriving DecidableEq, Repr

/-- The value of class `c`. -/
def PerClass.get {α : Type} (p : PerClass α) : Class → α
  | .priority => p.priority
  | .bulk => p.bulk

/-- Replace the value of class `c`. -/
def PerClass.set {α : Type} (p : PerClass α) (c : Class) (v : α) : PerClass α :=
  match c with
  | .priority => { p with priority := v }
  | .bulk => { p with bulk := v }

/-- The delivery queue of one link: a sub-queue for each class, the run count, and the space-wanted marks that
the domains hold on it (R49, R54, R61). -/
structure DeliveryQueue where
  entries : PerClass (List Entry)
  run : Nat
  wanted : PerDomain (PerClass Bool)
  deriving DecidableEq, Repr

/-- The channel switch's live state. -/
structure Switch where
  bars : Vector Bool 8
  levels : Vector Nat 8
  queues : PerDomain DeliveryQueue
  refillTimer : Timer
  deriving DecidableEq, Repr

/-! ## Touch and keys (chapters 4 and 5) -/

/-- The scan states. -/
inductive ScanState where
  | idle | noContact | pending | contact | lifting
  deriving DecidableEq, Repr

/-- The work of the current scan (chapter 4). -/
inductive ScanProgress where
  | none | penDetect | burstWaiting | burstRunning
  deriving DecidableEq, Repr

/-- The panel drive arrangements (chapter 4, THE PANEL DRIVES). -/
inductive Arrangement where
  | off | detect | x | y | z1 | z2
  deriving DecidableEq, Repr

/-- The touch front end. -/
structure FrontEnd where
  scan : ScanState
  down : Nat
  lift : Nat
  reject : Nat
  timer : Timer
  progress : ScanProgress
  settings : Touch
  panel : Arrangement
  deriving DecidableEq, Repr

/-- What holds the ADC (R68). -/
inductive AdcUse where
  | free | burst | supply
  deriving DecidableEq, Repr

/-- The ADC arbiter. A waiting burst is the front end's `burstWaiting`. -/
structure Adc where
  use : AdcUse
  supplyWaiting : Bool
  deriving DecidableEq, Repr

/-- The position mapper (chapter 5). -/
structure Mapper where
  sx : Nat
  sy : Nat
  tracking : Bool
  strokeOpen : Bool
  stroke : Nat
  lastX : Nat
  lastY : Nat
  deriving DecidableEq, Repr

/-- One side key: the level of its input, its debounced level, its debounce timer (R90). -/
structure SideKey where
  pin : Level
  pressed : Bool
  timer : Timer
  deriving DecidableEq, Repr

/-! ## The entry controller (chapter 6) -/

/-- The controller's states. -/
inductive EntryState where
  | opened | arming | presenting | secure | closing | releasing | locked
  deriving DecidableEq, Repr

/-- The presentations of a session. -/
inductive SessionPresentation where
  | overlay | full
  deriving DecidableEq, Repr

/-- A session record (R102), after clamping. `least` is the min length of a PIN session and the point count of a
CALIBRATE session. The times are in s. -/
structure Session where
  mode : Mode
  presentation : SessionPresentation
  digitMap : List Nat
  least : Nat
  maxLength : Nat
  autoEnter : Bool
  firstKey : Nat
  interKey : Nat
  total : Nat
  deriving DecidableEq, Repr

/-- The candidate: none, a touch cell by its index, or void (R108). -/
inductive Candidate where
  | none
  | cell (index : Nat)
  | void
  deriving DecidableEq, Repr

/-- The entry controller, routing marks included (chapter 5, ROUTING BY FOCUS). -/
structure Controller where
  state : EntryState
  session : Nat
  record : Option Session
  buffer : List Nat
  points : List (Nat × Nat)
  candidate : Candidate
  firstKey : Timer
  interKey : Timer
  total : Timer
  lockShown : Bool
  appStroke : Option Nat
  keyMarks : PerKey Bool
  sessionStroke : Option Nat
  deriving DecidableEq, Repr

/-! ## The video gate (chapter 7) -/

/-- The timing states. -/
inductive Timing where
  | follow | toLocal | localTiming | toFollow | rejoin
  deriving DecidableEq, Repr

/-- The presentations of an overlay set (R139). -/
inductive Presentation where
  | none | overlay | full | lock
  deriving DecidableEq, Repr

/-- An overlay set (R139). -/
structure OverlaySet where
  presentation : Presentation
  cells : List Cell
  dots : Nat
  backdrop : Rgb
  deriving DecidableEq, Repr

/-- A layout (R138). -/
structure Layout where
  w : Nat
  h : Nat
  refresh : Nat
  glyphs : GlyphStore
  deriving DecidableEq, Repr

/-- The kinds of overlay set the gate reports (R140). -/
inductive SetKind where
  | clear | secure | lock
  deriving DecidableEq, Repr

/-- The gate's reports to the entry controller (R131, R132, R140). -/
inductive GateReport where
  | setActive (kind : SetKind)
  | videoLoss
  deriving DecidableEq, Repr

/-- The video gate. `inFrame` says that an input frame is in progress (R129). `stopped` stands only in FOLLOW. -/
structure Gate where
  timing : Timing
  stopped : Bool
  watch : Timer
  inFrame : Bool
  malformed : Nat
  episode : Bool
  active : OverlaySet
  pending : OverlaySet
  layout : Layout
  waiting : Option Layout
  deriving DecidableEq, Repr

/-! ## The supervisor (chapter 8) -/

/-- One tamper input (R147–R150). -/
structure Tamper where
  pin : Level
  filtered : Level
  timer : Timer
  normal : Level
  inTrip : Bool
  latch : Bool
  deriving DecidableEq, Repr

/-- The supply level states (R153). -/
inductive SupplyLevel where
  | normal | belowWarn | belowAbort
  deriving DecidableEq, Repr

/-- The supervisor. The PAY silence timer is DISARMED when `silence` is stopped. -/
structure Supervisor where
  tamper : PerTamper Tamper
  requestTimer : Timer
  measurement : Nat
  level : SupplyLevel
  silence : Timer
  deriving DecidableEq, Repr

/-! ## The notice unit (chapter 9) -/

/-- The notice flags (chapter 1, NOTICE body). -/
inductive Flag where
  | restarted | frameError | overrun | queueSpace | stall | videoLost | tamper | supplyWarn | supplyLow
  | slotChange | policyChange | test
  deriving DecidableEq, Repr

/-- The states of a NOTICE place; SENDING holds the flags the NOTICE carries (R161, R162). -/
inductive Place where
  | empty
  | waiting
  | sending (carried : Word16)
  deriving DecidableEq, Repr

/-- What the notice unit keeps for one domain. The flag set is laid out as the NOTICE body. -/
structure NoticeBox where
  flags : Word16
  place : Place
  followUp : Bool
  repeatTimer : Timer
  deriving DecidableEq, Repr

/-! ## The whole part -/

/-- The state of the part. `pending`, `reports` and `arbiterCount` are the MODEL's own fields: the queue of
commands not yet taken, the gate's reports not yet taken by the controller (empty between commands), and the
count that names the next free value of the ADC arbiter (log entries 3, 4 and 14). -/
structure State where
  pending : List Instr
  inReset : Bool
  ports : PerDomain Port
  entryEnd : Option EntryEnd
  progress : List Progress
  inputs : List InputEvent
  lost : Bool
  staging : Policy
  active : Policy
  generation : Nat
  switch : Switch
  frontEnd : FrontEnd
  adc : Adc
  mapper : Mapper
  keys : PerKey SideKey
  ctl : Controller
  gate : Gate
  sup : Supervisor
  notices : PerDomain NoticeBox
  reports : List GateReport
  arbiterCount : Nat
  deriving DecidableEq, Repr

/-- Why the part stops: never. The spec names no condition under which the VB3120 stops, so this type has no
constructor and no step of the model faults. -/
inductive Fault where
  deriving DecidableEq, Repr

/-- Why the model gives a command no meaning. -/
inductive Refusal where
  /-- Raised by an arm of `exec` whose command has no meaning yet; safe. No arm raises it. -/
  | notModelled (mnemonic : String)
  deriving DecidableEq, Repr

/-! ## Reset values -/

/-- The default policy tables (R32). -/
def Policy.default : Policy where
  channels := Vector.replicate 32
    { state := .unused, endA := .pay, endB := .pay, direction := .aToB, cls := .priority, maxPayload := 480,
      mask := none, hold := .pass }
  slots := Vector.replicate 8 { barred := false, depth := 0, refill := 0 }
  cells := Vector.replicate 20 none
  glyphs := Vector.replicate 64 (List.replicate 160 0)
  geometry := { w := 480, h := 800, refresh := 60, backdrop := ⟨0, 0, 0⟩ }
  touch := { scanPeriod := 5, spreadLimit := 24, cOn := 600, cOff := 800, downDebounce := 2, upDebounce := 3,
             shift := 2, moveThreshold := 2, penThreshold := 128, guardMargin := 4 }
  mapping := { xu := 7680, xv := 0, x0 := 0, yu := 0, yv := 12800, y0 := 0 }
  supervision := { sense := ⟨.disabled, .disabled⟩, warn := 3500, abort := 3300, paySilence := 2000 }
  debounce := 20
  notices := PerDomain.all { report := .edge, clear := .onClear }
  weights := PerDomain.all 4

/-- A port after a full reset, its ready input as it stands (R18). -/
def Port.reset (ready : Level) : Port where
  rx := .hunt
  inBreak := false
  interByte := .stopped
  ready := ready
  replies := []
  tx := none
  stallTimer := .stopped
  stalled := false

/-- The switch after a full reset (R63); the refill timer starts when the reset ends. -/
def Switch.reset : Switch where
  bars := Vector.replicate 8 false
  levels := Vector.replicate 8 0
  queues := PerDomain.all
    { entries := ⟨[], []⟩, run := 0, wanted := PerDomain.all ⟨false, false⟩ }
  refillTimer := .stopped

/-- The touch front end after a full reset (R79). -/
def FrontEnd.reset : FrontEnd where
  scan := .idle
  down := 0
  lift := 0
  reject := 0
  timer := .stopped
  progress := .none
  settings := Policy.default.touch
  panel := .off

/-- The position mapper after a full reset (R81). -/
def Mapper.reset : Mapper where
  sx := 0
  sy := 0
  tracking := false
  strokeOpen := false
  stroke := 0
  lastX := 0
  lastY := 0

/-- A side key after a full reset, its input as it stands (R91). -/
def SideKey.reset (pin : Level) : SideKey := { pin := pin, pressed := false, timer := .stopped }

/-- The entry controller after a full reset (R101). -/
def Controller.reset : Controller where
  state := .opened
  session := 0
  record := none
  buffer := []
  points := []
  candidate := .none
  firstKey := .stopped
  interKey := .stopped
  total := .stopped
  lockShown := false
  appStroke := none
  keyMarks := ⟨false, false, false, false⟩
  sessionStroke := none

/-- The clear set (R139, R146). -/
def OverlaySet.clear : OverlaySet := { presentation := .none, cells := [], dots := 0, backdrop := ⟨0, 0, 0⟩ }

/-- The layout of a policy (R138). -/
def Policy.layout (p : Policy) : Layout :=
  { w := p.geometry.w, h := p.geometry.h, refresh := p.geometry.refresh, glyphs := p.glyphs }

/-- The video gate after a full reset (R146); the silence watch starts when the reset ends. -/
def Gate.reset : Gate where
  timing := .follow
  stopped := true
  watch := .stopped
  inFrame := false
  malformed := 0
  episode := false
  active := OverlaySet.clear
  pending := OverlaySet.clear
  layout := Policy.default.layout
  waiting := none

/-- A tamper input after a full reset (R159), its pin as it stands and its filtered level as `filtered`. The
normal level has no meaning until a commit latches it (log entry 5). -/
def Tamper.reset (pin filtered : Level) : Tamper where
  pin := pin
  filtered := filtered
  timer := .stopped
  normal := .low
  inTrip := false
  latch := false

/-- The NOTICE flag RESTARTED alone (bit 0 of the flag set, chapter 1). -/
def restartedOnly : Word16 := 0x0001

/-- The part right after a full reset has ended (R18, R63, R79, R81, R91, R101, R146, R159, R167), with the
external pins at the levels of log entry 5: ready inputs deasserted, side keys released, tamper pins low. The
links that wait with a NOTICE have their stall timers running (R13), the first supply conversion is under way
(R151), the refill and supply request timers and the silence watch run. -/
def State.reset : State where
  pending := []
  inReset := false
  ports :=
    { pay := Port.reset .low
      app := { Port.reset .low with stallTimer := .running 2000 }
      rad := { Port.reset .low with stallTimer := .running 2000 } }
  entryEnd := none
  progress := []
  inputs := []
  lost := false
  staging := Policy.default
  active := Policy.default
  generation := 0
  switch := { Switch.reset with refillTimer := .running 10 }
  frontEnd := FrontEnd.reset
  adc := { use := .supply, supplyWaiting := false }
  mapper := Mapper.reset
  keys := ⟨SideKey.reset .high, SideKey.reset .high, SideKey.reset .high, SideKey.reset .high⟩
  ctl := Controller.reset
  gate := { Gate.reset with watch := .running 100 }
  sup :=
    { tamper := ⟨Tamper.reset .low .low, Tamper.reset .low .low⟩
      requestTimer := .running 10
      measurement := 0
      level := .normal
      silence := .stopped }
  notices := PerDomain.all
    { flags := restartedOnly, place := .waiting, followUp := false, repeatTimer := .stopped }
  reports := []
  arbiterCount := 0

end Sys2Proof.Machine
end

