-- ==== Sys2Proof/Machine/Ops.lean ====
section
/-! DEFINITION. The named operations over the state that every block shares: reading and replacing one port, one
delivery queue, one notice box, one key, one tamper input; starting and stopping timers; the numeric helpers. -/

namespace Sys2Proof.Machine

open Sys2Proof

/-- The three domains, in the order PAY, APP, RAD. -/
def allDomains : List Domain := [.pay, .app, .rad]

/-- The two classes. -/
def allClasses : List Class := [.priority, .bulk]

/-- The four side keys in the order of R96. -/
def allKeys : List Key := [.cancel, .clear, .enter, .fn]

/-- The code of a domain (chapter 1, DELIVERY body). -/
def domainCode : Domain → Nat
  | .pay => 0
  | .app => 1
  | .rad => 2

/-- Bring `v` into `lo`–`hi` (00_scope.md, Arithmetic). -/
def clamp (lo hi v : Nat) : Nat := min hi (max lo v)

/-! ### One port, one queue, one box, one key, one input -/

/-- Link `d`'s port. -/
def State.port (s : State) (d : Domain) : Port := s.ports.get d

/-- Replace link `d`'s port. -/
def State.setPort (s : State) (d : Domain) (p : Port) : State := { s with ports := s.ports.set d p }

/-- The delivery queue of link `d`. -/
def State.queue (s : State) (d : Domain) : DeliveryQueue := s.switch.queues.get d

/-- Replace the delivery queue of link `d`. -/
def State.setQueue (s : State) (d : Domain) (q : DeliveryQueue) : State :=
  { s with switch := { s.switch with queues := s.switch.queues.set d q } }

/-- The notice box of domain `d`. -/
def State.box (s : State) (d : Domain) : NoticeBox := s.notices.get d

/-- Replace the notice box of domain `d`. -/
def State.setBox (s : State) (d : Domain) (b : NoticeBox) : State := { s with notices := s.notices.set d b }

/-- Replace the entry controller. -/
def State.setCtl (s : State) (c : Controller) : State := { s with ctl := c }

/-- Replace the video gate. -/
def State.setGate (s : State) (g : Gate) : State := { s with gate := g }

/-- Replace the supervisor. -/
def State.setSup (s : State) (u : Supervisor) : State := { s with sup := u }

/-- Tamper input `i`. -/
def State.tamper (s : State) (i : TamperInput) : Tamper := s.sup.tamper.get i

/-- Replace tamper input `i`. -/
def State.setTamper (s : State) (i : TamperInput) (t : Tamper) : State :=
  s.setSup { s.sup with tamper := s.sup.tamper.set i t }

/-! ### Timers -/

/-- Whether a timer is running, so that its expiry can come. -/
def Timer.isRunning : Timer → Bool
  | .running _ => true
  | .stopped => false
  | .expired => false

/-- The time of the inter-byte timer in ms (R5). -/
def interByteTime : Nat := 5

/-- The time of the stall timer in ms (R13). -/
def stallTime : Nat := 2000

/-- The refill interval in ms (R47). -/
def refillTime : Nat := 10

/-- The supply measurement interval in ms (R151). -/
def supplyTime : Nat := 10

/-- The time of the silence watch in ms (R130). -/
def watchTime : Nat := 100

/-- The time of a tamper filter timer in ms (R147). -/
def filterTime : Nat := 1

/-- The time of a repeat timer in ms (R165). -/
def repeatTime : Nat := 500

/-- The PAY silence timer starts afresh from the whole PAY silence time of the active record (R156, R157). -/
def startSilence (s : State) : State :=
  s.setSup { s.sup with silence := .running s.active.supervision.paySilence }

/-- The PAY silence timer restarts if it is RUNNING and stays DISARMED otherwise (R157). -/
def restartSilence (s : State) : State := if s.sup.silence.isRunning then startSilence s else s

/-- The PAY silence timer becomes DISARMED (R156). -/
def disarmSilence (s : State) : State := s.setSup { s.sup with silence := .stopped }

/-- The three session timers stop (R114). -/
def stopSessionTimers (s : State) : State :=
  s.setCtl { s.ctl with firstKey := .stopped, interKey := .stopped, total := .stopped }

end Sys2Proof.Machine
end

