-- ==== Sys2Proof/Machine/Operands.lean ====
section
/-! DEFINITION. How the fields of a body are read (R3): bytes, low byte first, signed fields in two's complement;
the enumeration codes of chapters 1 and 2; the fields of ENTRY-BEGIN with their clamping (R102). -/

namespace Sys2Proof.Machine

open Sys2Proof

/-! ### Fields of a body -/

/-- The byte at offset `i` of a body, as a number. -/
def byteAt (body : List Byte) (i : Nat) : Nat := (body.getD i 0).toNat

/-- The unsigned field of `n` bytes at offset `i`, least significant byte first (R3). -/
def fieldAt (body : List Byte) (i : Nat) : Nat → Nat
  | 0 => 0
  | n + 1 => byteAt body i + 256 * fieldAt body (i + 1) n

/-- The two-byte field at offset `i`. -/
def wordAt (body : List Byte) (i : Nat) : Nat := fieldAt body i 2

/-- A value of `n` bytes read as two's complement (chapter 2, RECORD LAYOUTS). -/
def toSigned (n v : Nat) : Int := if v < 2 ^ (8 * n - 1) then (v : Int) else (v : Int) - 2 ^ (8 * n)

/-- The signed field of `n` bytes at offset `i`. -/
def signedAt (body : List Byte) (i n : Nat) : Int := toSigned n (fieldAt body i n)

/-! ### Enumerations -/

/-- Domain codes: endpoints of a channel, indices of NOTICE-MODE and LINK records. -/
def domainOf : Nat → Option Domain
  | 0 => some .pay
  | 1 => some .app
  | 2 => some .rad
  | _ => none

/-- Channel state codes. -/
def channelStateOf : Nat → Option ChannelState
  | 0 => some .unused
  | 1 => some .opened
  | _ => none

/-- Direction codes. -/
def directionOf : Nat → Option Direction
  | 0 => some .aToB
  | 1 => some .bToA
  | 2 => some .both
  | _ => none

/-- Class codes. -/
def classOf : Nat → Option Class
  | 0 => some .priority
  | 1 => some .bulk
  | _ => none

/-- Hold policy codes. -/
def holdOf : Nat → Option HoldPolicy
  | 0 => some .pass
  | 1 => some .hold
  | 2 => some .refuse
  | _ => none

/-- The codes of a no or yes field. -/
def yesNoOf : Nat → Option Bool
  | 0 => some false
  | 1 => some true
  | _ => none

/-- Cell role codes; the inner `none` is role NONE. -/
def roleOf : Nat → Option (Option Role)
  | 0 => some none
  | 1 => some (some .digit)
  | 2 => some (some .enter)
  | 3 => some (some .clear)
  | 4 => some (some .back)
  | 5 => some (some .cancel)
  | 6 => some (some .dots)
  | 7 => some (some .band)
  | 8 => some (some .label)
  | _ => none

/-- Tamper sense codes. -/
def senseOf : Nat → Option Sense
  | 0 => some .disabled
  | 1 => some .tripLow
  | 2 => some .tripHigh
  | 3 => some .tripChange
  | _ => none

/-- Report mode codes. -/
def reportModeOf : Nat → Option ReportMode
  | 0 => some .edge
  | 1 => some .repeated
  | _ => none

/-- Clear mode codes. -/
def clearModeOf : Nat → Option ClearMode
  | 0 => some .onReport
  | 1 => some .onClear
  | _ => none

/-- Session mode codes. -/
def modeOf : Nat → Option Mode
  | 0 => some .pin
  | 1 => some .calibrate
  | _ => none

/-- Session presentation codes. -/
def presentationOf : Nat → Option SessionPresentation
  | 0 => some .overlay
  | 1 => some .full
  | _ => none

/-! ### ENTRY-BEGIN (R102) -/

/-- A timeout field: 0 selects the default, any other value is clamped. -/
def timeoutOf (default lo hi v : Nat) : Nat := if v = 0 then default else clamp lo hi v

/-- The offsets of the fields of an ENTRY-BEGIN body (chapter 1). -/
def entryDigitMap (body : List Byte) : List Nat := (List.range 10).map fun k => byteAt body (2 + k)

/-- The session record that an ENTRY-BEGIN body asks for (R102), or none when a code that check 5 of R103 looks
at is not listed. -/
def sessionOf (body : List Byte) : Option Session :=
  let firstKey := timeoutOf 30 5 120 (byteAt body 15)
  let interKey := timeoutOf 15 2 60 (byteAt body 16)
  let total := timeoutOf 90 10 300 (wordAt body 17)
  match modeOf (byteAt body 0) with
  | none => none
  | some .calibrate =>
    some { mode := .calibrate, presentation := .full, digitMap := [], least := clamp 3 8 (byteAt body 12),
           maxLength := 0, autoEnter := false, firstKey := firstKey, interKey := interKey, total := total }
  | some .pin =>
    match presentationOf (byteAt body 1), yesNoOf (byteAt body 14) with
    | some presentation, some autoEnter =>
      some { mode := .pin, presentation := presentation, digitMap := entryDigitMap body,
             least := clamp 4 12 (byteAt body 12), maxLength := clamp 4 12 (byteAt body 13),
             autoEnter := autoEnter, firstKey := firstKey, interKey := interKey, total := total }
    | _, _ => none

end Sys2Proof.Machine
end

