-- ==== Sys2Proof/Machine/Frames.lean ====
section
/-! DEFINITION. The frames of the links (chapter 1): the check value (R2), the bytes of a frame, the receiver
(R4, R5), the codes and the bodies of the frames the part sends (R3, R10, R11, R113, R116). -/

namespace Sys2Proof.Machine

open Sys2Proof

/-! ### The check value -/

/-- One shift of the CRC register, most significant bit first, generator x^16 + x^12 + x^5 + 1 (R2). -/
def crcShift (c : Word16) : Word16 := if c.msb then (c <<< 1) ^^^ 0x1021#16 else c <<< 1

/-- One byte enters the CRC register. -/
def crcByte (c : Word16) (b : Byte) : Word16 := Nat.iterate crcShift 8 (c ^^^ (b.zeroExtend 16 <<< 8))

/-- The CRC-16 of R2: preset 0xFFFF, not reflected, no final inversion. -/
def crc16 (bytes : List Byte) : Word16 := bytes.foldl crcByte 0xFFFF#16

/-- A number as one byte. -/
def byte (n : Nat) : Byte := BitVec.ofNat 8 n

/-- A number as two bytes, low byte first (R3). -/
def twoBytes (n : Nat) : List Byte := [byte n, byte (n / 256)]

/-- The two bytes of a word, low byte first. -/
def wordBytes (w : Word16) : List Byte := twoBytes w.toNat

/-- The word whose low byte is `lo` and whose high byte is `hi`. -/
def wordOf (lo hi : Byte) : Word16 := BitVec.ofNat 16 (lo.toNat + 256 * hi.toNat)

/-- The bytes the check covers: kind to last body byte (R2). -/
def Frame.covered (f : Frame) : List Byte := [f.kind, f.tag, f.slot] ++ twoBytes f.body.length ++ f.body

/-- The check value of a frame. -/
def Frame.check (f : Frame) : Word16 := crc16 f.covered

/-- The start byte. -/
def startByte : Byte := 0xC3

/-- The bytes of a frame on the line (chapter 1, FRAMES ON THE LINE). -/
def Frame.bytes (f : Frame) : List Byte := startByte :: (f.covered ++ wordBytes f.check)

/-! ### Reception -/

/-- What a receiver makes of a byte. -/
inductive RxEvent where
  | none
  | frameError
  | frame (f : Frame)
  deriving DecidableEq, Repr

/-- The greatest body length. -/
def maxBody : Nat := 512

/-- The second length byte has arrived (R4): over 512 discards the frame, 1–512 leads to BODY, 0 to CHECK. -/
def headerDone (kind tag slot : Byte) (length : Nat) : Receiver × RxEvent :=
  if length > maxBody then (.hunt, .frameError)
  else if length = 0 then (.check kind tag slot [] none, .none)
  else (.body kind tag slot length [], .none)

/-- The second check byte has arrived (R2, R4): the frame is valid when the check field equals the CRC. -/
def checkDone (f : Frame) (check : Word16) : RxEvent := if f.check = check then .frame f else .frameError

/-- One received byte (R4). -/
def Receiver.take (r : Receiver) (b : Byte) : Receiver × RxEvent :=
  match r with
  | .hunt => if b = startByte then (.header [], .none) else (.hunt, .none)
  | .header [kind, tag, slot, lo] => headerDone kind tag slot (lo.toNat + 256 * b.toNat)
  | .header got => (.header (got ++ [b]), .none)
  | .body kind tag slot length got =>
    if got.length + 1 < length then (.body kind tag slot length (got ++ [b]), .none)
    else (.check kind tag slot (got ++ [b]) none, .none)
  | .check kind tag slot bs none => (.check kind tag slot bs (some b), .none)
  | .check kind tag slot bs (some lo) => (.hunt, checkDone ⟨kind, tag, slot, bs⟩ (wordOf lo b))

/-- Whether a frame is being assembled: HEADER, BODY or CHECK. -/
def Receiver.inFrame (r : Receiver) : Bool := decide (r ≠ .hunt)

/-- The inter-byte timer after a byte that left the receiver in `r` (R5). -/
def interByteAfter (r : Receiver) : Timer := if r.inFrame then .running interByteTime else .stopped

/-! ### Codes -/

/-- The request kinds. -/
inductive RequestKind where
  | post | status | clear | noticeTest | load | revert | commit | entryBegin | entryAbort | slotBar | unlock
  | restart
  deriving DecidableEq, Repr

/-- Request kind codes (chapter 1, REQUEST BODIES). -/
def RequestKind.code : RequestKind → Byte
  | .post => 0x01
  | .status => 0x02
  | .clear => 0x03
  | .noticeTest => 0x04
  | .load => 0x10
  | .revert => 0x11
  | .commit => 0x12
  | .entryBegin => 0x13
  | .entryAbort => 0x14
  | .slotBar => 0x15
  | .unlock => 0x16
  | .restart => 0x17

/-- All request kinds. -/
def allRequestKinds : List RequestKind :=
  [.post, .status, .clear, .noticeTest, .load, .revert, .commit, .entryBegin, .entryAbort, .slotBar, .unlock,
   .restart]

/-- The request kind of a kind code, when it is one (R9, check 1). -/
def requestKindOf (kind : Byte) : Option RequestKind := allRequestKinds.find? fun k => k.code = kind

/-- Permission by domain (R9, check 2). -/
def permitted (d : Domain) : RequestKind → Bool
  | .post => true
  | .status => true
  | .clear => true
  | .noticeTest => true
  | .load => decide (d = .pay)
  | .revert => decide (d = .pay)
  | .commit => decide (d = .pay)
  | .entryBegin => decide (d = .pay)
  | .entryAbort => decide (d = .pay)
  | .slotBar => decide (d = .pay)
  | .unlock => decide (d = .pay)
  | .restart => decide (d = .pay)

/-- Body lengths by kind (R9, check 3). -/
def lengthFits (k : RequestKind) (n : Nat) : Bool :=
  match k with
  | .post => decide (1 ≤ n ∧ n ≤ maxBody)
  | .load => decide (1 ≤ n ∧ n ≤ maxBody)
  | .clear => decide (n = 2)
  | .commit => decide (n = 2)
  | .entryBegin => decide (n = 19)
  | .slotBar => decide (n = 2)
  | .status => decide (n = 0)
  | .noticeTest => decide (n = 0)
  | .revert => decide (n = 0)
  | .entryAbort => decide (n = 0)
  | .unlock => decide (n = 0)
  | .restart => decide (n = 0)

/-- Status codes (chapter 1). -/
def Status.code : Status → Nat
  | .ok => 0x00
  | .badKind => 0x01
  | .badLength => 0x02
  | .notPermitted => 0x03
  | .noPolicy => 0x04
  | .noChannel => 0x05
  | .notEndpoint => 0x06
  | .direction => 0x07
  | .slotDenied => 0x08
  | .slotBarred => 0x09
  | .tooLong => 0x0A
  | .quota => 0x0B
  | .queueFull => 0x0C
  | .held => 0x0D
  | .locked => 0x0E
  | .busy => 0x0F
  | .staleGeneration => 0x10
  | .invalidPolicy => 0x11
  | .badParameter => 0x12
  | .supplyLow => 0x13
  | .tamperActive => 0x14
  | .notActive => 0x15
  | .noLayout => 0x16

/-- Outcome codes of ENTRY-END (chapter 1). -/
def SessionOutcome.code : SessionOutcome → Nat
  | .complete => 1
  | .cancelled => 2
  | .aborted => 3
  | .timeoutFirst => 4
  | .timeoutInter => 5
  | .timeoutTotal => 6
  | .videoLost => 7
  | .supplyLow => 8
  | .paySilent => 9
  | .linkReset => 10
  | .tamper => 11

/-- Mode codes. -/
def Mode.code : Mode → Nat
  | .pin => 0
  | .calibrate => 1

/-- Event codes of ENTRY-PROGRESS. -/
def ProgressEvent.code : ProgressEvent → Nat
  | .presented => 1
  | .accepted => 2
  | .void => 3
  | .full => 4
  | .empty => 5
  | .short => 6

/-- Event codes of INPUT. -/
def InputKind.code : InputKind → Nat
  | .down => 1
  | .move => 2
  | .up => 3
  | .press => 4
  | .release => 5
  | .focusLost => 6
  | .focusReturned => 7

/-- Key codes of INPUT; 0 in events without a key. -/
def keyCode : Option Key → Nat
  | none => 0
  | some .cancel => 1
  | some .clear => 2
  | some .enter => 3
  | some .fn => 4

/-- The bit of weight `2 ^ i` when `b` holds. -/
def bitIf (i : Nat) (b : Bool) : Nat := if b then 2 ^ i else 0

/-! ### The frames the part sends -/

/-- The REPLY frame (R10). -/
def Reply.frame (r : Reply) : Frame :=
  { kind := 0x80, tag := r.tag, slot := r.slot, body := byte r.status.code :: r.echoed :: r.result }

/-- A frame other than a REPLY carries tag 0 and slot 0 (R11). -/
def unsolicited (kind : Byte) (body : List Byte) : Frame := { kind := kind, tag := 0, slot := 0, body := body }

/-- The DELIVERY frame of an entry (R55). -/
def Entry.frame (e : Entry) : Frame :=
  unsolicited 0x81
    ([byte e.channel, byte (domainCode e.source),
       byte (if e.source = .app then e.slot.getD 0 else 0)] ++ twoBytes e.payload.length ++ e.payload)

/-- The INPUT frame of an event, with the LOST flag when the lost mark is set (R97, R99). -/
def InputEvent.frame (e : InputEvent) (lost : Bool) : Frame :=
  unsolicited 0x82
    ([byte e.kind.code, byte e.stroke] ++ twoBytes e.x ++ twoBytes e.y ++
      [byte (keyCode e.key),
       byte (bitIf 0 e.edge + bitIf 1 e.cancelled + bitIf 2 e.unstable + bitIf 3 lost)])

/-- The NOTICE frame of a flag set (R162). -/
def noticeFrame (flags : Word16) : Frame := unsolicited 0x83 (wordBytes flags)

/-- The ENTRY-PROGRESS frame (R113). -/
def Progress.frame (p : Progress) : Frame :=
  unsolicited 0x84 [byte p.session, byte p.event.code, byte p.count]

/-- The data field of an ENTRY-END (R116). -/
def EndData.bytes : EndData → List Byte
  | .absent => []
  | .digits ds => ds.map byte
  | .points ps => ps.flatMap fun p => twoBytes p.1 ++ twoBytes p.2

/-- The ENTRY-END frame (R116). -/
def EntryEnd.frame (e : EntryEnd) : Frame :=
  unsolicited 0x85
    ([byte e.session, byte e.outcome.code, byte e.mode.code, byte e.count] ++ e.data.bytes)

end Sys2Proof.Machine
end

