-- ==== Sys2Proof/Machine/Flags.lean ====
section
/-! DEFINITION. The notice flags (chapter 9): setting and clearing flags, the NOTICE place, the follow-up mark and
the repeat timer. -/

namespace Sys2Proof.Machine

open Sys2Proof

/-- The bit of a flag in a flag set (chapter 1, NOTICE body). -/
def Flag.bit : Flag → Nat
  | .restarted => 0
  | .frameError => 1
  | .overrun => 2
  | .queueSpace => 3
  | .stall => 4
  | .videoLost => 5
  | .tamper => 6
  | .supplyWarn => 7
  | .supplyLow => 8
  | .slotChange => 9
  | .policyChange => 10
  | .test => 11

/-- The flag set holding `f` alone. -/
def Flag.mask (f : Flag) : Word16 := BitVec.twoPow 16 f.bit

/-- Whether `f` is set in a flag set. -/
def hasFlag (flags : Word16) (f : Flag) : Bool := flags.getLsbD f.bit

/-- The flags of a domain (chapter 9, FLAGS). -/
def domainFlags : Domain → List Flag
  | .pay => [.restarted, .frameError, .overrun, .queueSpace, .stall, .videoLost, .tamper, .supplyWarn, .supplyLow,
             .test]
  | .app => [.restarted, .frameError, .overrun, .queueSpace, .supplyWarn, .slotChange, .test]
  | .rad => [.restarted, .frameError, .overrun, .queueSpace, .policyChange, .test]

/-- The flags of a domain as a flag set. -/
def flagMask (d : Domain) : Word16 := (domainFlags d).foldl (fun m f => m ||| f.mask) 0

/-- The three conditions under which a repeat timer runs (R165). -/
def repeatHolds (m : NoticeMode) (flags : Word16) : Bool :=
  decide (m.report = .repeated ∧ m.clear = .onClear ∧ flags ≠ 0)

/-- The repeat timer judged afresh: it starts from 500 ms when the conditions come to hold, stops when they end,
and runs on, or stands expired, while they go on holding (R165, R166). -/
def judgeRepeat (m : NoticeMode) (b : NoticeBox) : NoticeBox :=
  if repeatHolds m b.flags then
    match b.repeatTimer with
    | .stopped => { b with repeatTimer := .running repeatTime }
    | .running _ => b
    | .expired => b
  else { b with repeatTimer := .stopped }

/-- A rise acts on the NOTICE place (R161). -/
def riseOnPlace (b : NoticeBox) : NoticeBox :=
  match b.place with
  | .empty => { b with place := .waiting }
  | .waiting => b
  | .sending _ => { b with followUp := true }

/-- Setting a flag (R160, R161): a rise when it was clear, nothing when it was set. -/
def NoticeBox.setFlag (b : NoticeBox) (m : NoticeMode) (f : Flag) : NoticeBox :=
  if hasFlag b.flags f then b
  else judgeRepeat m (riseOnPlace { b with flags := b.flags ||| f.mask })

/-- CLEAR's effect on the requesting domain's box (R163). -/
def NoticeBox.clearFlags (b : NoticeBox) (m : NoticeMode) (named : Word16) : NoticeBox :=
  let flags := b.flags &&& ~~~named
  if flags = 0 then
    { flags := flags
      place := match b.place with
        | .empty => .empty
        | .waiting => .empty
        | .sending c => .sending c
      followUp := false
      repeatTimer := .stopped }
  else judgeRepeat m { b with flags := flags }

/-- The completion of a NOTICE that carried `carried` (R162, R165). DESIGN CHOICE (log entry 12): under ON_REPORT
every carried flag clears, also one that CLEAR cleared during the transmission and that then rose again. -/
def NoticeBox.complete (b : NoticeBox) (m : NoticeMode) (carried : Word16) : NoticeBox :=
  let flags := if m.clear = .onReport then b.flags &&& ~~~carried else b.flags
  { flags := flags
    place := if b.followUp ∧ flags ≠ 0 then .waiting else .empty
    followUp := false
    repeatTimer := if repeatHolds m flags then .running repeatTime else .stopped }

/-- The box when the new notice modes are taken into use (R166). -/
def NoticeBox.takeMode (b : NoticeBox) (m : NoticeMode) : NoticeBox :=
  judgeRepeat m
    (if m.clear = .onReport ∧ b.flags ≠ 0 ∧ b.place = .empty then { b with place := .waiting } else b)

/-- The box with no flag, no NOTICE, no follow-up mark and the repeat timer stopped (R167, R168). -/
def NoticeBox.blank : NoticeBox := { flags := 0, place := .empty, followUp := false, repeatTimer := .stopped }

/-- The notice mode of domain `d` in the active set. -/
def State.noticeMode (s : State) (d : Domain) : NoticeMode := s.active.notices.get d

/-- Set flag `f` of domain `d`. -/
def setFlag (d : Domain) (f : Flag) (s : State) : State :=
  s.setBox d ((s.box d).setFlag (s.noticeMode d) f)

/-- The modes of the active set are taken into use for every domain (R166). -/
def takeNoticeModes (s : State) : State :=
  allDomains.foldl (fun s d => s.setBox d ((s.box d).takeMode (s.noticeMode d))) s

/-- The notice unit's part of a link reset of `d` (R168). -/
def noticeLinkReset (d : Domain) (s : State) : State := setFlag d .restarted (s.setBox d NoticeBox.blank)

/-- A repeat timer expires (R165): a place in EMPTY becomes WAITING. -/
def NoticeBox.repeatExpire (b : NoticeBox) : NoticeBox :=
  if b.repeatTimer.isRunning then
    { b with
      repeatTimer := .expired
      place := match b.place with
        | .empty => .waiting
        | .waiting => .waiting
        | .sending c => .sending c }
  else b

end Sys2Proof.Machine
end

