-- ==== Sys2Proof/Machine/Gate.lean ====
section
/-! DEFINITION. The video gate (chapter 7): judging input frames, losses, timing, layouts, overlay sets, the trust
lamp, and the composition of a pixel. What the gate reports to the entry controller joins `reports`. -/

namespace Sys2Proof.Machine

open Sys2Proof

/-! ### Sets, boundaries and layouts -/

/-- The kind of an overlay set, by its presentation (R139, R140). -/
def OverlaySet.kind (o : OverlaySet) : SetKind :=
  match o.presentation with
  | .none => .clear
  | .overlay => .secure
  | .full => .secure
  | .lock => .lock

/-- Whether a set is a secure set. -/
def OverlaySet.isSecure (o : OverlaySet) : Bool := decide (o.kind = .secure)

/-- The TRUST_LAMP output: high exactly while the active set has presentation OVERLAY or FULL (R145). -/
def Gate.lamp (g : Gate) : Level := if g.active.isSecure then .high else .low

/-- The pending set becomes active and its kind is reported (R140). -/
def Gate.activate (g : Gate) : Gate × List GateReport :=
  ({ g with active := g.pending }, [.setActive g.pending.kind])

/-- An output frame boundary: a pending set that differs becomes active (R140). -/
def Gate.boundary (g : Gate) : Gate × List GateReport := if g.pending = g.active then (g, []) else g.activate

/-- At an output frame start the layout waiting becomes the layout in use (R138). -/
def Gate.takeLayout (g : Gate) : Gate :=
  match g.waiting with
  | none => g
  | some l => { g with layout := l, waiting := none }

/-- An output frame start: the layout first, then the boundary (R138, R140). -/
def Gate.frameStart (g : Gate) : Gate × List GateReport := g.takeLayout.boundary

/-- The controller writes a set (R139): a NONE set activates at the write while the output is stopped in FOLLOW
(R141), and an OVERLAY set written during a loss episode brings the loss report again (R132). -/
def Gate.write (g : Gate) (o : OverlaySet) : Gate × List GateReport :=
  let g1 := { g with pending := o }
  if g.timing = .follow ∧ g.stopped ∧ o.presentation = .none ∧ o ≠ g.active then g1.activate
  else if g.episode ∧ o.presentation = .overlay then (g1, [.videoLoss])
  else (g1, [])

/-- The request for LOCAL timing (R135). -/
def Gate.askLocal (g : Gate) : Gate × List GateReport :=
  match g.timing with
  | .follow =>
    if g.stopped then { g with timing := .localTiming, stopped := false }.frameStart
    else ({ g with timing := .toLocal }, [])
  | .toLocal => (g, [])
  | .localTiming => (g, [])
  | .toFollow => ({ g with timing := .localTiming }, [])
  | .rejoin => { g with timing := .localTiming }.frameStart

/-- The request for FOLLOW timing (R136). -/
def Gate.askFollow (g : Gate) : Gate × List GateReport :=
  match g.timing with
  | .follow => (g, [])
  | .toLocal => ({ g with timing := .follow }, [])
  | .localTiming => ({ g with timing := .toFollow }, [])
  | .toFollow => (g, [])
  | .rejoin => (g, [])

/-! ### Judging and losses -/

/-- Whether the timing mode is FOLLOW (R131). -/
def Timing.followsInput : Timing → Bool
  | .follow => true
  | .toLocal => true
  | .localTiming => false
  | .toFollow => false
  | .rejoin => true

/-- Whether an input frame with these active lines is well-formed against the layout in use (R129). -/
def Layout.wellFormed (l : Layout) (lines : List Nat) : Bool :=
  decide (lines.length = l.h) && lines.all fun n => decide (n = l.w)

/-- An input frame is judged (R129): a well-formed one clears the count and ends an episode (R131). -/
def Gate.judge (g : Gate) (lines : List Nat) : Gate :=
  if g.layout.wellFormed lines then { g with malformed := 0, episode := false }
  else { g with malformed := min 2 (g.malformed + 1) }

/-! ### Over the whole part -/

/-- Apply a gate operation; its reports wait for the controller. -/
def gateDo (f : Gate → Gate × List GateReport) (s : State) : State :=
  { s with gate := (f s.gate).1, reports := s.reports ++ (f s.gate).2 }

/-- A loss (R131): in timing mode FOLLOW with no episode in progress, an episode begins, VIDEO_LOST is set for
PAY, and the loss is reported. -/
def declareLoss (s : State) : State :=
  if s.gate.timing.followsInput ∧ s.gate.episode = false then
    setFlag .pay .videoLost
      { s with gate := { s.gate with episode := true }, reports := s.reports ++ [.videoLoss] }
  else s

/-- The input frame in progress, if any, ends and is judged (R129). -/
def judgeFrame (lines : List Nat) (s : State) : State :=
  if s.gate.inFrame then s.setGate { s.gate.judge lines with inFrame := false } else s

/-- The input frame in progress, if any, ends at an input frame start and is judged; a malformed frame that leaves
the count at 2 is a loss (R129, R131). -/
def endInputFrame (lines : List Nat) (s : State) : State :=
  let s1 := judgeFrame lines s
  if s.gate.inFrame && !s.gate.layout.wellFormed lines && decide (s1.gate.malformed = 2) then declareLoss s1 else s1

/-- An input frame start acts on the output (R133, R135, R137). -/
def Gate.inputStart (g : Gate) : Gate × List GateReport :=
  match g.timing with
  | .follow => { g with stopped := false }.frameStart
  | .toLocal => { g with timing := .localTiming }.frameStart
  | .localTiming => (g, [])
  | .toFollow => (g, [])
  | .rejoin => { g with timing := .follow, stopped := false }.frameStart

/-- A local frame ends (R134, R136, R137). -/
def Gate.localEnd (g : Gate) : Gate × List GateReport :=
  match g.timing with
  | .follow => (g, [])
  | .toLocal => (g, [])
  | .localTiming => g.frameStart
  | .toFollow => ({ g with timing := .rejoin, watch := .running watchTime }, [])
  | .rejoin => (g, [])

/-! ### Composition (R142–R144) -/

/-- Whether the position lies in the cell, corners included. -/
def Cell.holds (c : Cell) (x y : Nat) : Bool :=
  decide (c.x0 ≤ x ∧ x ≤ c.x1 ∧ c.y0 ≤ y ∧ y ≤ c.y1)

/-- Bit (c, r) of a glyph: the leftmost pixel of a row is the most significant bit of the row's first byte. -/
def glyphBit (m : Bitmap) (c r : Nat) : Bool := (m.getD (4 * r + c / 8) 0).getLsbD (7 - c % 8)

/-- Whether glyph `i` of the store, with its top-left pixel at (`gx`, `gy`), has ink at (`x`, `y`). -/
def glyphInk (store : GlyphStore) (i : Nat) (gx gy : Int) (x y : Nat) : Bool :=
  let dx := (x : Int) - gx
  let dy := (y : Int) - gy
  decide (0 ≤ dx ∧ dx ≤ 31 ∧ 0 ≤ dy ∧ dy ≤ 39) && glyphBit (store[i]?.getD []) dx.toNat dy.toNat

/-- The left column of a centred glyph (R143). -/
def Cell.glyphX (c : Cell) : Int := (c.x0 : Int) + Int.fdiv ((c.x1 : Int) - c.x0 + 1 - 32) 2

/-- The top row of a glyph (R143). -/
def Cell.glyphY (c : Cell) : Int := (c.y0 : Int) + Int.fdiv ((c.y1 : Int) - c.y0 + 1 - 40) 2

/-- Whether the cell has ink at a position inside it: one centred glyph, or in a DOTS cell one copy of the glyph
for each dot that fits (R143, R144). -/
def Cell.ink? (c : Cell) (store : GlyphStore) (dots x y : Nat) : Bool :=
  match c.glyph with
  | none => false
  | some i =>
    if c.role = .dots then
      (List.range dots).any fun k =>
        decide (c.x0 + 32 * k + 31 ≤ c.x1) && glyphInk store i ((c.x0 : Int) + 32 * k) c.glyphY x y
    else glyphInk store i c.glyphX c.glyphY x y

/-- The cell pixel of the last cell of the list that holds the position; none when no cell does (R143). -/
def OverlaySet.cellPixel (o : OverlaySet) (store : GlyphStore) (x y : Nat) : Option Rgb :=
  match o.cells.reverse.find? fun c => c.holds x y with
  | none => none
  | some c => some (if c.ink? store o.dots x y then c.ink else c.fill)

/-- One pixel of an output frame (R142). `input` is the input pixel; in LOCAL timing there is none and the
backdrop stands in its place. -/
def composePixel (l : Layout) (o : OverlaySet) (input : Option Rgb) (x y : Nat) : Rgb :=
  let under := input.getD o.backdrop
  if x < l.w ∧ y < l.h then
    match o.presentation with
    | .none => under
    | .overlay => (o.cellPixel l.glyphs x y).getD under
    | .full => (o.cellPixel l.glyphs x y).getD o.backdrop
    | .lock => o.backdrop
  else
    match o.presentation with
    | .none => under
    | .overlay => under
    | .full => o.backdrop
    | .lock => o.backdrop

/-- What the panel output runs on. -/
inductive OutputSource where
  | idle | input | localFrame
  deriving DecidableEq, Repr

/-- The output by the timing state (chapter 7, TIMING): the input in FOLLOW with the output running and in TO_LOCAL, the
gate's own frames in LOCAL and TO_FOLLOW, nothing in FOLLOW with the output stopped and in REJOIN (R133–R137). -/
def Gate.outputSource (g : Gate) : OutputSource :=
  match g.timing with
  | .follow => if g.stopped then .idle else .input
  | .toLocal => .input
  | .localTiming => .localFrame
  | .toFollow => .localFrame
  | .rejoin => .idle

/-- What the panel output carries at active position (`x`, `y`), `vin` being the input pixel there: nothing while
the output is idle (stopped FOLLOW, REJOIN), the input composed in FOLLOW and TO_LOCAL, the local picture in
LOCAL and TO_FOLLOW, whose frames have W × H active pixels (R133, R134, R137). -/
def Gate.panelPixel (g : Gate) (vin : Rgb) (x y : Nat) : Option Rgb :=
  match g.outputSource with
  | .idle => none
  | .input => some (composePixel g.layout g.active (some vin) x y)
  | .localFrame => if x < g.layout.w ∧ y < g.layout.h then some (composePixel g.layout g.active none x y) else none

/-- The clock, sync and data-enable pins of a video interface at one moment: whether the clock is high, and whether each
other pin is asserted. -/
structure VideoPins where
  clock : Bool
  vsync : Bool
  hsync : Bool
  de : Bool
  deriving DecidableEq, Repr

/-- What VOUT_PCLK, VOUT_VSYNC, VOUT_HSYNC and VOUT_DE carry at a moment, `vin` being the VIN pins the fixed delay of R133
earlier and `at?` the position of a local frame that is being sent, if the moment lies outside the blanking. They follow
the input in FOLLOW with the output running and in TO_LOCAL (R133, R135). An idle output, as it stands after a full reset
too, has the data enable deasserted and the syncs inactive (R133, R137, R146). In a local frame the data enable is
asserted on its H lines of W pixels (R134). The syncs of a local frame and the clock of an output that does not follow the
input are free values (log entry 27). -/
def Gate.voutPins (g : Gate) (vin : VideoPins) (moment : Nat) (at? : Option (Nat × Nat)) : VideoPins :=
  match g.outputSource with
  | .idle => { clock := Config.ownClock moment, vsync := false, hsync := false, de := false }
  | .input => vin
  | .localFrame =>
    { clock := Config.ownClock moment
      vsync := Config.localVsync g.layout.w g.layout.h g.layout.refresh moment
      hsync := Config.localHsync g.layout.w g.layout.h g.layout.refresh moment
      de := at?.any fun p => decide (p.1 < g.layout.w ∧ p.2 < g.layout.h) }

/-- The period of a local frame in µs, rounded down: 1000/refresh ms (R134). -/
def Gate.localPeriod (g : Gate) : Nat := 1000000 / g.layout.refresh

end Sys2Proof.Machine
end

