-- ==== Sys2Proof/Machine/Mapper.lean ====
section
/-! DEFINITION. The arithmetic of the position mapper (chapter 5): smoothing (R82, R83), the affine mapping (R84)
and the clamp with its EDGE flag (R85). -/

namespace Sys2Proof.Machine

open Sys2Proof

/-- A display position with its EDGE flag (R85). -/
structure Position where
  x : Nat
  y : Nat
  edge : Bool
  deriving DecidableEq, Repr

/-- One smoothed coordinate after an update toward a median (R83); `a` is the smoothing shift. -/
def smooth (a s16 median : Nat) : Nat :=
  ((s16 : Int) + Int.tdiv ((median : Int) * 16 - s16) (2 ^ a)).toNat

/-- Rounding to the nearest pixel, halves up (R84). -/
def roundPixel (num : Int) : Int := Int.fdiv (num + 2 ^ 19) (2 ^ 20)

/-- The mapped x before the clamp (R84). -/
def Mapping.mapX (m : Mapping) (sx sy : Nat) : Int := roundPixel (m.xu * sx + m.xv * sy + m.x0)

/-- The mapped y before the clamp (R84). -/
def Mapping.mapY (m : Mapping) (sx sy : Nat) : Int := roundPixel (m.yu * sx + m.yv * sy + m.y0)

/-- Bring a mapped coordinate into 0 to `size` − 1 (R85). -/
def clampPixel (size : Nat) (v : Int) : Nat := min (size - 1) v.toNat

/-- Whether the clamp changed the coordinate. -/
def offEdge (size : Nat) (v : Int) : Bool := decide ((clampPixel size v : Int) ≠ v)

/-- The display position of a smoothed position under a policy (R84, R85). -/
def Policy.mapPosition (p : Policy) (sx sy : Nat) : Position :=
  let x := p.mapping.mapX sx sy
  let y := p.mapping.mapY sx sy
  { x := clampPixel p.geometry.w x
    y := clampPixel p.geometry.h y
    edge := offEdge p.geometry.w x || offEdge p.geometry.h y }

/-- The position the mapper holds, mapped under the active tables. -/
def State.heldPosition (s : State) : Position := s.active.mapPosition s.mapper.sx s.mapper.sy

/-- The mapper's state with its smoothed position moved toward the medians (R83). -/
def Mapper.smoothed (m : Mapper) (a x y : Nat) : Mapper := { m with sx := smooth a m.sx x, sy := smooth a m.sy y }

/-- The distance of two coordinates. -/
def distance (a b : Nat) : Nat := (a - b) + (b - a)

/-- Whether a position differs from the last reported one by at least the move threshold (R87). -/
def Mapper.moved (m : Mapper) (threshold : Nat) (q : Position) : Bool :=
  decide (threshold ≤ distance q.x m.lastX ∨ threshold ≤ distance q.y m.lastY)

end Sys2Proof.Machine
end

