-- ==== Sys2Proof/Machine/Switch.lean ====
section
/-! DEFINITION. The channel switch (chapter 3): the checks and the acceptance of a post, the limits of the
delivery queues, holding, the weighted choice, purges, space-wanted marks. -/

namespace Sys2Proof.Machine

open Sys2Proof

/-! ### Channels -/

/-- The channel numbered `n`, when there is one and it is OPEN in `p`. -/
def openChannel (p : Policy) (n : Nat) : Option Channel :=
  match p.channels[n]? with
  | some c => if c.state = .opened then some c else none
  | none => none

/-- Whether a channel has an APP endpoint. -/
def Channel.touchesApp (c : Channel) : Bool := decide (c.endA = .app ∨ c.endB = .app)

/-- The destination of a post from `d`: the other endpoint (R40). -/
def Channel.other (c : Channel) (d : Domain) : Domain := if c.endA = d then c.endB else c.endA

/-- Whether `d` is an endpoint. -/
def Channel.isEndpoint (c : Channel) (d : Domain) : Bool := decide (c.endA = d ∨ c.endB = d)

/-- Whether the direction permits a post from `d` (R40). -/
def Channel.permits (c : Channel) (d : Domain) : Bool :=
  match c.direction with
  | .aToB => decide (c.endA = d)
  | .bToA => decide (c.endB = d)
  | .both => true

/-- Whether slot `n` is in the channel's mask (R42). -/
def Channel.allowsSlot (c : Channel) (n : Nat) : Bool := (c.mask.getD 0).getLsbD n

/-- Whether a post from `d` on the channel is metered (R46). -/
def Channel.metered (c : Channel) (d : Domain) : Bool := decide (d = .app ∧ c.other d = .rad)

/-- The cost of a metered post of `n` payload bytes (R46). -/
def postCost (n : Nat) : Nat := n + 8

/-! ### Live slots -/

/-- The live bar of slot `n`. -/
def Switch.barred (w : Switch) (n : Nat) : Bool := w.bars[n]?.getD false

/-- The bucket level of slot `n`. -/
def Switch.level (w : Switch) (n : Nat) : Nat := w.levels[n]?.getD 0

/-! ### Queues -/

/-- All entries of a queue: the PRIORITY sub-queue, then the BULK sub-queue. -/
def DeliveryQueue.all (q : DeliveryQueue) : List Entry := q.entries.priority ++ q.entries.bulk

/-- The payload bytes of a list of entries. -/
def payloadBytes (es : List Entry) : Nat := (es.map fun e => e.payload.length).sum

/-- Apply `f` to each sub-queue. -/
def DeliveryQueue.mapLists (q : DeliveryQueue) (f : List Entry → List Entry) : DeliveryQueue :=
  { q with entries := ⟨f q.entries.priority, f q.entries.bulk⟩ }

/-- Most entries of a queue, and most payload bytes (R50). -/
def maxEntries : Nat := 24
def maxBytes : Nat := 6144
def maxBulkEntries : Nat := 18
def maxBulkBytes : Nat := 4608

/-- Whether there is room for an entry of class `c` and `n` payload bytes (R50). -/
def DeliveryQueue.hasRoom (q : DeliveryQueue) (c : Class) (n : Nat) : Bool :=
  let whole := decide (q.all.length + 1 ≤ maxEntries ∧ payloadBytes q.all + n ≤ maxBytes)
  match c with
  | .priority => whole
  | .bulk =>
    whole &&
      decide (q.entries.bulk.length + 1 ≤ maxBulkEntries ∧ payloadBytes q.entries.bulk + n ≤ maxBulkBytes)

/-- An entry joins at the newest end of its class's sub-queue (R45). -/
def DeliveryQueue.append (q : DeliveryQueue) (e : Entry) : DeliveryQueue :=
  { q with entries := q.entries.set e.cls (q.entries.get e.cls ++ [e]) }

/-! ### Space-wanted marks -/

/-- Half the limits of a class (R62): entries, bytes. -/
def halfLimits : Class → Nat × Nat
  | .priority => (12, 3072)
  | .bulk => (9, 2304)

/-- Whether a class has room again (R62). -/
def DeliveryQueue.roomAgain (q : DeliveryQueue) (c : Class) : Bool :=
  decide ((q.entries.get c).length ≤ (halfLimits c).1 ∧ payloadBytes (q.entries.get c) ≤ (halfLimits c).2)

/-- Set or clear the space-wanted mark of `source` for class `c` of a queue (R61). -/
def DeliveryQueue.setWanted (q : DeliveryQueue) (source : Domain) (c : Class) (v : Bool) : DeliveryQueue :=
  { q with wanted := q.wanted.set source ((q.wanted.get source).set c v) }

/-- Whether `source` holds a mark on the queue that class `c` now meets. -/
def DeliveryQueue.meets (q : DeliveryQueue) (source : Domain) (c : Class) : Bool :=
  q.roomAgain c && (q.wanted.get source).get c

/-- Link `d`'s queue judges the marks that `source` holds on it: QUEUE_SPACE for a mark that is met, and the
mark clears (R62). -/
def judgeSpaceOf (d source : Domain) (s : State) : State :=
  allClasses.foldl
    (fun s c =>
      if (s.queue d).meets source c then
        setFlag source .queueSpace (s.setQueue d ((s.queue d).setWanted source c false))
      else s) s

/-- After a removal from link `d`'s queue the switch judges all marks on it (R62). -/
def judgeSpace (d : Domain) (s : State) : State := allDomains.foldl (fun s source => judgeSpaceOf d source s) s

/-! ### Removals -/

/-- Remove the entries of `d`'s queue for which `gone` holds. -/
def removeFrom (d : Domain) (gone : Entry → Bool) (s : State) : State :=
  s.setQueue d ((s.queue d).mapLists fun es => es.filter fun e => !gone e)

/-- How many entries of `d`'s queue `gone` names. -/
def countIn (d : Domain) (gone : Entry → Bool) (s : State) : Nat := (s.queue d).all.countP gone

/-- Remove the named entries of `d`'s queue and judge the marks there if any went (R56, R62). -/
def purgeQueue (gone : Entry → Bool) (s : State) (d : Domain) : State :=
  if countIn d gone s = 0 then s else judgeSpace d (removeFrom d gone s)

/-- Whether a purge other than a reset's names the entry: `gone` holds and it is not in transmission (R16, R56). -/
def spares (gone : Entry → Bool) (e : Entry) : Bool := gone e && !e.sending

/-- A purge of SLOT-BAR, COMMIT or entering LOCKED over all three queues (R56). -/
def purge (gone : Entry → Bool) (s : State) : State := allDomains.foldl (purgeQueue (spares gone)) s

/-- The purged count of such a purge: how many entries it removes across the three queues (R56). -/
def purgeCount (gone : Entry → Bool) (s : State) : Nat :=
  (allDomains.map fun d => countIn d (spares gone) s).sum

/-! ### Holding -/

/-- Whether an entry's channel has hold policy HOLD in `p`. -/
def onHoldChannel (p : Policy) (e : Entry) : Bool :=
  match openChannel p e.channel with
  | some c => decide (c.hold = .hold)
  | none => false

/-- Change every entry of every queue by `f`. -/
def mapEntries (f : Entry → Entry) (s : State) : State :=
  allDomains.foldl (fun s d => s.setQueue d ((s.queue d).mapLists fun es => es.map f)) s

/-- Leaving OPEN: the entries on HOLD channels not in transmission are marked held (R51). -/
def markHeld (s : State) : State :=
  mapEntries (fun e => if !e.sending && onHoldChannel s.active e then { e with held := true } else e) s

/-- Entering OPEN: every held mark is removed (R52). -/
def releaseHeld (s : State) : State := mapEntries (fun e => { e with held := false }) s

/-- The held marks after a successful commit (R37, step 4). -/
def remarkHeld (s : State) : State :=
  mapEntries
    (fun e =>
      if e.sending then e
      else { e with held := decide (s.ctl.state ≠ .opened) && onHoldChannel s.active e }) s

/-- Whether an entry's channel has an APP endpoint in the active table (R58). -/
def onAppChannel (p : Policy) (e : Entry) : Bool :=
  match p.channels[e.channel]? with
  | some c => c.touchesApp
  | none => false

/-- Entering LOCKED purges every entry on a channel with an APP endpoint (R58). -/
def lockedPurge (s : State) : State := purge (onAppChannel s.active) s

/-! ### The weighted choice (R54) -/

/-- Whether an entry may be offered: neither held nor already in transmission. -/
def Entry.eligible (e : Entry) : Bool := !e.held && !e.sending

/-- The oldest eligible entry of class `c`. -/
def DeliveryQueue.oldest (q : DeliveryQueue) (c : Class) : Option Entry := (q.entries.get c).find? Entry.eligible

/-- Which class the switch offers from, and the run count afterwards (R54). -/
def DeliveryQueue.choose (q : DeliveryQueue) (weight : Nat) : Option (Class × Nat) :=
  match q.oldest .priority, q.oldest .bulk with
  | none, none => none
  | some _, none => some (.priority, 0)
  | none, some _ => some (.bulk, 0)
  | some _, some _ => if q.run < weight then some (.priority, q.run + 1) else some (.bulk, 0)

/-- Mark the first eligible entry of a list as in transmission. -/
def markSending : List Entry → List Entry
  | [] => []
  | e :: es => if e.eligible then { e with sending := true } :: es else e :: markSending es

/-- The queue once the entry offered from class `c` is in transmission. -/
def DeliveryQueue.offer (q : DeliveryQueue) (c : Class) (run : Nat) : DeliveryQueue :=
  { q with entries := q.entries.set c (markSending (q.entries.get c)), run := run }

/-- A DELIVERY completes: its entry leaves, and the marks are judged (R55, R62). -/
def deliveryDone (d : Domain) (s : State) : State := judgeSpace d (removeFrom d (fun e => e.sending) s)

/-! ### POST (R41) -/

/-- The payload of a POST body: everything after the channel byte. -/
def postPayload (body : List Byte) : List Byte := body.drop 1

/-- The channel number a POST body names. -/
def postChannel (body : List Byte) : Nat := byteAt body 0

/-- Checks 4 to 11 of R41 for a post from `d` on channel `c`; none when all pass. -/
def postChecks (s : State) (d : Domain) (slot : Nat) (c : Channel) (n : Nat) : Option Status :=
  if !c.isEndpoint d then some .notEndpoint
  else if !c.permits d then some .direction
  else if d = .app ∧ (8 ≤ slot ∨ !c.allowsSlot slot) then some .slotDenied
  else if d = .app ∧ s.switch.barred slot then some .slotBarred
  else if n = 0 then some .badLength
  else if n > c.maxPayload then some .tooLong
  else if s.ctl.state ≠ .opened ∧ c.hold = .refuse then some .held
  else if c.metered d ∧ s.switch.level slot < postCost n then some .quota
  else if !(s.queue (c.other d)).hasRoom c.cls n then some .queueFull
  else none

/-- Check 2 of R41. -/
def postLocked (s : State) (d : Domain) (channel : Nat) : Bool :=
  decide (s.ctl.state = .locked) &&
    (decide (d = .app) ||
      match openChannel s.active channel with
      | some c => c.touchesApp
      | none => false)

/-- The entry of an accepted post (R45, R49). -/
def postEntry (s : State) (d : Domain) (slot channel : Nat) (c : Channel) (payload : List Byte) : Entry :=
  { channel := channel
    source := d
    slot := if d = .app then some slot else none
    cls := c.cls
    held := decide (s.ctl.state ≠ .opened ∧ c.hold = .hold)
    sending := false
    payload := payload }

/-- Set the bucket level of slot `n`. -/
def setLevel (s : State) (n v : Nat) : State :=
  { s with switch := { s.switch with levels := s.switch.levels.setIfInBounds n v } }

/-- Acceptance (R45, steps 1 to 3). -/
def acceptPost (s : State) (d : Domain) (slot channel : Nat) (c : Channel) (payload : List Byte) : State :=
  let s1 := if c.metered d then setLevel s slot (s.switch.level slot - postCost payload.length) else s
  s1.setQueue (c.other d) ((s1.queue (c.other d)).append (postEntry s d slot channel c payload))

/-- POST (R41, R45, R61): the state after it and its status. -/
def runPost (d : Domain) (slot : Byte) (body : List Byte) (s : State) : State × Status × List Byte :=
  let channel := postChannel body
  let payload := postPayload body
  if s.generation = 0 then (s, .noPolicy, [])
  else if postLocked s d channel then (s, .locked, [])
  else match openChannel s.active channel with
    | none => (s, .noChannel, [])
    | some c =>
      match postChecks s d slot.toNat c payload.length with
      | none => (acceptPost s d slot.toNat channel c payload, .ok, [])
      | some .queueFull =>
        (s.setQueue (c.other d) ((s.queue (c.other d)).setWanted d c.cls true), .queueFull, [])
      | some st => (s, st, [])

/-! ### SLOT-BAR (R57) -/

/-- Whether an entry comes from app slot `n`. -/
def fromSlot (n : Nat) (e : Entry) : Bool := decide (e.source = .app ∧ e.slot = some n)

/-- Set the live bar of slot `n`. -/
def setBar (s : State) (n : Nat) (v : Bool) : State :=
  { s with switch := { s.switch with bars := s.switch.bars.setIfInBounds n v } }

/-- SLOT-BAR (R57). -/
def runSlotBar (body : List Byte) (s : State) : State × Status × List Byte :=
  let slot := byteAt body 0
  let action := byteAt body 1
  if 8 ≤ slot ∨ 2 ≤ action then (s, .badParameter, [])
  else if action = 1 then
    (setFlag .app .slotChange (purge (fromSlot slot) (setBar s slot true)), .ok,
      twoBytes (purgeCount (fromSlot slot) s))
  else (setFlag .app .slotChange (setBar s slot false), .ok, twoBytes 0)

/-! ### Refill (R47) -/

/-- The bucket levels after a refill: each rises by its slot's refill rate and stops at the depth. -/
def refilled (slots : Vector Slot 8) (levels : Vector Nat 8) : Vector Nat 8 :=
  Vector.ofFn fun i => min slots[i].depth (levels[i] + slots[i].refill)

/-- Every bucket is refilled at the rates of the active set (R47). -/
def refillLevels (s : State) : State :=
  { s with switch := { s.switch with levels := refilled s.active.slots s.switch.levels } }

/-! ### Link reset (R60) -/

/-- Clear every space-wanted mark that domain `d` holds. -/
def clearMarksOf (d : Domain) (s : State) : State :=
  allDomains.foldl
    (fun s q => s.setQueue q { s.queue q with wanted := (s.queue q).wanted.set d ⟨false, false⟩ }) s

/-- The switch's part of a link reset of `d` (R60): the queue is purged whole, the marks of `d` and the run count
are cleared, and the marks others hold on the queue are judged if anything went. -/
def switchLinkReset (d : Domain) (s : State) : State :=
  let s1 := purgeQueue (fun _ => true) (clearMarksOf d s) d
  s1.setQueue d { s1.queue d with run := 0 }

end Sys2Proof.Machine
end

