-- ==== Sys2Proof/Machine/Entry.lean ====
section
/-! DEFINITION. The entry controller (chapter 6) and its routing of events (chapter 5): the APP input-event queue,
the progress queue, leaving and entering OPEN, the course of a session, key resolution, the ends of a session,
LOCKED, and what each report of the gate does. -/

namespace Sys2Proof.Machine

open Sys2Proof

/-! ### The APP input-event queue (R97, R98) -/

/-- An event with the unused fields 0 and no flag. -/
def plainInput (kind : InputKind) : InputEvent :=
  { kind := kind, stroke := 0, x := 0, y := 0, key := none, edge := false, cancelled := false, unstable := false }

/-- A touch event. -/
def touchInput (kind : InputKind) (stroke : Nat) (q : Position) : InputEvent :=
  { plainInput kind with stroke := stroke, x := q.x, y := q.y, edge := q.edge }

/-- A key event. -/
def keyInput (kind : InputKind) (k : Key) : InputEvent := { plainInput kind with key := some k }

/-- The capacity of the input-event queue. -/
def maxInputs : Nat := 32

/-- Whether an event is a MOVE. -/
def InputEvent.isMove (e : InputEvent) : Bool := decide (e.kind = .move)

/-- Give up the oldest MOVE, or, where there is none, the oldest event (R98). -/
def dropOldest (es : List InputEvent) : List InputEvent :=
  if es.any InputEvent.isMove then es.eraseP InputEvent.isMove else es.drop 1

/-- The queue once `e` has been queued; the event in transmission, when there is one, is the head and is spared
(R97, R98). -/
def joinInput (sending : Bool) (es : List InputEvent) (e : InputEvent) : List InputEvent :=
  if es.length < maxInputs then es ++ [e]
  else if e.isMove then es
  else if sending then es.take 1 ++ dropOldest (es.drop 1) ++ [e]
  else dropOldest es ++ [e]

/-- Whether an INPUT frame is in transmission. -/
def State.inputSending (s : State) : Bool := (s.port .app).tx.any fun t => decide (t.source = .input)

/-- Queue an event to APP; a drop sets the lost mark (R98, R99). -/
def queueInput (e : InputEvent) (s : State) : State :=
  { s with
    inputs := joinInput s.inputSending s.inputs e
    lost := s.lost || !decide (s.inputs.length < maxInputs) }

/-! ### Progress (R113) -/

/-- The capacity of the progress queue. -/
def maxProgress : Nat := 8

/-- The progress queue once a frame has been queued: in a full queue it replaces the newest (R113). -/
def joinProgress (ps : List Progress) (p : Progress) : List Progress :=
  if ps.length < maxProgress then ps ++ [p] else ps.dropLast ++ [p]

/-- Queue an ENTRY-PROGRESS of the session to PAY. -/
def pushProgress (event : ProgressEvent) (count : Nat) (s : State) : State :=
  { s with progress := joinProgress s.progress { session := s.ctl.session, event := event, count := count } }

/-! ### Overlay sets (R105, R124, R139) -/

/-- The present cells of a policy, in ascending index order (R25). -/
def Policy.presentCells (p : Policy) : List Cell := p.cells.toList.filterMap id

/-- The cells with each DIGIT cell's glyph resolved: its base plus the digit the map gives it (R139). -/
def resolveCells (digits : List Nat) : List Cell → List Cell
  | [] => []
  | c :: cs =>
    if c.role = .digit then
      { c with glyph := some (c.glyph.getD 0 + digits.headD 0) } :: resolveCells digits.tail cs
    else c :: resolveCells digits cs

/-- The presentation of a session's overlay set. -/
def SessionPresentation.overlay? : SessionPresentation → Presentation
  | .overlay => .overlay
  | .full => .full

/-- The secure set of a session, with a DOTS count of 0 (R105, R124). -/
def secureSet (p : Policy) (r : Session) : OverlaySet :=
  { presentation := r.presentation.overlay?
    cells := match r.mode with
      | .pin => resolveCells r.digitMap p.presentCells
      | .calibrate => p.presentCells.filter fun c => decide (c.role = .label)
    dots := 0
    backdrop := p.geometry.backdrop }

/-- The lock set (R139). -/
def lockSet (p : Policy) : OverlaySet :=
  { presentation := .lock, cells := [], dots := 0, backdrop := p.geometry.backdrop }

/-- The controller writes a set to the gate's pending set. -/
def writeSet (o : OverlaySet) (s : State) : State := gateDo (fun g => g.write o) s

/-- The controller asks for LOCAL timing. -/
def askLocal (s : State) : State := gateDo Gate.askLocal s

/-- The controller asks for FOLLOW timing. -/
def askFollow (s : State) : State := gateDo Gate.askFollow s

/-! ### Leaving and entering OPEN -/

/-- Whether the glass is free: the scan state is NO_CONTACT or IDLE (R77, R105). -/
def State.glassFree (s : State) : Bool :=
  decide (s.frontEnd.scan = .noContact ∨ s.frontEnd.scan = .idle)

/-- The cancelling UP of an APP stroke (R96, step 1). -/
def cancelStroke (s : State) : State :=
  match s.ctl.appStroke with
  | none => s
  | some n =>
    let s1 := queueInput { touchInput .up n s.heldPosition with cancelled := true } s
    s1.setCtl { s1.ctl with appStroke := none }

/-- The cancelling RELEASE of one key (R96, step 2). -/
def cancelKey (s : State) (k : Key) : State :=
  if s.ctl.keyMarks.get k then
    let s1 := queueInput { keyInput .release k with cancelled := true } s
    s1.setCtl { s1.ctl with keyMarks := s1.ctl.keyMarks.set k false }
  else s

/-- What happens at the moment the controller leaves OPEN (R96, R51). -/
def leaveOpen (s : State) : State :=
  markHeld (queueInput (plainInput .focusLost) (allKeys.foldl cancelKey (cancelStroke s)))

/-- The controller enters OPEN (R118, R52, R95). -/
def enterOpen (s : State) : State :=
  disarmSilence
    (queueInput (plainInput .focusReturned) (releaseHeld (s.setCtl { s.ctl with state := .opened })))

/-- The controller enters RELEASING, and OPEN at once if the glass is free (R118). -/
def enterReleasing (s : State) : State :=
  let s1 := s.setCtl { s.ctl with state := .releasing }
  if s1.glassFree then enterOpen s1 else s1

/-! ### The ends of a session -/

/-- The ENTRY-END of a session ending in SECURE, or at a trip (R116, R126). -/
def buildEnd (outcome : SessionOutcome) (c : Controller) (r : Session) : EntryEnd :=
  match r.mode with
  | .pin =>
    { session := c.session, outcome := outcome, mode := .pin, count := c.buffer.length
      data := if outcome = .complete then .digits c.buffer else .absent }
  | .calibrate =>
    { session := c.session, outcome := outcome, mode := .calibrate, count := c.points.length
      data := if outcome = .complete then .points c.points else .absent }

/-- The ENTRY-END of a session ending in ARMING or PRESENTING (R119). -/
def buildEarlyEnd (outcome : SessionOutcome) (c : Controller) (r : Session) : EntryEnd :=
  { session := c.session, outcome := outcome, mode := r.mode, count := 0, data := .absent }

/-- The controller with the session's data erased and its timers stopped (R115, steps 2 and 3). -/
def Controller.erased (c : Controller) : Controller :=
  { c with
    buffer := [], points := [], candidate := .none, record := none
    firstKey := .stopped, interKey := .stopped, total := .stopped }

/-- The clear set is written, and in FULL presentation FOLLOW timing is asked for. -/
def removeOverlay (presentation : SessionPresentation) (s : State) : State :=
  let s1 := writeSet OverlaySet.clear s
  if presentation = .full then askFollow s1 else s1

/-- A session ends in SECURE (R115). -/
def endSecure (outcome : SessionOutcome) (r : Session) (s : State) : State :=
  let e := buildEnd outcome s.ctl r
  let s1 := removeOverlay r.presentation (s.setCtl s.ctl.erased)
  let s2 := { s1 with entryEnd := some e }
  disarmSilence (s2.setCtl { s2.ctl with state := .closing })

/-- A session ends in ARMING or PRESENTING (R119). -/
def endEarly (outcome : SessionOutcome) (r : Session) (s : State) : State :=
  let e := buildEarlyEnd outcome s.ctl r
  let s1 := s.setCtl s.ctl.erased
  let s2 := if s.ctl.state = .presenting then removeOverlay r.presentation s1 else s1
  enterReleasing (disarmSilence { s2 with entryEnd := some e })

/-- A session ends, in the state where it stands; outside ARMING, PRESENTING and SECURE there is none to end. -/
def endSession (outcome : SessionOutcome) (s : State) : State :=
  match s.ctl.record with
  | none => s
  | some r =>
    match s.ctl.state with
    | .arming => endEarly outcome r s
    | .presenting => endEarly outcome r s
    | .secure => endSecure outcome r s
    | .opened => s
    | .closing => s
    | .releasing => s
    | .locked => s

/-! ### The gate's reports -/

/-- The secure set has become active in PRESENTING (R106). -/
def enterSecure (r : Session) (s : State) : State :=
  pushProgress .presented 0
    (s.setCtl { s.ctl with state := .secure, firstKey := .running (1000 * r.firstKey), candidate := .none })

/-- What one report of the gate does (R106, R117, R121, R127). -/
def onReport (s : State) : GateReport → State
  | .setActive .secure =>
    match s.ctl.state, s.ctl.record with
    | .presenting, some r => enterSecure r s
    | _, _ => s
  | .setActive .clear => if s.ctl.state = .closing then enterReleasing s else s
  | .setActive .lock => if s.ctl.state = .locked then s.setCtl { s.ctl with lockShown := true } else s
  | .videoLoss =>
    match s.ctl.record with
    | none => s
    | some r =>
      if (s.ctl.state = .presenting ∨ s.ctl.state = .secure) ∧ r.presentation = .overlay then
        endSession .videoLost s
      else s

/-- The controller takes the reports that wait, oldest first. -/
def takeWave (s : State) : State := s.reports.foldl onReport { s with reports := [] }

/-- The controller takes every report of the gate. A report may bring about a write (a loss ends a session) whose
own activation is reported in turn (R140, R141); that second report brings about no other. -/
def takeReports (s : State) : State := takeWave (takeWave s)

/-! ### The course of a session -/

/-- The end of ARMING: the secure set is written and the controller enters PRESENTING (R105). -/
def endArming (s : State) : State :=
  match s.ctl.record with
  | none => s
  | some r =>
    let s1 := writeSet (secureSet s.active r) s
    let s2 := if r.presentation = .full then askLocal s1 else s1
    s2.setCtl { s2.ctl with state := .presenting }

/-- The front end's no-contact report (R77, R105, R118). -/
def noContactReport (s : State) : State :=
  match s.ctl.state with
  | .arming => takeReports (endArming s)
  | .releasing => enterOpen s
  | .opened => s
  | .presenting => s
  | .secure => s
  | .closing => s
  | .locked => s

/-- The next session number (R104, step 1). -/
def nextSession (n : Nat) : Nat := if n = 255 then 1 else n + 1

/-- The acceptance of an ENTRY-BEGIN (R104, steps 1 to 7). -/
def beginSession (r : Session) (s : State) : State :=
  let s1 := s.setCtl
    { s.ctl with
      session := nextSession s.ctl.session, record := some r, buffer := [], points := [], candidate := .none }
  let s2 := leaveOpen s1
  let s3 := startSilence (s2.setCtl { s2.ctl with total := .running (1000 * r.total), state := .arming })
  if s3.glassFree then takeReports (endArming s3) else s3

/-! ### Key resolution (R107–R112) -/

/-- The roles of touch cells (R107). -/
def Role.isTouch : Role → Bool
  | .digit => true
  | .enter => true
  | .clear => true
  | .back => true
  | .cancel => true
  | .dots => false
  | .band => false
  | .label => false

/-- Whether a point lies in the cell's inner rectangle under guard margin `g` (R107). -/
def Cell.innerHolds (c : Cell) (g x y : Nat) : Bool :=
  decide (c.x0 + g ≤ x ∧ x + g ≤ c.x1 ∧ c.y0 + g ≤ y ∧ y + g ≤ c.y1)

/-- The cell at index `i`, when it is present. -/
def Policy.cell? (p : Policy) (i : Nat) : Option Cell := p.cells[i]?.getD none

/-- Whether the touch cell at index `i` has the point in its inner rectangle. -/
def Policy.touches (p : Policy) (x y i : Nat) : Bool :=
  match p.cell? i with
  | none => false
  | some c => c.role.isTouch && c.innerHolds p.touch.guardMargin x y

/-- The touch cell whose inner rectangle holds the point. -/
def Policy.touchCellAt (p : Policy) (x y : Nat) : Option Nat := (List.range 20).find? fun i => p.touches x y i

/-- The number k of the DIGIT cell at index `i`: how many DIGIT cells stand before it (R25). -/
def Policy.digitRank (p : Policy) (i : Nat) : Nat :=
  (p.cells.toList.take i).countP fun c => c.any fun c => decide (c.role = .digit)

/-- An accepted key's effect on the timers (R112). -/
def acceptedKey (r : Session) (s : State) : State :=
  s.setCtl { s.ctl with firstKey := .stopped, interKey := .running (1000 * r.interKey) }

/-- The buffer takes a new value: the buffer, and the DOTS count of a new secure set when the length changed
(R112). -/
def setBuffer (ds : List Nat) (s : State) : State :=
  let s1 := s.setCtl { s.ctl with buffer := ds }
  if ds.length = s.ctl.buffer.length then s1 else writeSet { s.gate.pending with dots := ds.length } s1

/-- The key action of a DIGIT cell standing for `digit` (R111). -/
def pressDigit (r : Session) (digit : Nat) (s : State) : State :=
  let n := s.ctl.buffer.length
  if n < r.maxLength then
    let s1 := pushProgress .accepted (n + 1) (setBuffer (s.ctl.buffer ++ [digit]) (acceptedKey r s))
    if n + 1 = r.maxLength ∧ r.autoEnter then endSession .complete s1 else s1
  else pushProgress .full n s

/-- The key action of BACK (R111). -/
def pressBack (r : Session) (s : State) : State :=
  let n := s.ctl.buffer.length
  if n = 0 then pushProgress .empty 0 s
  else pushProgress .accepted (n - 1) (setBuffer s.ctl.buffer.dropLast (acceptedKey r s))

/-- The key action of CLEAR (R111). -/
def pressClear (r : Session) (s : State) : State := pushProgress .accepted 0 (setBuffer [] (acceptedKey r s))

/-- The key action of ENTER (R111). -/
def pressEnter (r : Session) (s : State) : State :=
  let n := s.ctl.buffer.length
  if r.least ≤ n then endSession .complete (acceptedKey r s) else pushProgress .short n s

/-- The key action of the touch cell at index `i` (R111). -/
def pressCell (r : Session) (i : Nat) (s : State) : State :=
  match s.active.cell? i with
  | none => s
  | some c =>
    match c.role with
    | .digit => pressDigit r (r.digitMap.getD (s.active.digitRank i) 0) s
    | .back => pressBack r s
    | .clear => pressClear r s
    | .enter => pressEnter r s
    | .cancel => endSession .cancelled s
    | .dots => s
    | .band => s
    | .label => s

/-- A PRESS in SECURE (R109, R125). -/
def sessionPress (r : Session) (k : Key) (s : State) : State :=
  match r.mode, k with
  | _, .cancel => endSession .cancelled s
  | .pin, .clear => pressClear r s
  | .pin, .enter => pressEnter r s
  | .pin, .fn => s
  | .calibrate, .clear => s
  | .calibrate, .enter => s
  | .calibrate, .fn => s

/-- A DOWN in SECURE: the candidate of a PIN session (R108). -/
def sessionDown (r : Session) (q : Position) (s : State) : State :=
  match r.mode with
  | .calibrate => s
  | .pin =>
    s.setCtl { s.ctl with candidate := match s.active.touchCellAt q.x q.y with
      | some i => .cell i
      | none => .none }

/-- A position update of the session stroke (R108, R124). -/
def sessionUpdate (r : Session) (q : Position) (s : State) : State :=
  match r.mode, s.ctl.candidate with
  | .pin, .cell i =>
    if s.active.touches q.x q.y i then s
    else pushProgress .void s.ctl.buffer.length (s.setCtl { s.ctl with candidate := .void })
  | _, _ => s

/-- A collected point (R124). -/
def addPoint (r : Session) (sx sy : Nat) (s : State) : State :=
  let ps := s.ctl.points ++ [(sx, sy)]
  let s1 := acceptedKey r s
  let s2 := s1.setCtl { s1.ctl with points := ps }
  if ps.length = r.least then endSession .complete s2 else s2

/-- An UP of the session stroke in SECURE (R108, R124). -/
def sessionUp (r : Session) (sx sy : Nat) (s : State) : State :=
  match r.mode with
  | .calibrate => addPoint r sx sy s
  | .pin =>
    let s1 := match s.ctl.candidate with
      | .cell i => pressCell r i s
      | .none => s
      | .void => s
    s1.setCtl { s1.ctl with candidate := .none }

/-! ### Routing (R92, R93) -/

/-- A DOWN of stroke `n`. -/
def routeDown (n : Nat) (q : Position) (s : State) : State :=
  match s.ctl.state, s.ctl.record with
  | .opened, _ =>
    let s1 := queueInput (touchInput .down n q) s
    s1.setCtl { s1.ctl with appStroke := some n }
  | .secure, some r => sessionDown r q (s.setCtl { s.ctl with sessionStroke := some n })
  | _, _ => s

/-- A position update of stroke `n`, with or without the move mark. -/
def routeUpdate (n : Nat) (q : Position) (move : Bool) (s : State) : State :=
  match s.ctl.state, s.ctl.record with
  | .opened, _ =>
    if move ∧ s.ctl.appStroke = some n then queueInput (touchInput .move n q) s else s
  | .secure, some r => if s.ctl.sessionStroke = some n then sessionUpdate r q s else s
  | _, _ => s

/-- The stroke marks once stroke `n` has ended (R93). -/
def endMarks (n : Nat) (s : State) : State :=
  s.setCtl
    { s.ctl with
      appStroke := if s.ctl.appStroke = some n then none else s.ctl.appStroke
      sessionStroke := if s.ctl.sessionStroke = some n then none else s.ctl.sessionStroke }

/-- An UP of stroke `n` at smoothed position (`sx`, `sy`). -/
def routeUp (n : Nat) (q : Position) (unstable : Bool) (sx sy : Nat) (s : State) : State :=
  match s.ctl.state, s.ctl.record with
  | .opened, _ =>
    if s.ctl.appStroke = some n then
      endMarks n (queueInput { touchInput .up n q with unstable := unstable } s)
    else endMarks n s
  | .secure, some r =>
    if s.ctl.sessionStroke = some n then takeReports (sessionUp r sx sy (endMarks n s)) else endMarks n s
  | _, _ => endMarks n s

/-- A PRESS of a side key. -/
def routePress (k : Key) (s : State) : State :=
  match s.ctl.state, s.ctl.record with
  | .opened, _ =>
    let s1 := queueInput (keyInput .press k) s
    s1.setCtl { s1.ctl with keyMarks := s1.ctl.keyMarks.set k true }
  | .secure, some r => sessionPress r k s
  | _, _ => s

/-- A RELEASE of a side key (R92, R94). -/
def routeRelease (k : Key) (s : State) : State :=
  if s.ctl.state = .opened ∧ s.ctl.keyMarks.get k then
    let s1 := queueInput (keyInput .release k) s
    s1.setCtl { s1.ctl with keyMarks := s1.ctl.keyMarks.set k false }
  else s

/-! ### LOCKED (R126) -/

/-- The ENTRY-END of a session that a trip ends, when one is live. -/
def placeTamperEnd (s : State) : State :=
  match s.ctl.record with
  | none => s
  | some r =>
    if s.ctl.state = .arming ∨ s.ctl.state = .presenting ∨ s.ctl.state = .secure then
      { s with entryEnd := some (buildEnd .tamper s.ctl r) }
    else s

/-- A tamper trip outside LOCKED (R126, R58, R156). -/
def enterLocked (s : State) : State :=
  let s1 := placeTamperEnd s
  let s2 := askLocal (writeSet (lockSet s.active) (s1.setCtl s1.ctl.erased))
  let s3 := if s.ctl.state = .opened then leaveOpen s2 else s2
  let s4 := disarmSilence
    (s3.setCtl
      { s3.ctl with state := .locked, lockShown := decide (s3.gate.active = lockSet s.active) })
  lockedPurge s4

/-- A tamper trip handed to the controller; in LOCKED it has no effect (R126). -/
def tamperTrip (s : State) : State := if s.ctl.state = .locked then s else takeReports (enterLocked s)

/-! ### The requests of the controller -/

/-- Whether a digit map is a permutation of 0–9 (R103, check 7). -/
def isDigitMap (ds : List Nat) : Bool := decide (ds.length = 10 ∧ ds.Nodup) && ds.all fun d => decide (d < 10)

/-- Checks 6 to 8 of R103. -/
def layoutChecks (p : Policy) (r : Session) : Option Status :=
  match r.mode with
  | .calibrate => none
  | .pin =>
    if p.presentCells = [] then some .noLayout
    else if !isDigitMap r.digitMap then some .badParameter
    else if r.least > r.maxLength then some .badParameter
    else none

/-- Checks 1 to 4 of R103. -/
def openChecks (s : State) : Option Status :=
  if s.generation = 0 then some .noPolicy
  else if s.ctl.state = .locked then some .locked
  else if s.ctl.state ≠ .opened then some .busy
  else if s.entryEnd ≠ none then some .busy
  else if s.sup.level = .belowAbort then some .supplyLow
  else none

/-- ENTRY-BEGIN (R103, R104). -/
def runEntryBegin (body : List Byte) (s : State) : State × Status × List Byte :=
  match openChecks s with
  | some st => (s, st, [])
  | none =>
    match sessionOf body with
    | none => (s, .badParameter, [])
    | some r =>
      match layoutChecks s.active r with
      | some st => (s, st, [])
      | none => (beginSession r s, .ok, [byte (nextSession s.ctl.session)])

/-- ENTRY-ABORT (R120). -/
def runEntryAbort (s : State) : State × Status × List Byte :=
  if s.ctl.state = .arming ∨ s.ctl.state = .presenting ∨ s.ctl.state = .secure then
    (takeReports (endSession .aborted s), .ok, [])
  else (s, .notActive, [])

/-- Whether any input is in its trip condition (R150). -/
def State.anyTrip (s : State) : Bool := s.sup.tamper.a.inTrip || s.sup.tamper.b.inTrip

/-- Both trip latches clear (R150). -/
def clearLatches (s : State) : State :=
  s.setSup
    { s.sup with
      tamper := ⟨{ s.sup.tamper.a with latch := false }, { s.sup.tamper.b with latch := false }⟩ }

/-- The effects of an accepted UNLOCK (R128). -/
def acceptUnlock (s : State) : State :=
  let s1 := askFollow (writeSet OverlaySet.clear (clearLatches s))
  takeReports (enterReleasing (s1.setCtl { s1.ctl with lockShown := false }))

/-- UNLOCK (R128). -/
def runUnlock (s : State) : State × Status × List Byte :=
  if s.ctl.state ≠ .locked then (s, .notActive, [])
  else if s.anyTrip then (s, .tamperActive, [])
  else if !s.ctl.lockShown then (s, .busy, [])
  else (acceptUnlock s, .ok, [])

/-! ### Timers (R114, R122, R123) -/

/-- An expiry of a session timer with this outcome. -/
def timerExpiry (t : Timer) (outcome : SessionOutcome) (s : State) : State :=
  if t.isRunning then endSession outcome s else s

end Sys2Proof.Machine
end

