-- ==== Sys2Proof/Machine/Touch.lean ====
section
/-! DEFINITION. The touch front end (chapter 4): pen detection, the ADC arbiter, the rank filter, the contact figure
and decision, the scan state machine; and the position mapper taking its reports (chapter 5). -/

namespace Sys2Proof.Machine

open Sys2Proof

/-! ### The panel drives (chapter 4, THE PANEL DRIVES) -/

/-- What a panel pin is driven to. -/
inductive PinDrive where
  | high | low | bias | open_
  deriving DecidableEq, Repr

/-- The drive of TP_XP, TP_XN, TP_YP, TP_YN in each arrangement. -/
def Arrangement.pins : Arrangement → PinDrive × PinDrive × PinDrive × PinDrive
  | .off => (.open_, .open_, .open_, .open_)
  | .detect => (.open_, .low, .bias, .open_)
  | .x => (.high, .low, .open_, .open_)
  | .y => (.open_, .open_, .high, .low)
  | .z1 => (.open_, .low, .high, .open_)
  | .z2 => (.open_, .low, .high, .open_)

/-- The panel pins. -/
inductive PanelPin where
  | xp | xn | yp | yn
  deriving DecidableEq, Repr

/-- What senses a pin. -/
inductive Sensor where
  | comparator | adc
  deriving DecidableEq, Repr

/-- The pin each arrangement senses, and by what. -/
def Arrangement.sensed : Arrangement → Option (PanelPin × Sensor)
  | .off => none
  | .detect => some (.yp, .comparator)
  | .x => some (.yp, .adc)
  | .y => some (.xp, .adc)
  | .z1 => some (.xp, .adc)
  | .z2 => some (.yn, .adc)

/-- The arrangements of a burst, in the order in which it takes the quantities (R67). -/
def burstOrder : List Arrangement := [.x, .y, .z1, .z2]

/-- The arrangement of the quantity after this one (R67); the last one stands until the burst's end. -/
def Arrangement.following : Arrangement → Arrangement
  | .off => .off
  | .detect => .detect
  | .x => .y
  | .y => .z1
  | .z1 => .z2
  | .z2 => .z2

/-! ### The rank filter (R69, R70) -/

/-- Insert into an ascending list. -/
def insertSorted (v : Nat) : List Nat → List Nat
  | [] => [v]
  | w :: ws => if v ≤ w then v :: w :: ws else w :: insertSorted v ws

/-- Sort into ascending order, equal values kept. -/
def sortCodes : List Nat → List Nat
  | [] => []
  | v :: vs => insertSorted v (sortCodes vs)

/-- The five codes of a quantity, sorted: s0 to s4 (R69). -/
def sortedCodes (c : Codes) : List Nat :=
  sortCodes [c.c0.toNat, c.c1.toNat, c.c2.toNat, c.c3.toNat, c.c4.toNat]

/-- The median s2 (R69). -/
def medianOf (c : Codes) : Nat := (sortedCodes c).getD 2 0

/-- The spread s3 − s1 (R69). -/
def spreadOf (c : Codes) : Nat := (sortedCodes c).getD 3 0 - (sortedCodes c).getD 1 0

/-- Whether a burst passes the spread check (R70). -/
def spreadPasses (b : Burst) (limit : Nat) : Bool :=
  decide (spreadOf b.x ≤ limit ∧ spreadOf b.y ≤ limit ∧ spreadOf b.z1 ≤ limit ∧ spreadOf b.z2 ≤ limit)

/-! ### The contact figure and decision (R71, R72) -/

/-- The contact figure C of the medians X, Z1, Z2 (R71). In ℕ, Z2 − Z1 is 0 when Z2 is below Z1. -/
def contactFigure (x z1 z2 : Nat) : Nat := if z1 = 0 then 65535 else min 65535 (x * (z2 - z1) / (16 * z1))

/-- The threshold that C is compared with, by the scan state at the burst's end (R72). -/
def Touch.threshold (t : Touch) : ScanState → Nat
  | .idle => t.cOn
  | .noContact => t.cOn
  | .pending => t.cOn
  | .contact => t.cOff
  | .lifting => t.cOff

/-- The three kinds of scan. -/
inductive ScanKind where
  | contact (x y : Nat)
  | noContact
  | rejected
  deriving DecidableEq, Repr

/-- The kind of scan a burst makes, under the burst settings and in the scan state at its end (R70–R72). -/
def burstKind (b : Burst) (t : Touch) (st : ScanState) : ScanKind :=
  if !spreadPasses b t.spreadLimit then .rejected
  else if contactFigure (medianOf b.x) (medianOf b.z1) (medianOf b.z2) ≤ t.threshold st then
    .contact (medianOf b.x) (medianOf b.y)
  else .noContact

/-! ### The scan state machine (R73–R76) -/

/-- A report of the front end to the mapper (R76). -/
inductive TouchReport where
  | start (x y : Nat)
  | track (x y : Nat)
  | down (x y : Nat)
  | up (unstable : Bool)
  | drop
  deriving DecidableEq, Repr

/-- A contact scan (R73, R74). That a count which is discarded, or whose debounce completes, stands at 0 afterwards is the
model's choice (DESIGN CHOICE, log entry 25): the rules name no value for it outside PENDING and LIFTING. -/
def FrontEnd.contactScan (f : FrontEnd) (downDebounce x y : Nat) : FrontEnd × List TouchReport :=
  match f.scan with
  | .idle => (f, [])
  | .noContact =>
    if downDebounce ≤ 1 then ({ f with scan := .contact, down := 0, lift := 0 }, [.start x y, .down x y])
    else ({ f with scan := .pending, down := 1, lift := 0 }, [.start x y])
  | .pending =>
    if f.down + 1 < downDebounce then ({ f with down := f.down + 1 }, [.track x y])
    else ({ f with scan := .contact, down := 0 }, [.down x y])
  | .contact => (f, [.track x y])
  | .lifting => ({ f with scan := .contact, lift := 0 }, [.track x y])

/-- A no-contact scan (R73, R74). That a count which is discarded, or whose debounce completes, stands at 0 afterwards is
the model's choice (DESIGN CHOICE, log entry 25). -/
def FrontEnd.noContactScan (f : FrontEnd) (upDebounce : Nat) : FrontEnd × List TouchReport :=
  match f.scan with
  | .idle => (f, [])
  | .noContact => (f, [])
  | .pending => ({ f with scan := .noContact, down := 0 }, [.drop])
  | .contact =>
    if upDebounce ≤ 1 then ({ f with scan := .noContact }, [.up false])
    else ({ f with scan := .lifting, lift := 1 }, [])
  | .lifting =>
    if f.lift + 1 < upDebounce then ({ f with lift := f.lift + 1 }, [])
    else ({ f with scan := .noContact, lift := 0 }, [.up false])

/-- A rejected scan (R75): the sixteenth in a row settles the stroke, and a discarded count stands at 0 (DESIGN CHOICE, log
entry 25). -/
def FrontEnd.rejectedScan (f : FrontEnd) : FrontEnd × List TouchReport :=
  if f.reject + 1 < 16 then ({ f with reject := f.reject + 1 }, [])
  else
    match f.scan with
    | .idle => ({ f with reject := 0 }, [])
    | .noContact => ({ f with reject := 0 }, [])
    | .pending => ({ f with scan := .noContact, down := 0, reject := 0 }, [.drop])
    | .contact => ({ f with scan := .noContact, reject := 0 }, [.up true])
    | .lifting => ({ f with scan := .noContact, lift := 0, reject := 0 }, [.up true])

/-- The scan state machine takes one scan under settings `t` (R73–R75). -/
def FrontEnd.apply (f : FrontEnd) (t : Touch) : ScanKind → FrontEnd × List TouchReport
  | .contact x y => FrontEnd.contactScan { f with reject := 0 } t.downDebounce x y
  | .noContact => FrontEnd.noContactScan { f with reject := 0 } t.upDebounce
  | .rejected => f.rejectedScan

/-! ### The mapper takes a report (R82–R88) -/

/-- START (R82). -/
def Mapper.start (m : Mapper) (x y : Nat) : Mapper := { m with sx := x * 16, sy := y * 16, tracking := true }

/-- DOWN (R83, R86). -/
def mapperDown (x y : Nat) (s : State) : State :=
  if s.mapper.tracking then
    let m := s.mapper.smoothed s.active.touch.shift x y
    let q := s.active.mapPosition m.sx m.sy
    let n := (m.stroke + 1) % 256
    routeDown n q
      { s with mapper := { m with stroke := n, strokeOpen := true, lastX := q.x, lastY := q.y } }
  else s

/-- TRACK (R83, R87). -/
def mapperTrack (x y : Nat) (s : State) : State :=
  if s.mapper.tracking then
    let m := s.mapper.smoothed s.active.touch.shift x y
    if m.strokeOpen then
      let q := s.active.mapPosition m.sx m.sy
      let move := m.moved s.active.touch.moveThreshold q
      routeUpdate m.stroke q move
        { s with mapper := if move then { m with lastX := q.x, lastY := q.y } else m }
    else { s with mapper := m }
  else s

/-- UP (R88). -/
def mapperUp (unstable : Bool) (s : State) : State :=
  routeUp s.mapper.stroke s.heldPosition unstable s.mapper.sx s.mapper.sy
    { s with mapper := { s.mapper with strokeOpen := false, tracking := false } }

/-- The mapper takes one report (R82–R88). -/
def takeTouch (s : State) : TouchReport → State
  | .start x y => { s with mapper := s.mapper.start x y }
  | .track x y => mapperTrack x y s
  | .down x y => mapperDown x y s
  | .up unstable => mapperUp unstable s
  | .drop => { s with mapper := { s.mapper with tracking := false } }

/-! ### Scans and the ADC arbiter (R65–R68) -/

/-- A scan ends: the scan state machine takes it, the mapper takes the reports in order, and at an entry into
NO_CONTACT the no-contact report follows them (R77, R89). -/
def endScan (t : Touch) (k : ScanKind) (s : State) : State :=
  let before := s.frontEnd.scan
  let (f, reports) := s.frontEnd.apply t k
  let s1 := reports.foldl takeTouch { s with frontEnd := { f with progress := .none } }
  if before ≠ .noContact ∧ f.scan = .noContact then noContactReport s1 else s1

/-- The ADC is granted to the burst: the panel takes the arrangement of the first quantity, X (R67). -/
def grantBurst (s : State) : State :=
  { s with
    adc := { s.adc with use := .burst }
    frontEnd := { s.frontEnd with progress := .burstRunning, panel := .x } }

/-- The ADC is granted to a supply conversion. -/
def grantSupply (s : State) : State := { s with adc := { use := .supply, supplyWaiting := false } }

/-- The front end requests the ADC for a burst (R66, R68). -/
def requestBurst (s : State) : State :=
  if s.adc.use = .free then grantBurst s
  else { s with frontEnd := { s.frontEnd with progress := .burstWaiting } }

/-- The supervisor requests a supply conversion (R151, R68). -/
def requestSupply (s : State) : State :=
  if s.adc.use = .free then grantSupply s else { s with adc := { s.adc with supplyWaiting := true } }

/-- The activity in use has ended: the arbiter grants what waits (R68). Where both wait, R68 gives no order and a
free value of Config decides (log entry 4). -/
def grantNext (s : State) : State :=
  match decide (s.frontEnd.progress = .burstWaiting), s.adc.supplyWaiting with
  | false, false => { s with adc := { s.adc with use := .free } }
  | true, false => grantBurst s
  | false, true => grantSupply s
  | true, true =>
    let s1 := { s with arbiterCount := s.arbiterCount + 1 }
    if Config.arbiterGrantsBurst s.arbiterCount then grantBurst s1 else grantSupply s1

/-- The fifth conversion of a quantity completes: the panel takes the next quantity's arrangement while a burst runs
(R67). The table has no row for it, so it is what a step does when no command waits (log entry 19). -/
def panelTick (s : State) : State :=
  if s.frontEnd.progress = .burstRunning then
    { s with frontEnd := { s.frontEnd with panel := s.frontEnd.panel.following } }
  else s

/-- Whether the comparator reports a pen: the plate lies below t/256 of AVDD (R66). `plate` is in 1/65536 of
AVDD. -/
def penDetected (threshold : Nat) (plate : Word16) : Bool := decide (plate.toNat < threshold * 256)

/-- A scan begins with pen detection (R66); its settings are the active touch record (R67, R78). -/
def beginScan (plate : Word16) (s : State) : State :=
  let s1 := { s with frontEnd := { s.frontEnd with progress := .penDetect, settings := s.active.touch } }
  if penDetected s.active.touch.penThreshold plate then requestBurst s1
  else endScan s.active.touch .noContact s1

/-- The scan timer expires (R65): the next interval is the present scan period, and a scan begins if the previous
one has ended. -/
def scanExpiry (plate : Word16) (s : State) : State :=
  if s.frontEnd.timer.isRunning then
    let s1 := { s with frontEnd := { s.frontEnd with timer := .running s.active.touch.scanPeriod } }
    if s.frontEnd.progress = .none then beginScan plate s1 else s1
  else s

/-- A burst ends with its twentieth conversion (R67), whatever quantity the ticks had reached (log entry 19): the
panel returns to the detect arrangement, the ADC is released, and the codes are judged under the burst settings. -/
def burstDone (codes : Burst) (s : State) : State :=
  if s.adc.use = .burst ∧ s.frontEnd.progress = .burstRunning then
    let k := burstKind codes s.frontEnd.settings s.frontEnd.scan
    let s1 := { s with frontEnd := { s.frontEnd with progress := .none, panel := .detect } }
    endScan s.frontEnd.settings k (grantNext s1)
  else s

/-- The commit that raises the generation from 0 starts the front end, with its counts at 0 (R64). -/
def startFrontEnd (s : State) : State :=
  if s.frontEnd.scan = .idle then
    noContactReport
      { s with frontEnd :=
          { s.frontEnd with
            scan := .noContact, down := 0, lift := 0, reject := 0, panel := .detect, progress := .none
            timer := .running s.active.touch.scanPeriod } }
  else s

/-! ### The side keys (R90) -/

/-- A key's input takes a level: the timer starts when it comes to differ from the debounced level, and stops when
it returns (R90). -/
def SideKey.input (k : SideKey) (level : Level) (debounce : Nat) : SideKey :=
  let differs := decide (level = .low) != k.pressed
  { k with
    pin := level
    timer := if differs then (if k.timer.isRunning then k.timer else .running debounce) else .stopped }

/-- Side key `k`. -/
def State.key (s : State) (k : Key) : SideKey := s.keys.get k

/-- Replace side key `k`. -/
def State.setKey (s : State) (k : Key) (v : SideKey) : State := { s with keys := s.keys.set k v }

/-- A debounce timer expires: the debounced level takes the input's level, and the PRESS or RELEASE is handed to
the controller (R90). -/
def debounceExpiry (k : Key) (s : State) : State :=
  if (s.key k).timer.isRunning then
    let pressed := decide ((s.key k).pin = .low)
    let s1 := s.setKey k { s.key k with pressed := pressed, timer := .stopped }
    if pressed then routePress k s1 else routeRelease k s1
  else s

end Sys2Proof.Machine
end

