-- ==== Sys2Proof/Machine/Supervisor.lean ====
section
/-! DEFINITION. The supervisor (chapter 8): tamper inputs, trips and latches, the supply measurement and its level
state. The PAY silence timer's operations stand in Machine/Ops.lean. -/

namespace Sys2Proof.Machine

open Sys2Proof

/-! ### Tamper inputs (R147–R150) -/

/-- The trip condition of a sense (chapter 8, TAMPER INPUTS). -/
def Sense.met (sense : Sense) (filtered normal : Level) : Bool :=
  match sense with
  | .disabled => false
  | .tripLow => decide (filtered = .low)
  | .tripHigh => decide (filtered = .high)
  | .tripChange => decide (filtered ≠ normal)

/-- A tamper pin takes a level: the filter timer starts when it comes to differ from the filtered level and stops
when it returns (R147). -/
def Tamper.input (t : Tamper) (level : Level) : Tamper :=
  { t with
    pin := level
    timer := if level ≠ t.filtered then (if t.timer.isRunning then t.timer else .running filterTime) else .stopped }

/-- A trip of input `i` (R149). -/
def trip (i : TamperInput) (s : State) : State :=
  let s1 := s.setTamper i { s.tamper i with latch := true }
  if s.ctl.state = .locked then s1 else tamperTrip (setFlag .pay .tamper s1)

/-- The trip condition of input `i` judged afresh under the active sense; its beginning is a trip (R148, R149). -/
def judgeTamper (i : TamperInput) (s : State) : State :=
  let t := s.tamper i
  let now := (s.active.supervision.sense.get i).met t.filtered t.normal
  let s1 := s.setTamper i { t with inTrip := now }
  if now && !t.inTrip then trip i s1 else s1

/-- A filter timer expires (R147). -/
def filterExpiry (i : TamperInput) (s : State) : State :=
  if (s.tamper i).timer.isRunning then
    judgeTamper i (s.setTamper i { s.tamper i with filtered := (s.tamper i).pin, timer := .stopped })
  else s

/-- The normal level of input `i` at a successful commit: latched when the sense becomes TRIP_CHANGE, having been
any other (R39, R148). -/
def latchNormal (old new : Sense) (t : Tamper) : Tamper :=
  if new = .tripChange ∧ old ≠ .tripChange then { t with normal := t.filtered } else t

/-! ### Supply (R152–R154) -/

/-- A conversion's code in mV (R152). -/
def millivolts (code : AdcCode) : Nat := (code.toNat * 4800 + 2047) / 4095

/-- The supply level state after a measurement (R153). -/
def SupplyLevel.next (l : SupplyLevel) (warn abort m : Nat) : SupplyLevel :=
  match l with
  | .normal => if m < abort then .belowAbort else if m < warn then .belowWarn else .normal
  | .belowWarn => if m < abort then .belowAbort else if m < warn + 50 then .belowWarn else .normal
  | .belowAbort => if m < abort + 50 then .belowAbort else if m < warn + 50 then .belowWarn else .normal

/-- SUPPLY_WARN for PAY and APP (R154). -/
def warnSupply (s : State) : State := setFlag .app .supplyWarn (setFlag .pay .supplyWarn s)

/-- SUPPLY_LOW for PAY, and the supply report, which ends a live session (R154, R122). -/
def lowSupply (s : State) : State := takeReports (endSession .supplyLow (setFlag .pay .supplyLow s))

/-- The effect of a move of the level state (R154). -/
def supplyMove (old new : SupplyLevel) (s : State) : State :=
  match old, new with
  | .normal, .belowWarn => warnSupply s
  | .belowWarn, .belowAbort => lowSupply s
  | .normal, .belowAbort => lowSupply (warnSupply s)
  | _, _ => s

/-- A measurement of `m` mV is taken (R152–R155). -/
def measure (m : Nat) (s : State) : State :=
  let new := s.sup.level.next s.active.supervision.warn s.active.supervision.abort m
  supplyMove s.sup.level new (s.setSup { s.sup with measurement := m, level := new })

/-- A supply conversion ends (R68, R152): the measurement is taken and the arbiter grants what waits. -/
def supplyDone (code : AdcCode) (s : State) : State :=
  if s.adc.use = .supply then measure (millivolts code) (grantNext s) else s

end Sys2Proof.Machine
end

