-- ==== Sys2Proof/Machine/Policy.lean ====
section
/-! DEFINITION. The policy tables (chapter 2): the walk of a LOAD body, the judgement of one record, REVERT,
validation, and what a successful COMMIT does to every block. -/

namespace Sys2Proof.Machine

open Sys2Proof

/-! ### Records (chapter 2, RECORD LAYOUTS) -/

/-- The record kinds. -/
inductive RecordKind where
  | channel | slot | cell | glyph | geometry | touch | mapping | supervision | keys | noticeMode | link
  deriving DecidableEq, Repr

/-- Record kind codes. -/
def recordKindOf : Nat → Option RecordKind
  | 1 => some .channel
  | 2 => some .slot
  | 3 => some .cell
  | 4 => some .glyph
  | 5 => some .geometry
  | 6 => some .touch
  | 7 => some .mapping
  | 8 => some .supervision
  | 9 => some .keys
  | 10 => some .noticeMode
  | 11 => some .link
  | _ => none

/-- The field bytes of each kind. -/
def RecordKind.fieldBytes : RecordKind → Nat
  | .channel => 9
  | .slot => 5
  | .cell => 17
  | .glyph => 160
  | .geometry => 8
  | .touch => 12
  | .mapping => 20
  | .supervision => 8
  | .keys => 1
  | .noticeMode => 2
  | .link => 1

/-- How many indices each kind has (R22, step 1). -/
def RecordKind.indices : RecordKind → Nat
  | .channel => 32
  | .slot => 8
  | .cell => 20
  | .glyph => 64
  | .geometry => 1
  | .touch => 1
  | .mapping => 1
  | .supervision => 1
  | .keys => 1
  | .noticeMode => 3
  | .link => 3

/-- A located record. -/
structure RawRecord where
  kind : RecordKind
  index : Nat
  fields : List Byte
  deriving DecidableEq, Repr

/-- How a walk ends (R21): with BAD_LENGTH, or with the located records and the number of records that could not
be located, the one of unknown kind first. -/
inductive Walk where
  | badLength
  | located (records : List RawRecord) (unlocated : Nat)
  deriving DecidableEq, Repr

/-- The walk over the records of a LOAD body (R21). -/
def walkRecords : Nat → List Byte → Walk
  | 0, rest => if rest = [] then .located [] 0 else .badLength
  | _ + 1, [] => .badLength
  | n + 1, k :: rest =>
    match recordKindOf k.toNat with
    | none => .located [] (n + 1)
    | some kind =>
      if rest.length < kind.fieldBytes + 1 then .badLength
      else
        match walkRecords n (rest.drop (kind.fieldBytes + 1)) with
        | .badLength => .badLength
        | .located rs u =>
          .located ({ kind := kind, index := byteAt rest 0, fields := (rest.drop 1).take kind.fieldBytes } :: rs) u

/-- What becomes of one record (R22): refused with a reason, or staged with the number of the first clamped field
(0 when none was clamped). -/
inductive Judged where
  | refused (reason : Nat)
  | staged (p : Policy) (clamped : Nat)
  deriving DecidableEq, Repr

/-- Refusal reasons (chapter 2, RECORD LAYOUTS). -/
def unknownKind : Nat := 1
def badIndex : Nat := 2
def badEnum : Nat := 3
def notReached : Nat := 4

/-- The number of the first field marked as clamped; 0 when none is. -/
def firstClamped : List (Nat × Bool) → Nat
  | [] => 0
  | (n, c) :: rest => if c then n else firstClamped rest

/-- Whether a value lies outside `lo`–`hi`. -/
def outside (lo hi v : Nat) : Bool := decide (v < lo ∨ hi < v)

/-- The colour at offset `i`, each component clamped to 0–63. -/
def colourAt (fields : List Byte) (i : Nat) : Rgb :=
  ⟨min 63 (byteAt fields i), min 63 (byteAt fields (i + 1)), min 63 (byteAt fields (i + 2))⟩

/-- Whether a component of the colour at offset `i` is out of range. -/
def colourOutside (fields : List Byte) (i : Nat) : Bool :=
  outside 0 63 (byteAt fields i) || outside 0 63 (byteAt fields (i + 1)) || outside 0 63 (byteAt fields (i + 2))

/-- CHANNEL (R23). -/
def judgeChannel (p : Policy) (index : Nat) (f : List Byte) : Judged :=
  match channelStateOf (byteAt f 0), domainOf (byteAt f 1), domainOf (byteAt f 2), directionOf (byteAt f 3),
      classOf (byteAt f 4), holdOf (byteAt f 8) with
  | some st, some a, some b, some dir, some cls, some held =>
    let most := wordAt f 5
    let c : Channel :=
      { state := st, endA := a, endB := b, direction := dir, cls := cls, maxPayload := clamp 1 480 most
        mask := if a = .app ∨ b = .app then some (byte (byteAt f 7)) else none, hold := held }
    .staged { p with channels := p.channels.setIfInBounds index c } (firstClamped [(6, outside 1 480 most)])
  | _, _, _, _, _, _ => .refused badEnum

/-- SLOT (R24). -/
def judgeSlot (p : Policy) (index : Nat) (f : List Byte) : Judged :=
  match yesNoOf (byteAt f 0) with
  | none => .refused badEnum
  | some barred =>
    let refill := wordAt f 3
    let r : Slot := { barred := barred, depth := wordAt f 1, refill := min 4095 refill }
    .staged { p with slots := p.slots.setIfInBounds index r } (firstClamped [(3, outside 0 4095 refill)])

/-- The highest glyph value of a role (R25). -/
def maxGlyph (r : Role) : Nat := if r = .digit then 54 else 63

/-- CELL (R25). A record with role NONE deletes the cell; a glyph is looked at when glyph present is yes. -/
def judgeCell (p : Policy) (index : Nat) (f : List Byte) : Judged :=
  match roleOf (byteAt f 0), yesNoOf (byteAt f 15) with
  | some none, some _ => .staged { p with cells := p.cells.setIfInBounds index none } 0
  | some (some role), some present =>
    let glyph := byteAt f 16
    let c : Cell :=
      { role := role
        x0 := min 1023 (wordAt f 1), y0 := min 1279 (wordAt f 3)
        x1 := min 1023 (wordAt f 5), y1 := min 1279 (wordAt f 7)
        fill := colourAt f 9, ink := colourAt f 12
        glyph :=
          if present then some (min (maxGlyph role) glyph) else if role = .digit then some 0 else none }
    .staged { p with cells := p.cells.setIfInBounds index (some c) }
      (firstClamped
        [(2, outside 0 1023 (wordAt f 1)), (3, outside 0 1279 (wordAt f 3)), (4, outside 0 1023 (wordAt f 5)),
         (5, outside 0 1279 (wordAt f 7)), (6, colourOutside f 9), (7, colourOutside f 12),
         (9, present && outside 0 (maxGlyph role) glyph)])
  | _, _ => .refused badEnum

/-- GLYPH (R26). -/
def judgeGlyph (p : Policy) (index : Nat) (f : List Byte) : Judged :=
  .staged { p with glyphs := p.glyphs.setIfInBounds index f } 0

/-- GEOMETRY (R27). -/
def judgeGeometry (p : Policy) (f : List Byte) : Judged :=
  .staged
    { p with geometry :=
        { w := clamp 128 1024 (wordAt f 0), h := clamp 128 1280 (wordAt f 2), refresh := clamp 30 60 (byteAt f 4)
          backdrop := colourAt f 5 } }
    (firstClamped
      [(1, outside 128 1024 (wordAt f 0)), (2, outside 128 1280 (wordAt f 2)), (3, outside 30 60 (byteAt f 4)),
       (4, colourOutside f 5)])

/-- TOUCH (R28). -/
def judgeTouch (p : Policy) (f : List Byte) : Judged :=
  .staged
    { p with touch :=
        { scanPeriod := clamp 2 20 (byteAt f 0), spreadLimit := byteAt f 1, cOn := wordAt f 2, cOff := wordAt f 4
          downDebounce := clamp 1 8 (byteAt f 6), upDebounce := clamp 1 8 (byteAt f 7)
          shift := min 4 (byteAt f 8), moveThreshold := min 15 (byteAt f 9), penThreshold := byteAt f 10
          guardMargin := min 15 (byteAt f 11) } }
    (firstClamped
      [(1, outside 2 20 (byteAt f 0)), (5, outside 1 8 (byteAt f 6)), (6, outside 1 8 (byteAt f 7)),
       (7, outside 0 4 (byteAt f 8)), (8, outside 0 15 (byteAt f 9)), (10, outside 0 15 (byteAt f 11))])

/-- MAPPING (R29). -/
def judgeMapping (p : Policy) (f : List Byte) : Judged :=
  .staged
    { p with mapping :=
        { xu := signedAt f 0 3, xv := signedAt f 3 3, x0 := signedAt f 6 4
          yu := signedAt f 10 3, yv := signedAt f 13 3, y0 := signedAt f 16 4 } }
    0

/-- SUPERVISION (R30). -/
def judgeSupervision (p : Policy) (f : List Byte) : Judged :=
  match senseOf (byteAt f 0), senseOf (byteAt f 1) with
  | some a, some b =>
    .staged
      { p with supervision :=
          { sense := ⟨a, b⟩, warn := clamp 3000 4200 (wordAt f 2), abort := clamp 2800 4000 (wordAt f 4)
            paySilence := clamp 250 10000 (wordAt f 6) } }
      (firstClamped
        [(3, outside 3000 4200 (wordAt f 2)), (4, outside 2800 4000 (wordAt f 4)),
         (5, outside 250 10000 (wordAt f 6))])
  | _, _ => .refused badEnum

/-- KEYS (R30). -/
def judgeKeys (p : Policy) (f : List Byte) : Judged :=
  .staged { p with debounce := clamp 5 50 (byteAt f 0) } (firstClamped [(1, outside 5 50 (byteAt f 0))])

/-- NOTICE-MODE (R31). -/
def judgeNoticeMode (p : Policy) (d : Domain) (f : List Byte) : Judged :=
  match reportModeOf (byteAt f 0), clearModeOf (byteAt f 1) with
  | some report, some clear => .staged { p with notices := p.notices.set d ⟨report, clear⟩ } 0
  | _, _ => .refused badEnum

/-- LINK (R31). -/
def judgeLink (p : Policy) (d : Domain) (f : List Byte) : Judged :=
  .staged { p with weights := p.weights.set d (clamp 1 15 (byteAt f 0)) }
    (firstClamped [(1, outside 1 15 (byteAt f 0))])

/-- One located record is judged and staged (R22). -/
def judgeRecord (p : Policy) (r : RawRecord) : Judged :=
  if r.kind.indices ≤ r.index then .refused badIndex
  else
    match r.kind, domainOf r.index with
    | .channel, _ => judgeChannel p r.index r.fields
    | .slot, _ => judgeSlot p r.index r.fields
    | .cell, _ => judgeCell p r.index r.fields
    | .glyph, _ => judgeGlyph p r.index r.fields
    | .geometry, _ => judgeGeometry p r.fields
    | .touch, _ => judgeTouch p r.fields
    | .mapping, _ => judgeMapping p r.fields
    | .supervision, _ => judgeSupervision p r.fields
    | .keys, _ => judgeKeys p r.fields
    | .noticeMode, some d => judgeNoticeMode p d r.fields
    | .link, some d => judgeLink p d r.fields
    | .noticeMode, none => .refused badIndex
    | .link, none => .refused badIndex

/-- The status and reason bytes of a record in the LOAD reply. -/
def Judged.report : Judged → List Byte
  | .refused reason => [2, byte reason]
  | .staged _ 0 => [0, 0]
  | .staged _ (n + 1) => [1, byte (n + 1)]

/-- The staging set after a record. -/
def Judged.policy (p : Policy) : Judged → Policy
  | .refused _ => p
  | .staged q _ => q

/-- The located records, one at a time (R22): the staging set after them and their reports. -/
def stageRecords (p : Policy) : List RawRecord → Policy × List Byte
  | [] => (p, [])
  | r :: rs =>
    let j := judgeRecord p r
    let (q, out) := stageRecords (j.policy p) rs
    (q, j.report ++ out)

/-- The reports of the records that could not be located (R21). -/
def unlocatedReports : Nat → List Byte
  | 0 => []
  | n + 1 => [2, byte unknownKind] ++ (List.replicate n [2, byte notReached]).flatten

/-- LOAD (R21, R22). -/
def runLoad (body : List Byte) (s : State) : State × Status × List Byte :=
  let count := byteAt body 0
  if count = 0 ∨ 16 < count then (s, .badParameter, [])
  else
    match walkRecords count (body.drop 1) with
    | .badLength => (s, .badLength, [])
    | .located rs u =>
      ({ s with staging := (stageRecords s.staging rs).1 }, .ok,
        byte count :: ((stageRecords s.staging rs).2 ++ unlocatedReports u))

/-- REVERT (R33). -/
def runRevert (s : State) : State × Status × List Byte := ({ s with staging := s.active }, .ok, [])

/-! ### Validation (R35) -/

/-- The lowest index below `n` that `bad` names. -/
def firstIndex (n : Nat) (bad : Nat → Bool) : Option Nat := (List.range n).find? bad

/-- The channel at index `i` when it is OPEN and `bad` holds of it. -/
def Policy.badChannel (p : Policy) (bad : Channel → Bool) (i : Nat) : Bool :=
  match openChannel p i with
  | none => false
  | some c => bad c

/-- Whether the cell at index `i` is present and `test` holds of it. -/
def Policy.cellIs (p : Policy) (test : Cell → Bool) (i : Nat) : Bool :=
  match p.cell? i with
  | none => false
  | some c => test c

/-- How many present cells have the role. -/
def Policy.countRole (p : Policy) (r : Role) : Nat := p.presentCells.countP fun c => decide (c.role = r)

/-- The index of the second cell of a role (check 4). -/
def Policy.secondOf (p : Policy) (r : Role) : Option Nat :=
  ((List.range 20).filter fun i => p.cellIs (fun c => decide (c.role = r)) i)[1]?

/-- Whether a cell's rectangle is in order and within the geometry (check 5). -/
def Cell.fits (c : Cell) (g : Geometry) : Bool :=
  decide (c.x0 ≤ c.x1 ∧ c.x1 + 1 ≤ g.w ∧ c.y0 ≤ c.y1 ∧ c.y1 + 1 ≤ g.h)

/-- Whether two rectangles share a pixel (check 6). -/
def Cell.overlaps (a b : Cell) : Bool :=
  decide (max a.x0 b.x0 ≤ min a.x1 b.x1 ∧ max a.y0 b.y0 ≤ min a.y1 b.y1)

/-- Whether the touch cell at index `j` overlaps a touch cell of lower index (check 6). -/
def Policy.overlapsLower (p : Policy) (j : Nat) : Bool :=
  p.cellIs
    (fun b => b.role.isTouch &&
      (List.range j).any fun i => p.cellIs (fun a => a.role.isTouch && a.overlaps b) i) j

/-- Whether a cell's inner rectangle under guard margin `g` is non-empty (check 7). -/
def Cell.innerNonempty (c : Cell) (g : Nat) : Bool := decide (c.x0 + 2 * g ≤ c.x1 ∧ c.y0 + 2 * g ≤ c.y1)

/-- The determinant of a mapping (R29). -/
def Mapping.determinant (m : Mapping) : Int := m.xu * m.yv - m.xv * m.yu

/-- The checks on channels: 1 and 2. -/
def validateChannels (p : Policy) : Option (Nat × Nat) :=
  ((firstIndex 32 (p.badChannel fun c => decide (c.endA = c.endB))).map fun i => (1, i)) <|>
  ((firstIndex 32 (p.badChannel fun c => c.touchesApp && decide (c.mask.getD 0 = 0))).map fun i => (1, i))

/-- The checks on cells: 3 to 7. Checks 4 to 7 name no cell when none is present. -/
def validateCells (p : Policy) : Option (Nat × Nat) :=
  (if p.presentCells ≠ [] ∧ (p.countRole .digit ≠ 10 ∨ p.countRole .enter ≠ 1) then some (3, 255) else none) <|>
  (([Role.clear, .back, .cancel, .dots, .band].findSome? p.secondOf).map fun i => (3, i)) <|>
  ((firstIndex 20 (p.cellIs fun c => !c.fits p.geometry)).map fun i => (3, i)) <|>
  ((firstIndex 20 p.overlapsLower).map fun i => (3, i)) <|>
  ((firstIndex 20
      (p.cellIs fun c => c.role.isTouch && !c.innerNonempty p.touch.guardMargin)).map fun i => (3, i))

/-- The checks on the single records: 8 to 10. -/
def validateRecords (p : Policy) : Option (Nat × Nat) :=
  (if p.mapping.determinant = 0 then some (7, 0) else none) <|>
  (if p.touch.cOff < p.touch.cOn then some (6, 0) else none) <|>
  (if p.supervision.warn < p.supervision.abort + 100 then some (8, 0) else none)

/-- Validation of a set: the failing table kind and index of the first failure, or none (R35). -/
def Policy.validate (p : Policy) : Option (Nat × Nat) :=
  validateChannels p <|> validateCells p <|> validateRecords p

/-! ### COMMIT (R34, R36–R39) -/

/-- The generation after a successful commit (R20). -/
def nextGeneration (g : Nat) : Nat := if g = 65535 then 1 else g + 1

/-- The live bars of a policy's slot records (R37, step 1). -/
def committedBars (p : Policy) : Vector Bool 8 := Vector.ofFn fun i => p.slots[i].barred

/-- The bucket levels after a commit (R37, step 2). -/
def committedLevels (old new : Policy) (levels : Vector Nat 8) : Vector Nat 8 :=
  Vector.ofFn fun i =>
    if new.slots[i].depth = old.slots[i].depth then levels[i] else min levels[i] new.slots[i].depth

/-- Whether an entry no longer fits the new policy (R59). -/
def unfit (old new : Policy) (e : Entry) : Bool :=
  match old.channels[e.channel]?, openChannel new e.channel with
  | some o, some c =>
    decide (o.endA ≠ c.endA ∨ o.endB ≠ c.endB) ||
      (decide (e.source = .app) &&
        (!c.allowsSlot (e.slot.getD 0) || (committedBars new)[e.slot.getD 0]?.getD false))
  | _, _ => true

/-- The policy tables and the notice unit at a commit (R36, R166). -/
def commitTables (s : State) : State :=
  setFlag .rad .policyChange
    (setFlag .app .slotChange
      (takeNoticeModes { s with active := s.staging, generation := nextGeneration s.generation }))

/-- The channel switch at a commit that replaced `old` (R37). -/
def commitSwitch (old : Policy) (s : State) : State :=
  let s1 := { s with switch :=
    { s.switch with bars := committedBars s.active, levels := committedLevels old s.active s.switch.levels } }
  remarkHeld (purge (unfit old s.active) s1)

/-- The gate at a commit: the new layout waits (R39, R138). -/
def commitGate (s : State) : State := s.setGate { s.gate with waiting := some s.active.layout }

/-- The normal levels at a commit that replaced `old` (R39, R148). -/
def commitNormals (old : Policy) (s : State) : State :=
  s.setSup
    { s.sup with
      tamper :=
        { a := latchNormal old.supervision.sense.a s.active.supervision.sense.a s.sup.tamper.a
          b := latchNormal old.supervision.sense.b s.active.supervision.sense.b s.sup.tamper.b } }

/-- A successful commit (R36–R39); a trip condition that begins at it acts after its own effects (R149). -/
def acceptCommit (s : State) : State :=
  let old := s.active
  let s1 := commitSwitch old (commitTables s)
  let s2 := if s.generation = 0 then startFrontEnd s1 else s1
  judgeTamper .b (judgeTamper .a (commitNormals old (commitGate s2)))

/-- COMMIT (R34). -/
def runCommit (body : List Byte) (s : State) : State × Status × List Byte :=
  if wordAt body 0 ≠ s.generation then (s, .staleGeneration, [])
  else if s.ctl.state ≠ .opened ∧ s.ctl.state ≠ .locked then (s, .busy, [])
  else
    match s.staging.validate with
    | some (kind, index) => (s, .invalidPolicy, [byte kind, byte index])
    | none =>
      (acceptCommit s, .ok,
        twoBytes (nextGeneration s.generation) ++ twoBytes (purgeCount (unfit s.active s.staging) s))

end Sys2Proof.Machine
end

