-- ==== Sys2Proof/Machine/Summary.lean ====
section
/-! DEFINITION. The requests of the notice unit: STATUS with its summaries (R169–R171), CLEAR (R163) and NOTICE-TEST
(R164). -/

namespace Sys2Proof.Machine

open Sys2Proof

/-- The entry state's code (R170). -/
def EntryState.code : EntryState → Nat
  | .opened => 0
  | .arming => 1
  | .presenting => 2
  | .secure => 3
  | .closing => 4
  | .releasing => 5
  | .locked => 6

/-- The supply level state's code (R170). -/
def SupplyLevel.code : SupplyLevel → Nat
  | .normal => 0
  | .belowWarn => 1
  | .belowAbort => 2

/-- The sense's code (chapter 2). -/
def Sense.code : Sense → Nat
  | .disabled => 0
  | .tripLow => 1
  | .tripHigh => 2
  | .tripChange => 3

/-- The scan state's code (R170). -/
def ScanState.code : ScanState → Nat
  | .idle => 0
  | .noContact => 1
  | .pending => 2
  | .contact => 3
  | .lifting => 4

/-- The occupancy of a queue: entries (1), payload bytes (2) (R169, R170). -/
def occupancy (q : DeliveryQueue) : List Byte := byte q.all.length :: twoBytes (payloadBytes q.all)

/-- The state byte of a tamper input (R158, R170). -/
def tamperByte (t : Tamper) : Byte :=
  byte (bitIf 0 (decide (t.filtered = .high)) + bitIf 1 t.inTrip + bitIf 2 t.latch)

/-- The PAY summary, 24 bytes (R170). -/
def paySummary (s : State) : List Byte :=
  [byte s.ctl.state.code, byte s.ctl.session] ++ twoBytes s.generation ++ occupancy (s.queue .pay) ++
    occupancy (s.queue .app) ++ occupancy (s.queue .rad) ++ twoBytes s.sup.measurement ++
    [byte s.sup.level.code, byte s.active.supervision.sense.a.code, tamperByte s.sup.tamper.a,
     byte s.active.supervision.sense.b.code, tamperByte s.sup.tamper.b,
     byte (bitIf 0 (!s.gate.timing.followsInput)), byte (bitIf 0 s.gate.episode), byte s.frontEnd.scan.code,
     byte (bitIf 1 (s.port .app).stalled + bitIf 2 (s.port .rad).stalled)]

/-- The APP summary for a slot, 8 bytes (R171). -/
def appSummary (slot : Nat) (s : State) : List Byte :=
  [byte (bitIf 0 (decide (s.ctl.state ≠ .opened)))] ++ twoBytes s.generation ++ occupancy (s.queue .app) ++
    twoBytes (s.switch.level slot)

/-- The RAD summary, 5 bytes (R171). -/
def radSummary (s : State) : List Byte := twoBytes s.generation ++ occupancy (s.queue .rad)

/-- STATUS (R169). -/
def runStatus (d : Domain) (slot : Byte) (s : State) : State × Status × List Byte :=
  match d with
  | .pay => (s, .ok, paySummary s)
  | .app => if 8 ≤ slot.toNat then (s, .slotDenied, []) else (s, .ok, appSummary slot.toNat s)
  | .rad => (s, .ok, radSummary s)

/-- CLEAR (R163). -/
def runClear (d : Domain) (body : List Byte) (s : State) : State × Status × List Byte :=
  (s.setBox d ((s.box d).clearFlags (s.noticeMode d) (BitVec.ofNat 16 (wordAt body 0))), .ok, [])

/-- NOTICE-TEST (R164). -/
def runNoticeTest (d : Domain) (s : State) : State × Status × List Byte := (setFlag d .test s, .ok, [])

/-- RESTART (R17): nothing changes at execution. -/
def runRestart (s : State) : State × Status × List Byte := (s, .ok, [])

end Sys2Proof.Machine
end

