-- ==== Sys2Proof/Machine/Ports.lean ====
section
/-! DEFINITION. The link ports (chapter 1): the reply queue, request execution, reception, the transmitter's choice,
the stall timer, completions, link reset and full reset. `act` is the frame of every command. -/

namespace Sys2Proof.Machine

open Sys2Proof

/-! ### The transmitter (R11, R12, R14) -/

/-- Whether a frame from `source` is in transmission on link `d`. -/
def State.isSending (s : State) (d : Domain) (source : Source) : Bool :=
  (s.port d).tx.any fun t => decide (t.source = source)

/-- A frame's transmission begins on link `d`. -/
def beginTx (d : Domain) (source : Source) (f : Frame) (s : State) : State :=
  s.setPort d { s.port d with tx := some { source := source, frame := f } }

/-- Link `d`'s oldest session frame, if it has one (R14, step 2): on PAY the pending ENTRY-END and then the oldest
ENTRY-PROGRESS, on APP the oldest INPUT event, on RAD none. Beginning an INPUT clears the lost mark (R99). -/
def beginSessionFrame (d : Domain) (s : State) : Option State :=
  match d with
  | .pay =>
    match s.entryEnd, s.progress with
    | some e, _ => some (beginTx .pay .entryEnd e.frame s)
    | none, p :: _ => some (beginTx .pay .progress p.frame s)
    | none, [] => none
  | .app =>
    match s.inputs with
    | e :: _ => some (beginTx .app .input (e.frame s.lost) { s with lost := false })
    | [] => none
  | .rad => none

/-- The NOTICE of link `d`, if one waits: the place becomes SENDING with the flags as they stand (R162). -/
def beginNotice (d : Domain) (s : State) : Option State :=
  match (s.box d).place with
  | .waiting =>
    some (beginTx d .notice (noticeFrame (s.box d).flags)
      (s.setBox d { s.box d with place := .sending (s.box d).flags }))
  | .empty => none
  | .sending _ => none

/-- The DELIVERY the switch offers to link `d`, if it offers one (R54, R55). -/
def beginDelivery (d : Domain) (s : State) : Option State :=
  match (s.queue d).choose (s.active.weights.get d) with
  | none => none
  | some (c, run) =>
    match (s.queue d).oldest c with
    | none => none
    | some e => some (beginTx d .delivery e.frame (s.setQueue d ((s.queue d).offer c run)))

/-- The transmitter of link `d` makes its choice when it is free and the ready input is asserted (R12, R14). -/
def choose (d : Domain) (s : State) : State :=
  if (s.port d).tx = none ∧ (s.port d).ready = .high then
    match (s.port d).replies with
    | r :: _ => beginTx d .reply r.frame s
    | [] => ((beginSessionFrame d s <|> beginNotice d s) <|> beginDelivery d s).getD s
  else s

/-- How many of link `d`'s items from `source` are not the one in transmission. -/
def State.waitingCount (s : State) (d : Domain) (source : Source) (n : Nat) : Nat :=
  if s.isSending d source then n - 1 else n

/-- Whether link `d` has a frame waiting that the transmitter could choose (R13): held entries and the frame in
transmission do not count. -/
def State.hasWaiting (s : State) (d : Domain) : Bool :=
  decide (0 < s.waitingCount d .reply (s.port d).replies.length) ||
  (decide (d = .pay) &&
    (decide (s.entryEnd ≠ none ∧ s.isSending .pay .entryEnd = false) ||
      decide (0 < s.waitingCount .pay .progress s.progress.length))) ||
  (decide (d = .app) && decide (0 < s.waitingCount .app .input s.inputs.length)) ||
  decide ((s.box d).place = .waiting) ||
  (s.queue d).all.any Entry.eligible

/-- The stall timer of link `d` judged afresh: it runs while the ready input is deasserted and a frame waits, not
during an episode, and PAY has none (R13). -/
def judgeStall (d : Domain) (s : State) : State :=
  if d ≠ .pay ∧ (s.port d).stalled = false ∧ (s.port d).ready = .low ∧ s.hasWaiting d then
    if (s.port d).stallTimer.isRunning then s
    else s.setPort d { s.port d with stallTimer := .running stallTime }
  else s.setPort d { s.port d with stallTimer := .stopped }

/-- The end of a command: each free transmitter makes its choice among all the frames that have joined (log entry
6), and the stall timers are judged. -/
def finish (s : State) : State :=
  allDomains.foldl (fun s d => judgeStall d s) (allDomains.foldl (fun s d => choose d s) s)

/-- The frame of every command but the resets and the pins: during a full reset nothing happens (R18); otherwise
`f` acts, the controller takes the gate's reports, and the transmitters choose. -/
def act (s : State) (f : State → State) : Host.Outcome State Fault Refusal :=
  .next (if s.inReset then s else finish (takeReports (f s)))

/-- The frame of a command by which an external pin takes a level: the pin takes it during a full reset too (`pin`),
and otherwise `f` acts. -/
def actPin (s : State) (pin f : State → State) : Host.Outcome State Fault Refusal :=
  if s.inReset then .next (pin s) else act s f

/-! ### Requests (R8–R10) -/

/-- The capacity of a reply queue (R8). -/
def maxReplies : Nat := 4

/-- The first port check that fails (R9); none when all three pass. -/
def portCheck (d : Domain) (f : Frame) : Option Status :=
  match requestKindOf f.kind with
  | none => some .badKind
  | some k =>
    if !permitted d k then some .notPermitted
    else if !lengthFits k f.body.length then some .badLength
    else none

/-- The REPLY to a request (R10): on APP the slot byte is echoed. -/
def replyTo (d : Domain) (f : Frame) (st : Status) (result : List Byte) : Reply :=
  { tag := f.tag, slot := if d = .app then f.slot else 0, status := st, echoed := f.kind, result := result }

/-- A REPLY joins link `d`'s reply queue. -/
def queueReply (d : Domain) (r : Reply) (s : State) : State :=
  s.setPort d { s.port d with replies := (s.port d).replies ++ [r] }

/-- A request is executed (R9, R10): the port's checks, then its owner, then the REPLY. -/
def execute (d : Domain) (f : Frame) (owner : State → State × Status × List Byte) (s : State) : State :=
  match portCheck d f with
  | some st => queueReply d (replyTo d f st []) s
  | none =>
    let (s1, st, result) := owner s
    queueReply d (replyTo d f st result) s1

/-- A valid frame arrives (R4, R8): on PAY the supervisor is told, and the request is executed, or dropped for
overrun when all reply places are occupied. -/
def validFrame (d : Domain) (f : Frame) (owner : State → State × Status × List Byte) (s : State) : State :=
  let s1 := if d = .pay then restartSilence s else s
  if maxReplies ≤ (s1.port d).replies.length then setFlag d .overrun s1 else execute d f owner s1

/-- The receiver of link `d` takes a new state, and the inter-byte timer with it (R4, R5). -/
def setReceiver (d : Domain) (r : Receiver) (s : State) : State :=
  s.setPort d { s.port d with rx := r, interByte := interByteAfter r }

/-- A whole frame arrives on link `d` as one command: its last check byte has just been taken, so the receiver is
in HUNT (R4, log entry 7). During a break the port receives nothing (R1). -/
def wholeFrame (d : Domain) (f : Frame) (owner : State → State × Status × List Byte) (s : State) : State :=
  if (s.port d).inBreak then s else validFrame d f owner (setReceiver d .hunt s)

/-- The owner of a request that passed the port's checks (R9), for a frame that arrives byte by byte. -/
def ownerOf (d : Domain) (f : Frame) (s : State) : State × Status × List Byte :=
  match requestKindOf f.kind with
  | none => (s, .badKind, [])
  | some .post => runPost d f.slot f.body s
  | some .status => runStatus d f.slot s
  | some .clear => runClear d f.body s
  | some .noticeTest => runNoticeTest d s
  | some .load => runLoad f.body s
  | some .revert => runRevert s
  | some .commit => runCommit f.body s
  | some .entryBegin => runEntryBegin f.body s
  | some .entryAbort => runEntryAbort s
  | some .slotBar => runSlotBar f.body s
  | some .unlock => runUnlock s
  | some .restart => runRestart s

/-! ### Reception (R1, R4, R5) -/

/-- What a receiver event does: FRAME_ERROR for a discarded frame, execution for a valid one (R4). -/
def rxEvent (d : Domain) (e : RxEvent) (s : State) : State :=
  match e with
  | .none => s
  | .frameError => setFlag d .frameError s
  | .frame f => validFrame d f (ownerOf d f) s

/-- The receiver reaches a new state with an event, unless a break holds it (R1, R4). -/
def receive (d : Domain) (result : Receiver × RxEvent) (s : State) : State :=
  if (s.port d).inBreak then s else rxEvent d result.2 (setReceiver d result.1 s)

/-- The partial frame of link `d`, if any, is discarded with FRAME_ERROR (R1, R5). -/
def discardPartial (d : Domain) (s : State) : State :=
  if (s.port d).rx.inFrame then setFlag d .frameError (setReceiver d .hunt s) else s

/-! ### Link reset (R6, R7) -/

/-- The port's part of a link reset of `d` (R6). -/
def portLinkReset (d : Domain) (s : State) : State :=
  let s1 := s.setPort d { Port.reset (s.port d).ready with inBreak := true }
  match d with
  | .pay => { s1 with progress := [] }
  | .app => { s1 with inputs := [], lost := false }
  | .rad => s1

/-- A link reset of `d` (R6, R7): the port, the switch, the notice unit, and for PAY the silence timer and then
the session (R123). -/
def linkReset (d : Domain) (s : State) : State :=
  let s1 := noticeLinkReset d (switchLinkReset d (portLinkReset d s))
  if d = .pay then endSession .linkReset (restartSilence s1) else s1

/-! ### Full reset -/

/-- The full reset, whatever its cause (R18, R19, R63, R79, R81, R91, R101, R146, R151, R159, R167). It stands
until FULL_RESET_END. The external pins keep their levels, and the queue of commands is not the part's. -/
def fullReset (s : State) : State where
  pending := s.pending
  inReset := true
  ports := ⟨Port.reset s.ports.pay.ready, Port.reset s.ports.app.ready, Port.reset s.ports.rad.ready⟩
  entryEnd := none
  progress := []
  inputs := []
  lost := false
  staging := Policy.default
  active := Policy.default
  generation := 0
  switch := Switch.reset
  frontEnd := FrontEnd.reset
  adc := { use := .free, supplyWaiting := false }
  mapper := Mapper.reset
  keys := ⟨SideKey.reset s.keys.cancel.pin, SideKey.reset s.keys.clear.pin, SideKey.reset s.keys.enter.pin,
    SideKey.reset s.keys.fn.pin⟩
  ctl := Controller.reset
  gate := Gate.reset
  sup :=
    { tamper := ⟨Tamper.reset s.sup.tamper.a.pin s.sup.tamper.a.filtered,
        Tamper.reset s.sup.tamper.b.pin s.sup.tamper.b.filtered⟩
      requestTimer := .stopped
      measurement := 0
      level := .normal
      silence := .stopped }
  notices := PerDomain.all NoticeBox.blank
  reports := []
  arbiterCount := s.arbiterCount

/-- A side key as the reset ends: an input at the pressed level starts its timer (R91). -/
def SideKey.awake (k : SideKey) (debounce : Nat) : SideKey := k.input k.pin debounce

/-- A tamper input as the reset ends: the filtered level takes the pin's level (R147). -/
def Tamper.awake (t : Tamper) : Tamper := { t with filtered := t.pin, timer := .stopped }

/-- The end of a full reset (R47, R63, R91, R130, R147, R151, R159, R167): reception begins, the timers start, the
first supply conversion is requested, RESTARTED is set for every domain. -/
def endFullReset (s : State) : State :=
  let s1 : State :=
    { s with
      inReset := false
      switch := { s.switch with refillTimer := .running refillTime }
      keys := ⟨s.keys.cancel.awake s.active.debounce, s.keys.clear.awake s.active.debounce,
        s.keys.enter.awake s.active.debounce, s.keys.fn.awake s.active.debounce⟩
      gate := { s.gate with watch := .running watchTime }
      sup :=
        { s.sup with
          tamper := ⟨s.sup.tamper.a.awake, s.sup.tamper.b.awake⟩
          requestTimer := .running supplyTime } }
  allDomains.foldl (fun s d => setFlag d .restarted s) (requestSupply s1)

/-! ### Completions (R15) -/

/-- A frame from `source` completes on link `d`: the transmitter is free, and `f` acts on the place it came
from. -/
def complete (d : Domain) (source : Source) (f : State → State) (s : State) : State :=
  if s.isSending d source then f (s.setPort d { s.port d with tx := none }) else s

/-- Whether a REPLY is the OK reply to a RESTART (R17). -/
def Reply.isRestart (r : Reply) : Bool := decide (r.status = .ok ∧ r.echoed = RequestKind.restart.code)

/-- A completed REPLY leaves the reply queue; the OK reply to a RESTART resets the part (R15, R17). -/
def replyDone (d : Domain) (s : State) : State :=
  match (s.port d).replies with
  | [] => s
  | r :: rs => if r.isRestart then fullReset s else s.setPort d { s.port d with replies := rs }

/-- A completed NOTICE (R162). -/
def noticeDone (d : Domain) (s : State) : State :=
  match (s.box d).place with
  | .sending carried => s.setBox d ((s.box d).complete (s.noticeMode d) carried)
  | .empty => s
  | .waiting => s

end Sys2Proof.Machine
end

