-- ==== Sys2Proof/Machine/Acquisition.lean ====
section
/-! DEFINITION. The commands of the touch front end, the side keys, the supply monitor and the refill timer. -/

namespace Sys2Proof.Machine

open Sys2Proof

/-- REFILL_TIMER_EXPIRY (R47). -/
def execRefillTimerExpiry (s : State) : Host.Outcome State Fault Refusal :=
  act s fun s => if s.switch.refillTimer.isRunning then refillLevels s else s

/-- SCAN_TIMER_EXPIRY (R65, R66). -/
def execScanTimerExpiry (plate : Word16) (s : State) : Host.Outcome State Fault Refusal :=
  act s (scanExpiry plate)

/-- BURST_END (R67–R77, R82–R89). -/
def execBurstEnd (codes : Burst) (s : State) : Host.Outcome State Fault Refusal := act s (burstDone codes)

/-- SUPPLY_REQUEST_TIMER_EXPIRY (R151, R68). -/
def execSupplyRequestTimerExpiry (s : State) : Host.Outcome State Fault Refusal :=
  act s fun s => if s.sup.requestTimer.isRunning then requestSupply s else s

/-- SUPPLY_CONVERSION_END (R152–R154). -/
def execSupplyConversionEnd (code : AdcCode) (s : State) : Host.Outcome State Fault Refusal :=
  act s (supplyDone code)

/-- KEY_INPUT_CHANGE (R90). -/
def execKeyInputChange (key : Key) (level : Level) (s : State) : Host.Outcome State Fault Refusal :=
  actPin s (fun s => s.setKey key { s.key key with pin := level })
    (fun s => s.setKey key ((s.key key).input level s.active.debounce))

/-- KEY_DEBOUNCE_EXPIRY (R90, R92). -/
def execKeyDebounceExpiry (key : Key) (s : State) : Host.Outcome State Fault Refusal :=
  act s (debounceExpiry key)

end Sys2Proof.Machine
end

