-- ==== Sys2Proof/Machine/LinkEvents.lean ====
section
/-! DEFINITION. The commands of the receive lines (chapter 1): line errors, breaks, timeouts, received bytes, and the
frames that are discarded. -/

namespace Sys2Proof.Machine

open Sys2Proof

/-- LINE_ERROR (R1): inside a frame the partial frame is discarded and FRAME_ERROR set; outside it is ignored. -/
def execLineError (link : Domain) (s : State) : Host.Outcome State Fault Refusal :=
  act s fun s => if (s.port link).inBreak then s else discardPartial link s

/-- SERIAL_BREAK (R1, R6, R7): a link reset, once for each break. -/
def execSerialBreak (link : Domain) (s : State) : Host.Outcome State Fault Refusal :=
  act s fun s => if (s.port link).inBreak then s else linkReset link s

/-- BREAK_END (R1): the line returns high and the receiver is in HUNT. -/
def execBreakEnd (link : Domain) (s : State) : Host.Outcome State Fault Refusal :=
  act s fun s =>
    if (s.port link).inBreak then
      setReceiver link .hunt (s.setPort link { s.port link with inBreak := false })
    else s

/-- INTER_BYTE_TIMEOUT (R5), when the inter-byte timer runs. -/
def execInterByteTimeout (link : Domain) (s : State) : Host.Outcome State Fault Refusal :=
  act s fun s => if (s.port link).interByte.isRunning then discardPartial link s else s

/-- LENGTH_OVER_512 (R4): the second length byte of this header has arrived. -/
def execLengthOver512 (link : Domain) (kind tag slot : Byte) (length : Word16) (s : State) :
    Host.Outcome State Fault Refusal :=
  act s fun s => receive link (headerDone kind tag slot length.toNat) s

/-- FRAME_CHECK_FAIL (R2, R4): the second check byte of this frame has arrived. -/
def execFrameCheckFail (link : Domain) (kind tag slot : Byte) (body : List Byte) (check : Word16) (s : State) :
    Host.Outcome State Fault Refusal :=
  act s fun s => receive link (.hunt, checkDone ⟨kind, tag, slot, body⟩ check) s

/-- RECEIVED_BYTE (R4, R5). -/
def execReceivedByte (link : Domain) (byte : Byte) (s : State) : Host.Outcome State Fault Refusal :=
  act s fun s => receive link ((s.port link).rx.take byte) s

end Sys2Proof.Machine
end

