-- ==== Sys2Proof/Machine/Requests.lean ====
section
/-! DEFINITION. The request commands: a whole valid frame of the kind arrives on a link (R4, R8–R10) and its owner
decides it. -/

namespace Sys2Proof.Machine

open Sys2Proof

/-- BAD_KIND_REQUEST (R9): a valid frame of this kind arrives; for a kind that is no request kind the REPLY is
BAD_KIND. -/
def execBadKindRequest (link : Domain) (kind tag slot : Byte) (body : List Byte) (s : State) :
    Host.Outcome State Fault Refusal :=
  act s (wholeFrame link ⟨kind, tag, slot, body⟩ (ownerOf link ⟨kind, tag, slot, body⟩))

/-- POST (R41). -/
def execPost (link : Domain) (tag slot : Byte) (body : List Byte) (s : State) : Host.Outcome State Fault Refusal :=
  act s (wholeFrame link ⟨RequestKind.post.code, tag, slot, body⟩ (runPost link slot body))

/-- STATUS (R169). -/
def execStatus (link : Domain) (tag slot : Byte) (body : List Byte) (s : State) : Host.Outcome State Fault Refusal :=
  act s (wholeFrame link ⟨RequestKind.status.code, tag, slot, body⟩ (runStatus link slot))

/-- CLEAR (R163). -/
def execClear (link : Domain) (tag slot : Byte) (body : List Byte) (s : State) : Host.Outcome State Fault Refusal :=
  act s (wholeFrame link ⟨RequestKind.clear.code, tag, slot, body⟩ (runClear link body))

/-- NOTICE-TEST (R164). -/
def execNoticeTest (link : Domain) (tag slot : Byte) (body : List Byte) (s : State) :
    Host.Outcome State Fault Refusal :=
  act s (wholeFrame link ⟨RequestKind.noticeTest.code, tag, slot, body⟩ (runNoticeTest link))

/-- LOAD (R21, R22). -/
def execLoad (link : Domain) (tag slot : Byte) (body : List Byte) (s : State) : Host.Outcome State Fault Refusal :=
  act s (wholeFrame link ⟨RequestKind.load.code, tag, slot, body⟩ (runLoad body))

/-- REVERT (R33). -/
def execRevert (link : Domain) (tag slot : Byte) (body : List Byte) (s : State) : Host.Outcome State Fault Refusal :=
  act s (wholeFrame link ⟨RequestKind.revert.code, tag, slot, body⟩ runRevert)

/-- COMMIT (R34–R39). -/
def execCommit (link : Domain) (tag slot : Byte) (body : List Byte) (s : State) : Host.Outcome State Fault Refusal :=
  act s (wholeFrame link ⟨RequestKind.commit.code, tag, slot, body⟩ (runCommit body))

/-- ENTRY-BEGIN (R103, R104). -/
def execEntryBegin (link : Domain) (tag slot : Byte) (body : List Byte) (s : State) :
    Host.Outcome State Fault Refusal :=
  act s (wholeFrame link ⟨RequestKind.entryBegin.code, tag, slot, body⟩ (runEntryBegin body))

/-- ENTRY-ABORT (R120). -/
def execEntryAbort (link : Domain) (tag slot : Byte) (body : List Byte) (s : State) :
    Host.Outcome State Fault Refusal :=
  act s (wholeFrame link ⟨RequestKind.entryAbort.code, tag, slot, body⟩ runEntryAbort)

/-- SLOT-BAR (R57). -/
def execSlotBar (link : Domain) (tag slot : Byte) (body : List Byte) (s : State) : Host.Outcome State Fault Refusal :=
  act s (wholeFrame link ⟨RequestKind.slotBar.code, tag, slot, body⟩ (runSlotBar body))

/-- UNLOCK (R128). -/
def execUnlock (link : Domain) (tag slot : Byte) (body : List Byte) (s : State) : Host.Outcome State Fault Refusal :=
  act s (wholeFrame link ⟨RequestKind.unlock.code, tag, slot, body⟩ runUnlock)

/-- RESTART (R17): answered OK; the full reset comes when the REPLY completes (REPLY_COMPLETE). -/
def execRestart (link : Domain) (tag slot : Byte) (body : List Byte) (s : State) : Host.Outcome State Fault Refusal :=
  act s (wholeFrame link ⟨RequestKind.restart.code, tag, slot, body⟩ runRestart)

end Sys2Proof.Machine
end

