-- ==== Sys2Proof/Machine/Resets.lean ====
section
/-! DEFINITION. The full reset and its end. -/

namespace Sys2Proof.Machine

open Sys2Proof

/-- FULL_RESET (R18), whatever its cause: power-on, brown-out or RESET_N. -/
def execFullReset (s : State) : Host.Outcome State Fault Refusal := .next (fullReset s)

/-- FULL_RESET_END (R167), when a full reset is in progress. -/
def execFullResetEnd (s : State) : Host.Outcome State Fault Refusal :=
  .next (if s.inReset then finish (endFullReset s) else s)

end Sys2Proof.Machine
end

