-- ==== Sys2Proof/Machine/Sessions.lean ====
section
/-! DEFINITION. The timers that end a session: total, first-key, inter-key, and PAY silence. -/

namespace Sys2Proof.Machine

open Sys2Proof

/-- TOTAL_TIMER_EXPIRY (R114). -/
def execTotalTimerExpiry (s : State) : Host.Outcome State Fault Refusal :=
  act s fun s => timerExpiry s.ctl.total .timeoutTotal s

/-- FIRST_KEY_TIMER_EXPIRY (R114). -/
def execFirstKeyTimerExpiry (s : State) : Host.Outcome State Fault Refusal :=
  act s fun s => timerExpiry s.ctl.firstKey .timeoutFirst s

/-- INTER_KEY_TIMER_EXPIRY (R114). -/
def execInterKeyTimerExpiry (s : State) : Host.Outcome State Fault Refusal :=
  act s fun s => timerExpiry s.ctl.interKey .timeoutInter s

/-- PAY_SILENCE_EXPIRY (R123, R157). -/
def execPaySilenceExpiry (s : State) : Host.Outcome State Fault Refusal :=
  act s fun s => if s.sup.silence.isRunning then endSession .paySilent (disarmSilence s) else s

end Sys2Proof.Machine
end

