-- ==== Sys2Proof/Machine/Transmit.lean ====
section
/-! DEFINITION. The commands of the transmitters: the ready inputs, the stall timers, and the completion of each kind
of frame (R12–R15). -/

namespace Sys2Proof.Machine

open Sys2Proof

/-- READY_ASSERTED (R12, R13): any stall episode ends, and a free transmitter chooses. -/
def execReadyAsserted (link : Domain) (s : State) : Host.Outcome State Fault Refusal :=
  actPin s (fun s => s.setPort link { s.port link with ready := .high })
    (fun s => s.setPort link { s.port link with ready := .high, stalled := false })

/-- READY_DEASSERTED (R12, R13). -/
def execReadyDeasserted (link : Domain) (s : State) : Host.Outcome State Fault Refusal :=
  actPin s (fun s => s.setPort link { s.port link with ready := .low })
    (fun s => s.setPort link { s.port link with ready := .low })

/-- STALL_TIMER_EXPIRY (R13), when the stall timer runs: a stall episode begins and STALL is set for PAY. -/
def execStallTimerExpiry (link : Domain) (s : State) : Host.Outcome State Fault Refusal :=
  act s fun s =>
    if (s.port link).stallTimer.isRunning then
      setFlag .pay .stall (s.setPort link { s.port link with stalled := true, stallTimer := .stopped })
    else s

/-- REPLY_COMPLETE (R15, R17). -/
def execReplyComplete (link : Domain) (s : State) : Host.Outcome State Fault Refusal :=
  act s (complete link .reply (replyDone link))

/-- ENTRY_END_COMPLETE (R15). -/
def execEntryEndComplete (s : State) : Host.Outcome State Fault Refusal :=
  act s (complete .pay .entryEnd fun s => { s with entryEnd := none })

/-- ENTRY_PROGRESS_COMPLETE (R15). -/
def execEntryProgressComplete (s : State) : Host.Outcome State Fault Refusal :=
  act s (complete .pay .progress fun s => { s with progress := s.progress.drop 1 })

/-- INPUT_COMPLETE (R15, R97). -/
def execInputComplete (s : State) : Host.Outcome State Fault Refusal :=
  act s (complete .app .input fun s => { s with inputs := s.inputs.drop 1 })

/-- NOTICE_COMPLETE (R15, R162). -/
def execNoticeComplete (link : Domain) (s : State) : Host.Outcome State Fault Refusal :=
  act s (complete link .notice (noticeDone link))

/-- DELIVERY_COMPLETE (R15, R55). -/
def execDeliveryComplete (link : Domain) (s : State) : Host.Outcome State Fault Refusal :=
  act s (complete link .delivery (deliveryDone link))

end Sys2Proof.Machine
end

