-- ==== Sys2Proof/Machine/Video.lean ====
section
/-! DEFINITION. The commands of the video path: input frame starts, the silence watch, local frame ends. -/

namespace Sys2Proof.Machine

open Sys2Proof

/-- INPUT_FRAME_START (R129–R138): the ending frame is judged, the watch restarts, and the start acts on the
output. -/
def inputFrameStart (lines : List Nat) (s : State) : State :=
  let s1 := takeReports (endInputFrame lines s)
  gateDo Gate.inputStart (s1.setGate { s1.gate with inFrame := true, watch := .running watchTime })

/-- INPUT_FRAME_START. -/
def execInputFrameStart (lines : List Nat) (s : State) : Host.Outcome State Fault Refusal :=
  act s (inputFrameStart lines)

/-- What the expiry of the silence watch does once the frame is judged, by timing state: in FOLLOW and at the end of
REJOIN the output stops at a boundary and the loss follows (R133, R137); in TO_LOCAL the loss comes before the switch
(R135); in LOCAL and TO_FOLLOW nothing (R130). Where the judging itself is a loss by R131, that loss is the one that
these rules declare at their own step, and no earlier (DEDUCED, log entry 26). -/
def watchOnOutput (s : State) : State :=
  match s.gate.timing with
  | .follow =>
    if s.gate.stopped then declareLoss s
    else declareLoss (takeReports (gateDo (fun g => { g with stopped := true }.boundary) s))
  | .toLocal =>
    gateDo (fun g => { g with timing := .localTiming }.frameStart) (takeReports (declareLoss s))
  | .localTiming => s
  | .toFollow => s
  | .rejoin =>
    declareLoss (takeReports (gateDo (fun g => { g with timing := .follow, stopped := true }.boundary) s))

/-- SILENCE_WATCH_EXPIRY (R130, R131, R133, R135, R137): the frame in progress ends and is judged first, and the
loss, if there is one, is declared where the timing state places it, also when the frame judged here is the second
malformed one (DEDUCED, log entry 26). -/
def silenceExpiry (lines : List Nat) (s : State) : State :=
  if s.gate.watch.isRunning then
    watchOnOutput (judgeFrame lines (s.setGate { s.gate with watch := .expired }))
  else s

/-- SILENCE_WATCH_EXPIRY. -/
def execSilenceWatchExpiry (lines : List Nat) (s : State) : Host.Outcome State Fault Refusal :=
  act s (silenceExpiry lines)

/-- LOCAL_FRAME_END (R134, R136, R137). -/
def execLocalFrameEnd (s : State) : Host.Outcome State Fault Refusal := act s (gateDo Gate.localEnd)

end Sys2Proof.Machine
end

