-- ==== Sys2Proof/Machine/Watchers.lean ====
section
/-! DEFINITION. The commands of the tamper inputs and of the repeat timers. -/

namespace Sys2Proof.Machine

open Sys2Proof

/-- TAMPER_PIN_CHANGE (R147). -/
def execTamperPinChange (input : TamperInput) (level : Level) (s : State) : Host.Outcome State Fault Refusal :=
  actPin s (fun s => s.setTamper input { s.tamper input with pin := level })
    (fun s => s.setTamper input ((s.tamper input).input level))

/-- TAMPER_FILTER_EXPIRY (R147–R149). -/
def execTamperFilterExpiry (input : TamperInput) (s : State) : Host.Outcome State Fault Refusal :=
  act s (filterExpiry input)

/-- REPEAT_TIMER_EXPIRY (R165). -/
def execRepeatTimerExpiry (domain : Domain) (s : State) : Host.Outcome State Fault Refusal :=
  act s fun s => s.setBox domain (s.box domain).repeatExpire

end Sys2Proof.Machine
end

