-- ==== Sys2Proof/Machine/Dispatch.lean ====
section
/-! DEFINITION. One arm per command, each one direct call of its meaning. -/

namespace Sys2Proof.Machine

open Sys2Proof

/-- The effect of a command on everything but the queue of commands. -/
def exec (i : Instr) (s : State) : Host.Outcome State Fault Refusal :=
  match i with
  | .lineError link => Sys2Proof.Machine.execLineError link s
  | .serialBreak link => Sys2Proof.Machine.execSerialBreak link s
  | .breakEnd link => Sys2Proof.Machine.execBreakEnd link s
  | .interByteTimeout link => Sys2Proof.Machine.execInterByteTimeout link s
  | .lengthOver512 link kind tag slot length => Sys2Proof.Machine.execLengthOver512 link kind tag slot length s
  | .frameCheckFail link kind tag slot body check => Sys2Proof.Machine.execFrameCheckFail link kind tag slot body check s
  | .badKindRequest link kind tag slot body => Sys2Proof.Machine.execBadKindRequest link kind tag slot body s
  | .post link tag slot body => Sys2Proof.Machine.execPost link tag slot body s
  | .status link tag slot body => Sys2Proof.Machine.execStatus link tag slot body s
  | .clear link tag slot body => Sys2Proof.Machine.execClear link tag slot body s
  | .noticeTest link tag slot body => Sys2Proof.Machine.execNoticeTest link tag slot body s
  | .load link tag slot body => Sys2Proof.Machine.execLoad link tag slot body s
  | .revert link tag slot body => Sys2Proof.Machine.execRevert link tag slot body s
  | .commit link tag slot body => Sys2Proof.Machine.execCommit link tag slot body s
  | .entryBegin link tag slot body => Sys2Proof.Machine.execEntryBegin link tag slot body s
  | .entryAbort link tag slot body => Sys2Proof.Machine.execEntryAbort link tag slot body s
  | .slotBar link tag slot body => Sys2Proof.Machine.execSlotBar link tag slot body s
  | .unlock link tag slot body => Sys2Proof.Machine.execUnlock link tag slot body s
  | .restart link tag slot body => Sys2Proof.Machine.execRestart link tag slot body s
  | .readyAsserted link => Sys2Proof.Machine.execReadyAsserted link s
  | .readyDeasserted link => Sys2Proof.Machine.execReadyDeasserted link s
  | .stallTimerExpiry link => Sys2Proof.Machine.execStallTimerExpiry link s
  | .replyComplete link => Sys2Proof.Machine.execReplyComplete link s
  | .entryEndComplete => Sys2Proof.Machine.execEntryEndComplete s
  | .entryProgressComplete => Sys2Proof.Machine.execEntryProgressComplete s
  | .inputComplete => Sys2Proof.Machine.execInputComplete s
  | .noticeComplete link => Sys2Proof.Machine.execNoticeComplete link s
  | .deliveryComplete link => Sys2Proof.Machine.execDeliveryComplete link s
  | .fullReset => Sys2Proof.Machine.execFullReset s
  | .fullResetEnd => Sys2Proof.Machine.execFullResetEnd s
  | .refillTimerExpiry => Sys2Proof.Machine.execRefillTimerExpiry s
  | .scanTimerExpiry plate => Sys2Proof.Machine.execScanTimerExpiry plate s
  | .burstEnd codes => Sys2Proof.Machine.execBurstEnd codes s
  | .supplyRequestTimerExpiry => Sys2Proof.Machine.execSupplyRequestTimerExpiry s
  | .supplyConversionEnd code => Sys2Proof.Machine.execSupplyConversionEnd code s
  | .keyInputChange key level => Sys2Proof.Machine.execKeyInputChange key level s
  | .keyDebounceExpiry key => Sys2Proof.Machine.execKeyDebounceExpiry key s
  | .totalTimerExpiry => Sys2Proof.Machine.execTotalTimerExpiry s
  | .firstKeyTimerExpiry => Sys2Proof.Machine.execFirstKeyTimerExpiry s
  | .interKeyTimerExpiry => Sys2Proof.Machine.execInterKeyTimerExpiry s
  | .inputFrameStart lines => Sys2Proof.Machine.execInputFrameStart lines s
  | .silenceWatchExpiry lines => Sys2Proof.Machine.execSilenceWatchExpiry lines s
  | .localFrameEnd => Sys2Proof.Machine.execLocalFrameEnd s
  | .tamperPinChange input level => Sys2Proof.Machine.execTamperPinChange input level s
  | .tamperFilterExpiry input => Sys2Proof.Machine.execTamperFilterExpiry input s
  | .paySilenceExpiry => Sys2Proof.Machine.execPaySilenceExpiry s
  | .repeatTimerExpiry domain => Sys2Proof.Machine.execRepeatTimerExpiry domain s
  | .receivedByte link byte => Sys2Proof.Machine.execReceivedByte link byte s

end Sys2Proof.Machine
end

