-- ==== Sys2Proof/Safety.lean ====
section
/-! DEFINITION. What a safe state is, in the terms in which the statements speak: the invariants that the spec's
rules promise of every state between commands, and the vocabulary of the statements about single commands. -/

namespace Sys2Proof.Machine

open Sys2Proof

/-! ## Vocabulary -/

/-- The part runs: no full reset stands, and no report of the gate waits to be taken (log entry 14). -/
abbrev State.Live (s : State) : Prop := s.inReset = false ∧ s.reports = []

/-- Link `d` receives: the part runs and no break holds the link (R1). -/
abbrev State.Receives (s : State) (d : Domain) : Prop := s.Live ∧ (s.port d).inBreak = false

/-- A request that arrives on link `d` is executed: a reply place is free (R8). -/
abbrev State.Accepts (s : State) (d : Domain) : Prop := s.Receives d ∧ (s.port d).replies.length < 4

/-- A session is live: the controller is in ARMING, PRESENTING or SECURE. -/
abbrev State.inSession (s : State) : Prop :=
  s.ctl.state = .arming ∨ s.ctl.state = .presenting ∨ s.ctl.state = .secure

/-- A valid frame has arrived on link `d` (R4, R157): the receiver is in HUNT with its timer stopped, and on PAY a
running silence timer starts again from the whole PAY silence time. -/
def State.arrived (s : State) (d : Domain) : State :=
  { s with
    ports := s.ports.set d { s.ports.get d with rx := .hunt, interByte := .stopped }
    sup := if d = .pay ∧ s.sup.silence.isRunning then
        { s.sup with silence := .running s.active.supervision.paySilence }
      else s.sup }

/-- A REPLY to frame `f` has joined link `d`'s reply queue (R10). -/
def State.answered (s : State) (d : Domain) (f : Frame) (status : Status) (result : List Byte) : State :=
  { s with
    ports := s.ports.set d
      { s.ports.get d with
        replies := (s.ports.get d).replies ++
          [{ tag := f.tag, slot := if d = .app then f.slot else 0, status := status, echoed := f.kind,
             result := result }] } }

/-- An event has been queued to APP (R97, R98), and a drop has set the lost mark (R99). -/
def State.told (s : State) (e : InputEvent) : State :=
  { s with
    inputs := joinInput s.inputSending s.inputs e
    lost := s.lost || decide (32 ≤ s.inputs.length) }

/-- The events that APP is told when the controller leaves OPEN (R96): the cancelling UP of an APP stroke at the held
position, a cancelling RELEASE for each key with an APP mark, and FOCUS-LOST. -/
def State.departure (s : State) : List InputEvent :=
  let q := s.active.mapPosition s.mapper.sx s.mapper.sy
  let up : List InputEvent := match s.ctl.appStroke with
    | none => []
    | some k => [⟨.up, k, q.x, q.y, none, q.edge, true, false⟩]
  let releases : List InputEvent := (allKeys.filter s.ctl.keyMarks.get).map fun k =>
    ⟨.release, 0, 0, 0, some k, false, true, false⟩
  up ++ releases ++ [⟨.focusLost, 0, 0, 0, none, false, false, false⟩]

/-- No entry of the queue is held (R52). -/
def DeliveryQueue.unheld (q : DeliveryQueue) : DeliveryQueue :=
  q.mapLists fun es => es.map fun e => { e with held := false }

/-- The event that APP is told when the controller enters OPEN (R95). -/
def focusReturned : InputEvent := ⟨.focusReturned, 0, 0, 0, none, false, false, false⟩

/-- The controller has entered OPEN (R118, R52, R95): no entry is held, APP is told FOCUS-RETURNED, and the PAY silence
timer is disarmed. -/
def State.openedAgain (s : State) : State :=
  let unheld := fun (d : Domain) => (s.queue d).unheld
  { s.told focusReturned with
    ctl := { s.ctl with state := .opened }
    switch := { s.switch with queues := ⟨unheld .pay, unheld .app, unheld .rad⟩ }
    sup := { s.sup with silence := .stopped } }

/-- The controller has entered RELEASING, and OPEN at once when the glass is free (R118). -/
def State.released (s : State) : State :=
  if s.frontEnd.scan = .noContact ∨ s.frontEnd.scan = .idle then s.openedAgain
  else { s with ctl := { s.ctl with state := .releasing } }

/-- The output carries nothing: FOLLOW timing with the output stopped, or REJOIN (R133, R137). -/
abbrev Gate.Idle (g : Gate) : Prop := g.timing = .rejoin ∨ g.timing = .follow ∧ g.stopped = true

/-- The controller has gone from ARMING to PRESENTING with session `r` (R105): the secure set is pending, and for a FULL
session LOCAL timing has been asked for, so that a running output is in TO_LOCAL and any other in LOCAL (R135). -/
def State.presents (s : State) (r : Session) : State :=
  let full := r.presentation = .full
  { s with
    ctl := { s.ctl with state := .presenting }
    gate := { s.gate with
      pending := secureSet s.active r
      stopped := s.gate.stopped && !decide (full ∧ s.gate.timing = .follow)
      timing := if ¬full then s.gate.timing
        else if s.gate.timing = .toLocal ∨ s.gate.timing = .follow ∧ s.gate.stopped = false then .toLocal
        else .localTiming } }

/-- Session `r` has been presented at once, on an output that was idle (R135, R138, R140, R106): the first local frame
has taken the layout waiting and shows the secure set, the controller is in SECURE with the first-key timer running, and
PAY is told PRESENTED. -/
def State.presentsAtOnce (s : State) (r : Session) : State :=
  { s.presents r with
    ctl := { s.ctl with state := .secure, firstKey := .running (1000 * r.firstKey), candidate := .none }
    gate := { (s.presents r).gate with
      active := secureSet s.active r, layout := s.gate.waiting.getD s.gate.layout, waiting := none }
    progress := joinProgress s.progress ⟨s.ctl.session, .presented, 0⟩ }

/-- Session `r` has ended VIDEO_LOST with `count` digits (R115, R116, R119, R121): its data are erased, its record
becomes absent (log entry 10), its timers stop, the ENTRY-END carries the count and no data, and the PAY silence timer
is disarmed. -/
def State.lostSession (s : State) (r : Session) (count : Nat) : State :=
  { s with
    ctl := { s.ctl with
      state := .closing, buffer := [], points := [], candidate := .none, record := none, firstKey := .stopped
      interKey := .stopped, total := .stopped }
    entryEnd := some ⟨s.ctl.session, .videoLost, r.mode, count, .absent⟩
    sup := { s.sup with silence := .stopped } }

/-- In `u` the session `r` of `s` has ended with outcome `o` (R115, R116, R118, R119): the ENTRY-END carries the session
number, the mode, from SECURE the number of digits or points, and the data of a COMPLETE end; the data are erased, the
record becomes absent (log entry 10), the timers stop and the PAY silence timer is disarmed. Outside ARMING the clear
set is written, at once active with the output stopped (R141), and in FULL presentation FOLLOW timing is asked for
(R136). From SECURE the controller is in CLOSING while the clear set has yet to become active; otherwise it is in
RELEASING, or in OPEN with the glass free, where APP is told FOCUS-RETURNED. -/
def State.EndsSession (s : State) (r : Session) (o : SessionOutcome) (u : State) : Prop :=
  let secure := s.ctl.state = .secure
  let free := s.frontEnd.scan = .noContact ∨ s.frontEnd.scan = .idle
  let halted := s.gate.timing = .follow ∧ s.gate.stopped = true
  let waits := secure ∧ ¬(halted ∧ s.gate.active ≠ OverlaySet.clear)
  u.entryEnd = some ⟨s.ctl.session, o, r.mode,
    if secure then (if r.mode = .pin then s.ctl.buffer.length else s.ctl.points.length) else 0,
    if secure ∧ o = .complete then (if r.mode = .pin then .digits s.ctl.buffer else .points s.ctl.points)
    else .absent⟩ ∧
  u.ctl = { s.ctl with
    state := if waits then .closing else if free then .opened else .releasing
    buffer := [], points := [], candidate := .none, record := none, firstKey := .stopped, interKey := .stopped
    total := .stopped } ∧
  u.gate = (if s.ctl.state = .arming then s.gate
    else { s.gate with
      pending := OverlaySet.clear
      active := if halted then OverlaySet.clear else s.gate.active
      timing := if r.presentation = .full then
          (if s.gate.timing = .toLocal then .follow
            else if s.gate.timing = .localTiming then .toFollow else s.gate.timing)
        else s.gate.timing }) ∧
  u.sup.silence = .stopped ∧
  (waits ∨ ¬free → u.inputs = s.inputs ∧ u.lost = s.lost) ∧
  (¬waits → free → u.inputs = (s.told focusReturned).inputs ∧ u.lost = (s.told focusReturned).lost)

/-- The frame that a request command carries, and the link it arrives on. -/
def requestOf : Instr → Option (Domain × Frame)
  | .badKindRequest d kind tag slot body => some (d, ⟨kind, tag, slot, body⟩)
  | .post d tag slot body => some (d, ⟨0x01, tag, slot, body⟩)
  | .status d tag slot body => some (d, ⟨0x02, tag, slot, body⟩)
  | .clear d tag slot body => some (d, ⟨0x03, tag, slot, body⟩)
  | .noticeTest d tag slot body => some (d, ⟨0x04, tag, slot, body⟩)
  | .load d tag slot body => some (d, ⟨0x10, tag, slot, body⟩)
  | .revert d tag slot body => some (d, ⟨0x11, tag, slot, body⟩)
  | .commit d tag slot body => some (d, ⟨0x12, tag, slot, body⟩)
  | .entryBegin d tag slot body => some (d, ⟨0x13, tag, slot, body⟩)
  | .entryAbort d tag slot body => some (d, ⟨0x14, tag, slot, body⟩)
  | .slotBar d tag slot body => some (d, ⟨0x15, tag, slot, body⟩)
  | .unlock d tag slot body => some (d, ⟨0x16, tag, slot, body⟩)
  | .restart d tag slot body => some (d, ⟨0x17, tag, slot, body⟩)
  | .lineError _ => none
  | .serialBreak _ => none
  | .breakEnd _ => none
  | .interByteTimeout _ => none
  | .lengthOver512 _ _ _ _ _ => none
  | .frameCheckFail _ _ _ _ _ _ => none
  | .readyAsserted _ => none
  | .readyDeasserted _ => none
  | .stallTimerExpiry _ => none
  | .replyComplete _ => none
  | .entryEndComplete => none
  | .entryProgressComplete => none
  | .inputComplete => none
  | .noticeComplete _ => none
  | .deliveryComplete _ => none
  | .fullReset => none
  | .fullResetEnd => none
  | .refillTimerExpiry => none
  | .scanTimerExpiry _ => none
  | .burstEnd _ => none
  | .supplyRequestTimerExpiry => none
  | .supplyConversionEnd _ => none
  | .keyInputChange _ _ => none
  | .keyDebounceExpiry _ => none
  | .totalTimerExpiry => none
  | .firstKeyTimerExpiry => none
  | .interKeyTimerExpiry => none
  | .inputFrameStart _ => none
  | .silenceWatchExpiry _ => none
  | .localFrameEnd => none
  | .tamperPinChange _ _ => none
  | .tamperFilterExpiry _ => none
  | .paySilenceExpiry => none
  | .repeatTimerExpiry _ => none
  | .receivedByte _ _ => none

/-- The body lengths that fit a request kind code (chapter 1, REQUEST BODIES; R9). -/
def fitsRequest (kind n : Nat) : Bool :=
  match kind with
  | 0x01 => decide (1 ≤ n ∧ n ≤ 512)
  | 0x10 => decide (1 ≤ n ∧ n ≤ 512)
  | 0x03 => decide (n = 2)
  | 0x12 => decide (n = 2)
  | 0x15 => decide (n = 2)
  | 0x13 => decide (n = 19)
  | _ => decide (n = 0)

/-- The bytes taken one after another by a receiver: where it ends, and the event of each byte (R4). -/
def Receiver.takeAll (r : Receiver) : List Byte → Receiver × List RxEvent
  | [] => (r, [])
  | b :: bs => ((r.take b).1.takeAll bs |>.1, (r.take b).2 :: ((r.take b).1.takeAll bs).2)

/-! ## Frames -/

/-- The state with everything blanked that the entry controller, the gate, the notice unit and the purges of the
switch act on; what is left is the frame of a session's commands. -/
def State.besideSession (s : State) : State :=
  { s with
    ctl := Controller.reset, gate := Gate.reset, entryEnd := none, progress := [], inputs := []
    lost := false, switch := { s.switch with queues := Switch.reset.queues }
    notices := PerDomain.all NoticeBox.blank, sup := { s.sup with silence := .stopped } }

/-- A delivery queue without the run count and the in-transmission marks. -/
def DeliveryQueue.besideTransmit (q : DeliveryQueue) : DeliveryQueue :=
  { q.mapLists (fun es => es.map fun e => { e with sending := false }) with run := 0 }

/-- The state with everything blanked that the transmitters' choice (R14) and the stall timers (R13) act on: the
frames in transmission, the stall timers, the lost mark, the NOTICE places, the in-transmission marks and the run
counts. -/
def State.besideTransmit (s : State) : State :=
  let port := fun d => { s.port d with tx := none, stallTimer := .stopped }
  let box := fun d => { s.box d with place := .empty }
  let queue := fun d => (s.queue d).besideTransmit
  { s with
    ports := ⟨port .pay, port .app, port .rad⟩
    notices := ⟨box .pay, box .app, box .rad⟩
    lost := false
    switch := { s.switch with queues := ⟨queue .pay, queue .app, queue .rad⟩ } }

/-- Whether class `c` of link `d`'s queue has lost entries to a purge of the entries `gone` names, has room again, and
`src` holds a space-wanted mark for it (R62). -/
def State.meetsSpace (s : State) (gone : Entry → Bool) (d src : Domain) (c : Machine.Class) : Bool :=
  let left := ((s.queue d).entries.get c).filter fun e => !gone e
  (s.queue d).all.any gone && ((s.queue d).wanted.get src).get c &&
    decide (left.length ≤ (if c = .priority then 12 else 9) ∧
      payloadBytes left ≤ if c = .priority then 3072 else 2304)

/-- The notice box `b` of `src` once that purge has been judged on every queue: a met mark sets QUEUE_SPACE (R62). -/
def State.spaceJudged (s : State) (gone : Entry → Bool) (src : Domain) (b : NoticeBox) : NoticeBox :=
  if allDomains.any fun d => s.meetsSpace gone d src .priority || s.meetsSpace gone d src .bulk
  then b.setFlag (s.active.notices.get src) .queueSpace else b

/-- In `u` the session has ended as `State.EndsSession` says, and nothing else has changed, but that in OPEN no entry is
held (R52). -/
def State.EndsAlone (s : State) (r : Session) (o : SessionOutcome) (u : State) : Prop :=
  s.EndsSession r o u ∧ u.progress = s.progress ∧ u.notices = s.notices ∧
  (∀ d, u.queue d = if u.ctl.state = .opened then (s.queue d).unheld else s.queue d) ∧
  u.besideSession = s.besideSession

/-! ## The end of a stroke -/

/-- What the entry into NO_CONTACT brings (R77), `v` being the state in which the scan has settled: it ends RELEASING
(R118) and ARMING (R105), and changes nothing else. In ARMING the secure set is written: the session is presented at
once when it is FULL and the output idle (R135); an OVERLAY session during a loss episode ends VIDEO_LOST in PRESENTING
(R119, R132); any other waits in PRESENTING. `ends u` says that the command ends in `u`. -/
def State.GlassFreed (v : State) (ends : State → Prop) : Prop :=
  (v.ctl.state ≠ .arming → v.ctl.state ≠ .releasing → ends v) ∧
  (v.ctl.state = .releasing → ends v.openedAgain) ∧
  ∀ r, v.ctl.state = .arming → v.ctl.record = some r →
    (r.presentation = .overlay → v.gate.episode = false → ends (v.presents r)) ∧
    (r.presentation = .overlay → v.gate.episode = true →
      ∃ u : State, ends u ∧ (v.presents r).EndsAlone r .videoLost u) ∧
    (r.presentation = .full → ¬v.gate.Idle → ends (v.presents r)) ∧
    (r.presentation = .full → v.gate.Idle → v.gate.active.isSecure = false → ends (v.presentsAtOnce r))

/-- What the UP of the stroke of `s` brings (R92, R93), `up` being the state in which the scan, the mapper and the
stroke marks have settled. In OPEN an UP of the APP stroke is queued. In SECURE an UP of the session stroke is the press
of its candidate (R108; `KeyActionsFollowTheTable`), or in a CALIBRATE session adds its point, the last of which ends
the session COMPLETE (R124). An UP without its mark, and one in any other state, is discarded, and the entry into
NO_CONTACT follows. `ends u` says that the command ends in `u`. -/
def State.UpActs (s up : State) (unstable : Bool) (ends : State → Prop) : Prop :=
  let n := s.mapper.stroke
  let q := s.active.mapPosition s.mapper.sx s.mapper.sy
  (s.ctl.state = .opened → s.ctl.appStroke = some n →
    ends (up.told ⟨.up, n, q.x, q.y, none, q.edge, false, unstable⟩)) ∧
  (s.ctl.state = .opened → s.ctl.appStroke ≠ some n → ends up) ∧
  (s.ctl.state = .secure → s.ctl.sessionStroke ≠ some n → ends up) ∧
  (∀ r, s.ctl.state = .secure → s.ctl.record = some r → s.ctl.sessionStroke = some n → s.gate.stopped = false →
    s.gate.episode = false ∨ s.gate.pending.presentation ≠ .overlay →
    (∀ i, r.mode = .pin → s.ctl.candidate = .cell i →
      ends ((pressCell r i up).setCtl { (pressCell r i up).ctl with candidate := .none })) ∧
    (r.mode = .pin → s.ctl.candidate = .none ∨ s.ctl.candidate = .void →
      ends { up with ctl := { up.ctl with candidate := .none } }) ∧
    (r.mode = .calibrate →
      let points := s.ctl.points ++ [(s.mapper.sx, s.mapper.sy)]
      (points.length ≠ r.least → ends { up with ctl := { up.ctl with
        points := points, firstKey := .stopped, interKey := .running (1000 * r.interKey) } }) ∧
      (points.length = r.least →
        ∃ u : State, ends u ∧ ({ up with ctl := { up.ctl with points := points } } : State).EndsAlone r .complete u))) ∧
  (s.ctl.state ≠ .opened → s.ctl.state ≠ .secure → up.GlassFreed ends)

/-! ## Invariants -/

/-- The queues keep their capacities: 4 replies on every link (R8), 8 progress frames (R113), 32 input events
(R97), and in each delivery queue 24 entries and 6144 payload bytes, of them 18 entries and 4608 bytes BULK
(R50). -/
abbrev State.CapacityInv (s : State) : Prop :=
  s.progress.length ≤ 8 ∧ s.inputs.length ≤ 32 ∧
  ∀ d ∈ allDomains,
    (s.port d).replies.length ≤ 4 ∧
    (s.queue d).entries.priority.length + (s.queue d).entries.bulk.length ≤ 24 ∧
    payloadBytes (s.queue d).entries.priority + payloadBytes (s.queue d).entries.bulk ≤ 6144 ∧
    (s.queue d).entries.bulk.length ≤ 18 ∧ payloadBytes (s.queue d).entries.bulk ≤ 4608

/-- The entry buffer (R110): empty outside SECURE, at most the session's maximum length, which is at most 12, of
digits 0–9. -/
abbrev State.BufferInv (s : State) : Prop :=
  (s.ctl.state ≠ .secure → s.ctl.buffer = []) ∧ (∀ x ∈ s.ctl.buffer, x ≤ 9) ∧
  match s.ctl.record with
  | none => s.ctl.buffer = []
  | some r => s.ctl.buffer.length ≤ r.maxLength ∧ r.maxLength ≤ 12 ∧ ∀ x ∈ r.digitMap, x ≤ 9

/-- The session timers and the PAY silence timer (R114, R156): a session record is present, and the total timer
and the PAY silence timer run, exactly in ARMING, PRESENTING and SECURE; of the first-key and inter-key timers
exactly one runs in SECURE and none elsewhere. -/
abbrev State.SessionInv (s : State) : Prop :=
  (s.ctl.record.isSome ↔ s.inSession) ∧ (s.ctl.total.isRunning ↔ s.inSession) ∧
  (s.sup.silence.isRunning ↔ s.inSession) ∧
  (s.ctl.state = .secure → s.ctl.firstKey.isRunning = !s.ctl.interKey.isRunning) ∧
  (s.ctl.state ≠ .secure → s.ctl.firstKey.isRunning = false ∧ s.ctl.interKey.isRunning = false)

/-- The sets of the gate agree with the controller's state (chapter 6, the table of states; R145): a secure set is
active exactly in SECURE and CLOSING, except that in LOCKED it may still be; a secure set is pending exactly in
PRESENTING and SECURE; in LOCKED the lock set is pending, and active once the lock shown mark is set (R127); while the
output follows the input, a frame is in progress (R133, R135); a session record is present exactly in a session; no
report of the gate waits. -/
abbrev State.GateInv (s : State) : Prop :=
  s.reports = [] ∧
  (s.ctl.state ≠ .locked → (s.gate.active.isSecure = true ↔ s.ctl.state = .secure ∨ s.ctl.state = .closing)) ∧
  (s.gate.pending.isSecure = true ↔ s.ctl.state = .presenting ∨ s.ctl.state = .secure) ∧
  (s.ctl.state = .locked → s.gate.pending.kind = .lock) ∧
  (s.ctl.state = .locked → s.ctl.lockShown = true → s.gate.active.kind = .lock) ∧
  ((s.gate.timing = .follow ∧ s.gate.stopped = false ∨ s.gate.timing = .toLocal) → s.gate.inFrame = true) ∧
  (s.ctl.state ≠ .locked → s.gate.pending.kind ≠ .lock) ∧
  (s.ctl.record.isSome ↔ s.inSession)

/-- The trust lamp (R145): lit exactly in SECURE and CLOSING, save for LOCKED, where it may still be. -/
abbrev State.LampRight (s : State) : Prop :=
  s.ctl.state ≠ .locked → (s.gate.lamp = .high ↔ s.ctl.state = .secure ∨ s.ctl.state = .closing)

/-- Every bucket level lies at or below its slot's depth (R48). -/
abbrev State.BucketInv (s : State) : Prop := ∀ i : Fin 8, s.switch.levels[i] ≤ s.active.slots[i].depth

/-- Every entry of every delivery queue, with the link it is queued for, has `p`. -/
abbrev State.everyEntry (s : State) (p : Domain → Entry → Prop) : Prop :=
  ∀ d ∈ allDomains, ∀ e ∈ (s.queue d).all, p d e

/-- Held entries exist only while the controller is not OPEN, only on HOLD channels, and are never in
transmission (R51, R52). -/
def State.HeldInv (s : State) : Prop :=
  s.everyEntry fun _ e =>
    e.held = true → s.ctl.state ≠ .opened ∧ onHoldChannel s.active e = true ∧ e.sending = false

/-- An entry of link `d`'s queue fits the policy in force (R56): its channel is OPEN, its source is an endpoint
and `d` the other one, and a slot of APP is in the mask and not barred. -/
def Entry.fits (s : State) (d : Domain) (e : Entry) : Prop :=
  ∃ c, openChannel s.active e.channel = some c ∧ c.isEndpoint e.source = true ∧ c.other e.source = d ∧
    (e.source = .app → ∃ n, e.slot = some n ∧ n < 8 ∧ c.allowsSlot n = true ∧ s.switch.barred n = false)

/-- Every entry whose transmission has not begun fits the policy in force (R56). -/
def State.RouteInv (s : State) : Prop := s.everyEntry fun d e => e.sending = false → e.fits s d

/-- In LOCKED no entry stands on a channel with an APP endpoint, unless it is in transmission (R58). -/
def State.LockedInv (s : State) : Prop :=
  s.ctl.state = .locked → s.everyEntry fun _ e => e.sending = false → onAppChannel s.active e = false

/-- The frame in transmission on a link stands at its place (R8, R14–R16, R162): a REPLY, an ENTRY-END, an
ENTRY-PROGRESS or an INPUT in its queue, a NOTICE in SENDING, a DELIVERY by exactly one marked entry; and no place
is marked for a frame that is not in transmission. -/
abbrev State.TransmitInv (s : State) : Prop :=
  ∀ d ∈ allDomains,
    (s.isSending d .reply = true → (s.port d).replies ≠ []) ∧
    (s.isSending d .entryEnd = true → d = .pay ∧ s.entryEnd ≠ none) ∧
    (s.isSending d .progress = true → d = .pay ∧ s.progress ≠ []) ∧
    (s.isSending d .input = true → d = .app ∧ s.inputs ≠ []) ∧
    (s.isSending d .notice = true ↔ (s.box d).place ≠ .empty ∧ (s.box d).place ≠ .waiting) ∧
    ((s.queue d).all.countP fun e => e.sending) = if s.isSending d .delivery = true then 1 else 0

/-- No transmitter rests while it could send, and the stall timers run exactly when R13 says: outside a full
reset, a link whose transmitter is free and whose ready input is asserted has no frame waiting (R14), and the stall
timer of APP or RAD runs exactly while ready is deasserted, a frame waits and no episode stands; PAY has none. -/
abbrev State.BusyInv (s : State) : Prop :=
  s.inReset = false →
  ∀ d ∈ allDomains,
    ((s.port d).tx = none → (s.port d).ready = .high → s.hasWaiting d = false) ∧
    ((s.port d).stallTimer.isRunning = true ↔
      d ≠ .pay ∧ (s.port d).stalled = false ∧ (s.port d).ready = .low ∧ s.hasWaiting d = true)

/-- The notice boxes (R160–R165): only the domain's own flags are set; a NOTICE waits only for a domain with a flag
set; the follow-up mark stands only behind a NOTICE in transmission; the repeat timer is not stopped exactly while
its three conditions hold. -/
abbrev State.NoticeInv (s : State) : Prop :=
  ∀ d ∈ allDomains,
    (s.box d).flags &&& ~~~(flagMask d) = 0 ∧
    ((s.box d).place = .waiting → (s.box d).flags ≠ 0) ∧
    ((s.box d).followUp = true → (s.box d).place ≠ .empty ∧ (s.box d).place ≠ .waiting) ∧
    ((s.box d).repeatTimer ≠ .stopped ↔
      (s.active.notices.get d).report = .repeated ∧ (s.active.notices.get d).clear = .onClear ∧
        (s.box d).flags ≠ 0)

/-- The policy in force (R20, R34, R64): the active set passes validation, and the touch front end is IDLE exactly
while no policy is committed. -/
abbrev State.PolicyInv (s : State) : Prop :=
  s.active.validate = none ∧ (s.frontEnd.scan = .idle ↔ s.generation = 0)

/-- The panel drives and the ADC (R64, R66–R68): in IDLE the panel is in the off arrangement, no scan is in progress
and the scan timer does not run; in any other scan state the panel is in the detect arrangement, except that it is in
the arrangement of a quantity exactly while a burst runs; and a burst runs exactly while it holds the ADC. -/
abbrev State.PanelInv (s : State) : Prop :=
  (s.frontEnd.scan = .idle →
    s.frontEnd.panel = .off ∧ s.frontEnd.progress = .none ∧ s.frontEnd.timer.isRunning = false) ∧
  (s.frontEnd.scan ≠ .idle → s.frontEnd.progress ≠ .burstRunning → s.frontEnd.panel = .detect) ∧
  (s.frontEnd.progress = .burstRunning → s.frontEnd.panel ∈ burstOrder) ∧
  (s.adc.use = .burst ↔ s.frontEnd.progress = .burstRunning)

/-- A colour whose components lie in 0–63. -/
abbrev Rgb.inRange (c : Rgb) : Prop := c.r ≤ 63 ∧ c.g ≤ 63 ∧ c.b ≤ 63

/-- A CHANNEL record in its ranges (R23): the mask is present exactly when an endpoint is APP. -/
abbrev Channel.inRange (c : Channel) : Prop :=
  1 ≤ c.maxPayload ∧ c.maxPayload ≤ 480 ∧ (c.mask.isSome = true ↔ c.endA = .app ∨ c.endB = .app)

/-- A SLOT record in its ranges (R24). -/
abbrev Slot.inRange (r : Slot) : Prop := r.depth ≤ 65535 ∧ r.refill ≤ 4095

/-- A present CELL record in its ranges (R25): a DIGIT cell has a glyph base of at most 54. -/
abbrev Cell.inRange (c : Cell) : Prop :=
  c.x0 ≤ 1023 ∧ c.x1 ≤ 1023 ∧ c.y0 ≤ 1279 ∧ c.y1 ≤ 1279 ∧ c.fill.inRange ∧ c.ink.inRange ∧
  c.glyph.getD 0 ≤ 63 ∧ (c.role = .digit → c.glyph.isSome = true ∧ c.glyph.getD 0 ≤ 54)

/-- A GEOMETRY record in its ranges (R27). -/
abbrev Geometry.inRange (g : Geometry) : Prop :=
  128 ≤ g.w ∧ g.w ≤ 1024 ∧ 128 ≤ g.h ∧ g.h ≤ 1280 ∧ 30 ≤ g.refresh ∧ g.refresh ≤ 60 ∧ g.backdrop.inRange

/-- A TOUCH record in its ranges (R28). -/
abbrev Touch.inRange (r : Touch) : Prop :=
  2 ≤ r.scanPeriod ∧ r.scanPeriod ≤ 20 ∧ r.spreadLimit ≤ 255 ∧ r.cOn ≤ 65535 ∧ r.cOff ≤ 65535 ∧
  1 ≤ r.downDebounce ∧ r.downDebounce ≤ 8 ∧ 1 ≤ r.upDebounce ∧ r.upDebounce ≤ 8 ∧ r.shift ≤ 4 ∧
  r.moveThreshold ≤ 15 ∧ r.penThreshold ≤ 255 ∧ r.guardMargin ≤ 15

/-- A signed field of `n` bits. -/
abbrev fitsSigned (n : Nat) (v : Int) : Prop := -(2 ^ (n - 1)) ≤ v ∧ v < 2 ^ (n - 1)

/-- A MAPPING record in its ranges (R29). -/
abbrev Mapping.inRange (m : Mapping) : Prop :=
  fitsSigned 24 m.xu ∧ fitsSigned 24 m.xv ∧ fitsSigned 32 m.x0 ∧ fitsSigned 24 m.yu ∧ fitsSigned 24 m.yv ∧
  fitsSigned 32 m.y0

/-- A SUPERVISION record in its ranges (R30). -/
abbrev Supervision.inRange (r : Supervision) : Prop :=
  3000 ≤ r.warn ∧ r.warn ≤ 4200 ∧ 2800 ≤ r.abort ∧ r.abort ≤ 4000 ∧ 250 ≤ r.paySilence ∧ r.paySilence ≤ 10000

/-- A policy set whose every record lies in its ranges (R23–R31). -/
abbrev Policy.inRange (p : Policy) : Prop :=
  (∀ i : Fin 32, p.channels[i].inRange) ∧ (∀ i : Fin 8, p.slots[i].inRange) ∧
  (∀ i : Fin 20, ∀ c ∈ p.cells[i], c.inRange) ∧ (∀ i : Fin 64, p.glyphs[i].length = 160) ∧
  p.geometry.inRange ∧ p.touch.inRange ∧ p.mapping.inRange ∧ p.supervision.inRange ∧
  5 ≤ p.debounce ∧ p.debounce ≤ 50 ∧ (∀ d ∈ allDomains, 1 ≤ p.weights.get d ∧ p.weights.get d ≤ 15)

/-- Every record of both sets lies in its ranges (R22–R31). -/
abbrev State.RecordInv (s : State) : Prop := s.staging.inRange ∧ s.active.inRange

/-- The numbers the part keeps lie in their ranges: S16 coordinates 0–65520, stroke number 0–255 (chapter 5),
reject count 0–15 (R75), malformed count 0–2 (R129), session number 0–255, generation 0–65535 (R20), last
measurement 0–4800 mV (R152). -/
abbrev State.RangeInv (s : State) : Prop :=
  s.mapper.sx ≤ 65520 ∧ s.mapper.sy ≤ 65520 ∧ s.mapper.stroke ≤ 255 ∧ s.frontEnd.reject ≤ 15 ∧
  s.gate.malformed ≤ 2 ∧ s.ctl.session ≤ 255 ∧ s.generation ≤ 65535 ∧ s.sup.measurement ≤ 4800

/-- `inv` is kept by every step that answers a next state. -/
def KeptByStep (inv : State → Prop) : Prop := ∀ s t, inv s → step s = .next t → inv t

/-! ## Hiding the digits (R110) -/

/-- An ENTRY-END without the digits of a PIN. -/
def EntryEnd.hidden (e : EntryEnd) : EntryEnd :=
  match e.data with
  | .digits ds => { e with data := .digits (List.replicate ds.length 0) }
  | .absent => e
  | .points _ => e

/-- A transmission without the contents of an ENTRY-END's body. -/
def Transmission.hidden (t : Transmission) : Transmission :=
  if t.source = .entryEnd then { t with frame := { t.frame with body := [] } } else t

/-- The state as seen by all but the receiver of the ENTRY-END: the digits in the entry buffer, in the pending
ENTRY-END and in the body of an ENTRY-END in transmission on the PAY link are blanked; how many digits the buffer
holds is not. -/
def State.hidden (s : State) : State :=
  { s with
    ctl := { s.ctl with buffer := List.replicate s.ctl.buffer.length 0 }
    entryEnd := s.entryEnd.map EntryEnd.hidden
    ports := s.ports.set .pay { s.ports.get .pay with tx := (s.ports.get .pay).tx.map Transmission.hidden } }

end Sys2Proof.Machine
end

