-- ==== Sys2Proof/WellFormed.lean ====
section
/-! DEFINITION. Which terms of `Instr` are commands that the part's surroundings can give: the body of a frame
is at most 512 bytes (R4), a BAD_KIND_REQUEST carries no request kind (R9), a LENGTH_OVER_512 carries a length
over 512, and an active line has at least one pixel (R129). The meanings are total: on an ill-formed term they
do what the rules say of such a frame. -/

namespace Sys2Proof

/-- A frame body as R4 lets the receiver collect it. -/
def bodyFits (body : List Byte) : Bool := decide (body.length ≤ 512)

/-- The request kind codes of R9 (chapter 1, REQUEST BODIES). -/
def isRequestCode (kind : Byte) : Bool :=
  decide (0x01 ≤ kind.toNat ∧ kind.toNat ≤ 0x04) || decide (0x10 ≤ kind.toNat ∧ kind.toNat ≤ 0x17)

/-- A run of pixel clocks holds at least one pixel (R129). -/
def linesFit (lines : List Nat) : Bool := lines.all fun n => decide (1 ≤ n)

/-- The well-formed commands. -/
def Instr.wf : Instr → Bool
  | .lengthOver512 _ _ _ _ length => decide (512 < length.toNat)
  | .frameCheckFail _ _ _ _ body _ => bodyFits body
  | .badKindRequest _ kind _ _ body => !isRequestCode kind && bodyFits body
  | .post _ _ _ body => bodyFits body
  | .status _ _ _ body => bodyFits body
  | .clear _ _ _ body => bodyFits body
  | .noticeTest _ _ _ body => bodyFits body
  | .load _ _ _ body => bodyFits body
  | .revert _ _ _ body => bodyFits body
  | .commit _ _ _ body => bodyFits body
  | .entryBegin _ _ _ body => bodyFits body
  | .entryAbort _ _ _ body => bodyFits body
  | .slotBar _ _ _ body => bodyFits body
  | .unlock _ _ _ body => bodyFits body
  | .restart _ _ _ body => bodyFits body
  | .stallTimerExpiry link => decide (link ≠ .pay)
  | .inputFrameStart lines => linesFit lines
  | .silenceWatchExpiry lines => linesFit lines
  | .lineError _ => true
  | .serialBreak _ => true
  | .breakEnd _ => true
  | .interByteTimeout _ => true
  | .readyAsserted _ => true
  | .readyDeasserted _ => true
  | .replyComplete _ => true
  | .entryEndComplete => true
  | .entryProgressComplete => true
  | .inputComplete => true
  | .noticeComplete _ => true
  | .deliveryComplete _ => true
  | .fullReset => true
  | .fullResetEnd => true
  | .refillTimerExpiry => true
  | .scanTimerExpiry _ => true
  | .burstEnd _ => true
  | .supplyRequestTimerExpiry => true
  | .supplyConversionEnd _ => true
  | .keyInputChange _ _ => true
  | .keyDebounceExpiry _ => true
  | .totalTimerExpiry => true
  | .firstKeyTimerExpiry => true
  | .interKeyTimerExpiry => true
  | .localFrameEnd => true
  | .tamperPinChange _ _ => true
  | .tamperFilterExpiry _ => true
  | .paySilenceExpiry => true
  | .repeatTimerExpiry _ => true
  | .receivedByte _ _ => true

end Sys2Proof
end

