-- ==== Sys2Proof/Certificates/Slice0/Obligations.lean ====
section
/-! DEFINITION. The statements for the provers: what each command does, and the invariants that every step keeps.
A next state is given as `finish` of the state that the rules give: `finish` is the transmitters' choice and the
judging of the stall timers, which end every command (`TransmittersChooseInOrder`, `NoTransmitterRests`). -/

open Sys2Proof Sys2Proof.Machine

/-! ## The machine -/

/-- A step takes the command at the front of the queue and runs it with the queue's rest. On an empty queue the part
idles (log entry 3), but that a running burst moves the panel on to the arrangement of its next quantity, in the order
X, Y, Z1, Z2, each with the drives and the sensed pin of chapter 4's table (R67; the tick is log entry 19). -/
def Obligations.StepRunsTheFrontCommand : Prop :=
  (∀ (c : Instr) (rest : List Instr) (s : State),
    s.pending = c :: rest → step s = exec c { s with pending := rest }) ∧
  (∀ s : State, s.pending = [] → s.frontEnd.progress ≠ .burstRunning → step s = .next s) ∧
  (∀ (s : State) (a : Arrangement), s.pending = [] → s.frontEnd.progress = .burstRunning →
    (s.frontEnd.panel, a) ∈ [(Arrangement.x, Arrangement.y), (.y, .z1), (.z1, .z2), (.z2, .z2)] →
    step s = .next { s with frontEnd := { s.frontEnd with panel := a } }) ∧
  (Arrangement.x.pins = (.high, .low, .open_, .open_) ∧ Arrangement.x.sensed = some (.yp, .adc)) ∧
  (Arrangement.y.pins = (.open_, .open_, .high, .low) ∧ Arrangement.y.sensed = some (.xp, .adc)) ∧
  (Arrangement.z1.pins = (.open_, .low, .high, .open_) ∧ Arrangement.z1.sensed = some (.xp, .adc)) ∧
  (Arrangement.z2.pins = (.open_, .low, .high, .open_) ∧ Arrangement.z2.sensed = some (.yn, .adc))

/-- Every command in every state answers a next state and leaves the queue alone (log entries 1 and 3). -/
def Obligations.EveryCommandAnswers : Prop :=
  ∀ (c : Instr) (s : State), ∃ t : State, exec c s = .next t ∧ t.pending = s.pending

/-- FULL_RESET puts every block into its reset state, whatever the state before; the pins stay as they are. It stands
until FULL_RESET_END (log entry 8): meanwhile a pin takes its new level and no more happens, and every command but these
and the two of the reset changes nothing. The data enable and the syncs of the panel output are inactive (R146). -/
def Obligations.FullResetPutsEveryBlockBack : Prop :=
  (∀ s : State, ∃ t : State, exec .fullReset s = .next t ∧ t.inReset = true ∧
    t.staging = t.active ∧ t.generation = 0 ∧ t.active.geometry = ⟨480, 800, 60, ⟨0, 0, 0⟩⟩ ∧
    t.active.touch = ⟨5, 24, 600, 800, 2, 3, 2, 2, 128, 4⟩ ∧ t.active.mapping = ⟨7680, 0, 0, 0, 12800, 0⟩ ∧
    t.active.supervision = ⟨⟨.disabled, .disabled⟩, 3500, 3300, 2000⟩ ∧ t.active.debounce = 20 ∧
    (∀ d, t.active.notices.get d = ⟨.edge, .onClear⟩ ∧ t.active.weights.get d = 4) ∧
    (∀ i : Fin 32, t.active.channels[i] = ⟨.unused, .pay, .pay, .aToB, .priority, 480, none, .pass⟩) ∧
    (∀ i : Fin 8, t.active.slots[i] = ⟨false, 0, 0⟩ ∧ t.switch.bars[i] = false ∧ t.switch.levels[i] = 0) ∧
    (∀ i : Fin 20, t.active.cells[i] = none) ∧ (∀ i : Fin 64, t.active.glyphs[i] = List.replicate 160 0) ∧
    t.entryEnd = none ∧ t.progress = [] ∧ t.inputs = [] ∧ t.lost = false ∧
    (∀ d, t.port d = ⟨.hunt, false, .stopped, (s.port d).ready, [], none, .stopped, false⟩) ∧
    (∀ d, t.queue d = ⟨⟨[], []⟩, 0, ⟨⟨false, false⟩, ⟨false, false⟩, ⟨false, false⟩⟩⟩) ∧
    (∀ d, t.box d = ⟨0, .empty, false, .stopped⟩) ∧
    t.frontEnd.scan = .idle ∧ t.frontEnd.down = 0 ∧ t.frontEnd.lift = 0 ∧ t.frontEnd.reject = 0 ∧
    t.frontEnd.timer = .stopped ∧ t.frontEnd.progress = .none ∧ t.frontEnd.panel = .off ∧
    t.adc = ⟨.free, false⟩ ∧ t.mapper = ⟨0, 0, false, false, 0, 0, 0⟩ ∧
    (∀ k, t.key k = ⟨(s.key k).pin, false, .stopped⟩) ∧
    t.ctl = ⟨.opened, 0, none, [], [], .none, .stopped, .stopped, .stopped, false, none,
      ⟨false, false, false, false⟩, none⟩ ∧
    t.gate = ⟨.follow, true, .stopped, false, 0, false, ⟨.none, [], 0, ⟨0, 0, 0⟩⟩, ⟨.none, [], 0, ⟨0, 0, 0⟩⟩,
      ⟨480, 800, 60, t.active.glyphs⟩, none⟩ ∧ t.gate.lamp = .low ∧ t.switch.refillTimer = .stopped ∧
    (∀ vin k p, let out := t.gate.voutPins vin k p
      out.de = false ∧ out.vsync = false ∧ out.hsync = false) ∧
    t.sup.level = .normal ∧ t.sup.measurement = 0 ∧ t.sup.silence = .stopped ∧ t.sup.requestTimer = .stopped ∧
    (∀ i, (t.tamper i).pin = (s.tamper i).pin ∧ (t.tamper i).latch = false ∧ (t.tamper i).inTrip = false ∧
      (t.tamper i).timer = .stopped)) ∧
  ∀ s : State, s.inReset = true →
    (∀ d, exec (.readyAsserted d) s = .next (s.setPort d { s.port d with ready := .high }) ∧
      exec (.readyDeasserted d) s = .next (s.setPort d { s.port d with ready := .low })) ∧
    (∀ k l, exec (.keyInputChange k l) s = .next (s.setKey k { s.key k with pin := l })) ∧
    (∀ i l, exec (.tamperPinChange i l) s = .next (s.setTamper i { s.tamper i with pin := l })) ∧
    ∀ c, (∀ d, c ≠ .readyAsserted d ∧ c ≠ .readyDeasserted d) → (∀ k l, c ≠ .keyInputChange k l) →
      (∀ i l, c ≠ .tamperPinChange i l) → c ≠ .fullReset → c ≠ .fullResetEnd → exec c s = .next s

/-- FULL_RESET_END starts the timers, takes the tamper pins as filtered, starts the timer of a key held down, asks
for the first supply conversion and sets RESTARTED for every domain; nothing else changes. After a FULL_RESET with
the pins of log entry 5 it leaves State.reset. -/
def Obligations.FullResetEndStartsThePart : Prop :=
  (∀ s : State, s.inReset = true → s.adc.use = .free →
    let key := fun k => { s.key k with timer :=
      if ((s.key k).pin = .low ↔ (s.key k).pressed = true) then .stopped
      else if (s.key k).timer.isRunning then (s.key k).timer else .running s.active.debounce }
    let tamper := fun i => { s.tamper i with filtered := (s.tamper i).pin, timer := .stopped }
    let awake : State := { s with
      inReset := false
      switch := { s.switch with refillTimer := .running 10 }
      keys := ⟨key .cancel, key .clear, key .enter, key .fn⟩
      gate := { s.gate with watch := .running 100 }
      sup := { s.sup with tamper := ⟨tamper .a, tamper .b⟩, requestTimer := .running 10 }
      adc := ⟨.supply, false⟩ }
    exec .fullResetEnd s =
      .next (finish (setFlag .rad .restarted (setFlag .app .restarted (setFlag .pay .restarted awake))))) ∧
  ∀ s : State, (∀ d, (s.port d).ready = .low) → (∀ k, (s.key k).pin = .high) →
    (∀ i, (s.tamper i).pin = .low) →
    ∃ r : State, exec .fullReset s = .next r ∧
      exec .fullResetEnd r = .next { State.reset with pending := s.pending, arbiterCount := s.arbiterCount }

/-! ## Reception (chapter 1) -/

/-- The receiver takes the bytes of any frame of at most 512 body bytes, with any check field, as that frame when the
check field is the CRC of R2, and as one frame error otherwise; either way it ends in HUNT, and no earlier byte has
any event. -/
def Obligations.ReceiverTakesExactlyTheFrameSent : Prop :=
  ∀ (f : Frame) (check : Word16), f.body.length ≤ 512 →
    Receiver.takeAll .hunt (startByte :: (f.covered ++ wordBytes check)) =
      (.hunt, List.replicate (f.covered.length + 2) RxEvent.none ++
        [if check = f.check then .frame f else .frameError])

/-- A line error, an inter-byte timeout, a length over 512 and a wrong check each discard the frame being assembled
and set FRAME_ERROR for the link's domain; nothing else changes. Outside a frame a line error changes nothing. -/
def Obligations.BadFramesAreDiscarded : Prop :=
  ∀ (d : Domain) (s : State), s.Receives d →
    let gone : Host.Outcome State Fault Refusal :=
      .next (finish (setFlag d .frameError (s.setPort d { s.port d with rx := .hunt, interByte := .stopped })))
    ((s.port d).rx ≠ .hunt → exec (.lineError d) s = gone) ∧
    ((s.port d).rx = .hunt → exec (.lineError d) s = .next (finish s)) ∧
    ((s.port d).rx ≠ .hunt → (s.port d).interByte.isRunning = true → exec (.interByteTimeout d) s = gone) ∧
    (∀ kind tag slot length, 512 < length.toNat → exec (.lengthOver512 d kind tag slot length) s = gone) ∧
    ∀ kind tag slot body check, (⟨kind, tag, slot, body⟩ : Frame).check ≠ check →
      exec (.frameCheckFail d kind tag slot body check) s = gone

/-- A received byte that does not end a frame moves the receiver on and starts the inter-byte timer from 5 ms, or
leaves it stopped in HUNT; one that ends a bad frame also sets FRAME_ERROR. -/
def Obligations.ReceivedByteIsCollected : Prop :=
  ∀ (d : Domain) (b : Byte) (r : Receiver) (s : State), s.Receives d →
    let moved := s.setPort d
      { s.port d with rx := r, interByte := if r = .hunt then .stopped else .running 5 }
    ((s.port d).rx.take b = (r, .none) → exec (.receivedByte d b) s = .next (finish moved)) ∧
    ((s.port d).rx.take b = (r, .frameError) →
      exec (.receivedByte d b) s = .next (finish (setFlag d .frameError moved)))

/-- A frame that arrives byte by byte is executed as the command that carries it whole (log entry 7). -/
def Obligations.BytewiseFrameRunsAsItsCommand : Prop :=
  ∀ (d : Domain) (b : Byte) (f : Frame) (c : Instr) (s : State), s.Receives d →
    (s.port d).rx.take b = (.hunt, .frame f) → requestOf c = some (d, f) →
    exec (.receivedByte d b) s = exec c s

/-- During a break the port receives nothing and breaks no second time; when the line returns high the receiver is
in HUNT. -/
def Obligations.BreakHoldsTheReceiver : Prop :=
  ∀ (d : Domain) (s : State), s.Live → (s.port d).inBreak = true →
    (∀ b, exec (.receivedByte d b) s = .next (finish s)) ∧
    exec (.lineError d) s = .next (finish s) ∧ exec (.serialBreak d) s = .next (finish s) ∧
    (∀ c f, requestOf c = some (d, f) → exec c s = .next (finish s)) ∧
    exec (.breakEnd d) s =
      .next (finish (s.setPort d { s.port d with inBreak := false, rx := .hunt, interByte := .stopped }))

/-- A serial break resets its link (R6, R7, R60, R168): the port, its frames and marks, its delivery queue, run count
and space-wanted marks, its flags but RESTARTED, and its repeat timer by the modes; on PAY a live session ends
(`SessionEndsWithItsOutcome`), and outside a session the pending ENTRY-END, the controller, the gate and the inputs stay
(R101, R123). The other links keep their ports and their queues, held entries too unless the end of the session brings
OPEN (R52). Where the purge removed an entry, each other domain
with a mark on the reset link's queue gets QUEUE_SPACE and the mark clears; every other mark and notice box stays (R62).
The input blocks, the policy tables, the bars and the levels stay. -/
def Obligations.SerialBreakResetsItsLink : Prop :=
  ∀ (d : Domain) (s : State), s.Receives d →
    let m := s.active.notices.get d
    let purged := decide ((s.queue d).all ≠ [])
    ∃ u : State, exec (.serialBreak d) s = .next (finish u) ∧
      u.ports = s.ports.set d ⟨.hunt, true, .stopped, (s.port d).ready, [], none, .stopped, false⟩ ∧
      u.progress = (if d = .pay then [] else s.progress) ∧
      (d = .app → u.inputs = [] ∧ u.lost = false) ∧ (d = .rad → u.inputs = s.inputs ∧ u.lost = s.lost) ∧
      (u.queue d).entries = ⟨[], []⟩ ∧ (u.queue d).run = 0 ∧
      (∀ e src c, ((u.queue e).wanted.get src).get c =
        (((s.queue e).wanted.get src).get c && !decide (src = d) && !(decide (e = d) && purged))) ∧
      u.box d = ⟨0x0001, .waiting, false,
        if m.report = .repeated ∧ m.clear = .onClear then .running 500 else .stopped⟩ ∧
      (∀ e, e ≠ d →
        (u.box e = if purged ∧ (((s.queue d).wanted.get e).priority = true ∨ ((s.queue d).wanted.get e).bulk = true)
          then (s.box e).setFlag (s.active.notices.get e) .queueSpace else s.box e) ∧
        (u.queue e).run = (s.queue e).run ∧
        (u.queue e).entries =
          (if d = .pay ∧ s.inSession ∧ u.ctl.state = .opened then (s.queue e).unheld else s.queue e).entries) ∧
      ({ u with ports := s.ports } : State).besideSession = s.besideSession ∧
      (d ≠ .pay → u.ctl = s.ctl ∧ u.gate = s.gate ∧ u.sup = s.sup ∧ u.entryEnd = s.entryEnd) ∧
      (d = .pay → ¬s.inSession → u.ctl = s.ctl ∧ u.gate = s.gate ∧ u.entryEnd = s.entryEnd ∧
        u.inputs = s.inputs ∧ u.lost = s.lost ∧ (s.sup.silence = .stopped → u.sup = s.sup))

/-! ## Requests (chapters 1, 2, 3, 6, 9) -/

/-- A request that arrives while all four reply places are occupied is dropped: OVERRUN is set, no REPLY is
queued, and nothing else changes (R8), but that a PAY frame restarts the PAY silence timer (R4). -/
def Obligations.OverrunDropsTheRequest : Prop :=
  ∀ (c : Instr) (d : Domain) (f : Frame) (s : State), requestOf c = some (d, f) → s.Receives d →
    4 ≤ (s.port d).replies.length → exec c s = .next (finish (setFlag d .overrun (s.arrived d)))

/-- The port's checks of R9, in their order: a kind that is no request kind (BAD_KIND_REQUEST), a kind the domain may
not use, a body length that does not fit. The REPLY carries the status alone and nothing else changes. -/
def Obligations.PortRefusesByKindPermissionLength : Prop :=
  ∀ (c : Instr) (d : Domain) (f : Frame) (s : State), requestOf c = some (d, f) → s.Accepts d →
    (isRequestCode f.kind = false →
      exec c s = .next (finish ((s.arrived d).answered d f .badKind []))) ∧
    (isRequestCode f.kind = true → d ≠ .pay → 0x10 ≤ f.kind.toNat →
      exec c s = .next (finish ((s.arrived d).answered d f .notPermitted []))) ∧
    (isRequestCode f.kind = true → (d = .pay ∨ f.kind.toNat < 0x10) →
      fitsRequest f.kind.toNat f.body.length = false →
      exec c s = .next (finish ((s.arrived d).answered d f .badLength [])))

/-- A POST that passes the eleven checks of R41 is accepted: a metered one pays its cost, its entry joins the
destination queue at the newest end of its class, held on a HOLD channel while the controller is not OPEN, and the
REPLY is OK; nothing else changes. -/
def Obligations.PostIsAccepted : Prop :=
  ∀ (d : Domain) (tag slot n : Byte) (payload : List Byte) (c : Channel) (s : State), s.Accepts d →
    s.generation ≠ 0 →
    s.active.channels[n.toNat]? = some c → c.state = .opened →
    (s.ctl.state = .locked → d ≠ .app ∧ c.endA ≠ .app ∧ c.endB ≠ .app) →
    (c.endA = d ∧ c.direction ≠ .bToA ∨ c.endB = d ∧ c.direction ≠ .aToB) →
    (d = .app → slot.toNat < 8 ∧ (∃ m, c.mask = some m ∧ m.getLsbD slot.toNat = true) ∧
      s.switch.bars[slot.toNat]? = some false) →
    1 ≤ payload.length → payload.length ≤ c.maxPayload → payload.length ≤ 511 →
    (s.ctl.state = .opened ∨ c.hold ≠ .refuse) →
    let dest := if c.endA = d then c.endB else c.endA
    let metered := d = .app ∧ dest = .rad
    let level := (s.switch.levels[slot.toNat]?).getD 0
    (metered → payload.length + 8 ≤ level) →
    (s.queue dest).all.length ≤ 23 → payloadBytes (s.queue dest).all + payload.length ≤ 6144 →
    (c.cls = .bulk → (s.queue dest).entries.bulk.length ≤ 17 ∧
      payloadBytes (s.queue dest).entries.bulk + payload.length ≤ 4608) →
    let entry : Entry :=
      { channel := n.toNat, source := d, slot := if d = .app then some slot.toNat else none, cls := c.cls
        held := decide (s.ctl.state ≠ .opened ∧ c.hold = .hold), sending := false, payload := payload }
    let s1 := s.arrived d
    let s2 := if metered then
        { s1 with switch :=
          { s1.switch with levels := s1.switch.levels.setIfInBounds slot.toNat (level - (payload.length + 8)) } }
      else s1
    let s3 := s2.setQueue dest
      { s2.queue dest with
        entries := (s2.queue dest).entries.set c.cls ((s2.queue dest).entries.get c.cls ++ [entry]) }
    exec (.post d tag slot (n :: payload)) s =
      .next (finish (s3.answered d ⟨0x01, tag, slot, n :: payload⟩ .ok []))

/-- A post that fails a check of R41 gets the status of the first check that fails, in the table's order, and changes
nothing else, but that the eleventh, QUEUE_FULL, sets the source's space-wanted mark for the channel's class on the
destination queue (R61). -/
def Obligations.RefusedPostChangesNothing : Prop :=
  ∀ (d : Domain) (tag slot n : Byte) (payload : List Byte) (s : State), s.Accepts d → payload.length ≤ 511 →
    let f : Frame := ⟨0x01, tag, slot, n :: payload⟩
    let leaves := fun (u : State) (st : Status) =>
      exec (.post d tag slot (n :: payload)) s = .next (finish (u.answered d f st []))
    let refused := leaves (s.arrived d)
    let channel := s.active.channels[n.toNat]?
    let opened := ∃ c, channel = some c ∧ c.state = .opened
    let locks := s.ctl.state = .locked ∧
      (d = .app ∨ ∃ c, channel = some c ∧ c.state = .opened ∧ (c.endA = .app ∨ c.endB = .app))
    (s.generation = 0 → refused .noPolicy) ∧
    (s.generation ≠ 0 → locks → refused .locked) ∧
    (s.generation ≠ 0 → ¬locks → ¬opened → refused .noChannel) ∧
    ∀ c, s.generation ≠ 0 → ¬locks → channel = some c → c.state = .opened →
      let m := payload.length
      let endpoint := c.endA = d ∨ c.endB = d
      let way := c.direction = .both ∨ c.direction = .aToB ∧ c.endA = d ∨ c.direction = .bToA ∧ c.endB = d
      let allowed := d = .app → slot.toNat < 8 ∧ (c.mask.getD 0).getLsbD slot.toNat = true
      let barred := d = .app ∧ s.switch.bars[slot.toNat]? = some true
      let admitted := endpoint ∧ way ∧ allowed ∧ ¬barred
      let dest := if c.endA = d then c.endB else c.endA
      let refusing := s.ctl.state ≠ .opened ∧ c.hold = .refuse
      let poor := d = .app ∧ dest = .rad ∧ (s.switch.levels[slot.toNat]?).getD 0 < m + 8
      let q := s.queue dest
      let full := 23 < q.all.length ∨ 6144 < payloadBytes q.all + m ∨
        c.cls = .bulk ∧ (17 < q.entries.bulk.length ∨ 4608 < payloadBytes q.entries.bulk + m)
      (¬endpoint → refused .notEndpoint) ∧
      (endpoint → ¬way → refused .direction) ∧
      (endpoint → way → ¬allowed → refused .slotDenied) ∧
      (endpoint → way → allowed → barred → refused .slotBarred) ∧
      (admitted → m = 0 → refused .badLength) ∧
      (admitted → m ≠ 0 → c.maxPayload < m → refused .tooLong) ∧
      (admitted → m ≠ 0 → m ≤ c.maxPayload → refusing → refused .held) ∧
      (admitted → m ≠ 0 → m ≤ c.maxPayload → ¬refusing → poor → refused .quota) ∧
      (admitted → m ≠ 0 → m ≤ c.maxPayload → ¬refusing → ¬poor → full →
        leaves ((s.arrived d).setQueue dest
          { q with wanted := q.wanted.set d ((q.wanted.get d).set c.cls true) }) .queueFull)

/-- STATUS answers the summary of its domain, laid out as R170 and R171 give it, and RESTART answers OK; neither
changes anything but the reply queue. A STATUS from APP with a slot of 8 or more is refused SLOT_DENIED. -/
def Obligations.StatusAndRestartOnlyAnswer : Prop :=
  ∀ (d : Domain) (tag slot : Byte) (s : State), s.Accepts d →
    let queue := fun (q : DeliveryQueue) => byte q.all.length :: twoBytes (payloadBytes q.all)
    let bits := fun (t : Tamper) =>
      byte ((if t.filtered = .high then 1 else 0) + (if t.inTrip then 2 else 0) + (if t.latch then 4 else 0))
    let pay := [byte s.ctl.state.code, byte s.ctl.session] ++ twoBytes s.generation ++ queue (s.queue .pay) ++
      queue (s.queue .app) ++ queue (s.queue .rad) ++ twoBytes s.sup.measurement ++
      [byte s.sup.level.code, byte s.active.supervision.sense.a.code, bits s.sup.tamper.a,
       byte s.active.supervision.sense.b.code, bits s.sup.tamper.b,
       (if s.gate.timing = .localTiming ∨ s.gate.timing = .toFollow then 1 else 0),
       (if s.gate.episode then 1 else 0), byte s.frontEnd.scan.code,
       byte ((if (s.port .app).stalled then 2 else 0) + (if (s.port .rad).stalled then 4 else 0))]
    let app := [if s.ctl.state = .opened then 0 else 1] ++ twoBytes s.generation ++ queue (s.queue .app) ++
      twoBytes ((s.switch.levels[slot.toNat]?).getD 0)
    let rad := twoBytes s.generation ++ queue (s.queue .rad)
    let answer := fun (st : Status) (result : List Byte) =>
      exec (.status d tag slot []) s = .next (finish ((s.arrived d).answered d ⟨0x02, tag, slot, []⟩ st result))
    pay.length = 24 ∧ app.length = 8 ∧ rad.length = 5 ∧
    (d = .pay → answer .ok pay) ∧ (d = .rad → answer .ok rad) ∧
    (d = .app → slot.toNat < 8 → answer .ok app) ∧ (d = .app → 8 ≤ slot.toNat → answer .slotDenied []) ∧
    (d = .pay → exec (.restart .pay tag slot []) s =
      .next (finish ((s.arrived .pay).answered .pay ⟨0x17, tag, slot, []⟩ .ok [])))

/-- CLEAR clears the named flags of its domain, and when none is left it withdraws a waiting NOTICE, clears the
follow-up mark and stops the repeat timer, which otherwise runs on, or starts, while its conditions hold; NOTICE-TEST
sets TEST. Both reply OK; nothing else changes. -/
def Obligations.ClearAndNoticeTestAct : Prop :=
  ∀ (d : Domain) (tag slot lo hi : Byte) (s : State), s.Accepts d →
    (∃ b, exec (.clear d tag slot [lo, hi]) s =
        .next (finish (((s.arrived d).setBox d b).answered d ⟨0x03, tag, slot, [lo, hi]⟩ .ok [])) ∧
      b.flags = (s.box d).flags &&& ~~~(hi ++ lo) ∧
      (b.flags ≠ 0 → b.place = (s.box d).place ∧ b.followUp = (s.box d).followUp ∧ b.repeatTimer =
        if (s.active.notices.get d).report = .repeated ∧ (s.active.notices.get d).clear = .onClear then
          (if (s.box d).repeatTimer = .stopped then .running 500 else (s.box d).repeatTimer)
        else .stopped) ∧
      (b.flags = 0 → b.place = (if (s.box d).place = .waiting then .empty else (s.box d).place) ∧
        b.followUp = false ∧ b.repeatTimer = .stopped)) ∧
    exec (.noticeTest d tag slot []) s =
      .next (finish ((setFlag d .test (s.arrived d)).answered d ⟨0x04, tag, slot, []⟩ .ok []))

/-- A LOAD from PAY changes the staging set and the reply queue alone: a refused one stages nothing, an accepted one
reports a count and two bytes for each record. The walk of R21: a count of 0 or over 16 is BAD_PARAMETER; a record that
runs past the body, a missing record and bytes left over are BAD_LENGTH; a record of unknown kind is refused
UNKNOWN_KIND and those after it NOT_REACHED; and a record before others is staged first, and its report comes first. One
record: an index out of range is BAD_INDEX and an unlisted code BAD_ENUM; otherwise every record kind of R23 to R31 is
staged with its numbers clamped, and reported CLAMPED with the number of the first field clamped. In a CELL record a
glyph byte that is not present, and the fields of role NONE, clamp nothing (log entry 11). -/
def Obligations.LoadStagesOnly : Prop :=
  (∀ (tag slot n : Byte) (rest : List Byte) (s : State), s.Accepts .pay → rest.length ≤ 511 →
    ∃ p st out, exec (.load .pay tag slot (n :: rest)) s =
        .next (finish (({ s.arrived .pay with staging := p } : State).answered .pay
          ⟨0x10, tag, slot, n :: rest⟩ st out)) ∧
      (p, st, out) = ((runLoad (n :: rest) s).1.staging, (runLoad (n :: rest) s).2) ∧
      (st = .ok ∨ st = .badParameter ∨ st = .badLength) ∧
      (st = .badParameter ↔ n.toNat = 0 ∨ 16 < n.toNat) ∧
      (st ≠ .ok → p = s.staging ∧ out = []) ∧ (st = .ok → out.length = 1 + 2 * n.toNat)) ∧
  ∀ s : State,
    let p := s.staging
    let width := fun (k : Byte) => [9, 5, 17, 160, 8, 12, 20, 8, 1, 2, 1].getD (k.toNat - 1) 0
    let indices := fun (k : Byte) => [32, 8, 20, 64, 1, 1, 1, 1, 1, 3, 3].getD (k.toNat - 1) 0
    let known := fun (k : Byte) => 1 ≤ k.toNat ∧ k.toNat ≤ 11
    let short := fun (body : List Byte) => runLoad body s = (s, .badLength, [])
    -- the walk
    (∀ n k rest, 1 ≤ n → n ≤ 16 → ¬known k →
      runLoad (byte n :: k :: rest) s = (s, .ok, byte n :: 2 :: 1 :: (List.replicate (n - 1) [2, 4]).flatten)) ∧
    (∀ n k rest, 1 ≤ n → n ≤ 16 → known k → rest.length < width k + 1 → short (byte n :: k :: rest)) ∧
    (∀ n, 1 ≤ n → n ≤ 16 → short [byte n]) ∧
    (∀ k i f extra, known k → f.length = width k → extra ≠ [] → short (1 :: k :: i :: (f ++ extra))) ∧
    (∀ n k i f rest, 1 ≤ n → n ≤ 15 → known k → f.length = width k →
      let a := runLoad (1 :: k :: i :: f) s
      let b := runLoad (byte n :: rest) a.1
      runLoad (byte (n + 1) :: k :: i :: (f ++ rest)) s =
        if b.2.1 = .ok then (b.1, .ok, byte (n + 1) :: (a.2.2.drop 1 ++ b.2.2.drop 1)) else (s, b.2.1, [])) ∧
    -- one record
    ∀ (k i : Byte) (f : List Byte), known k → f.length = width k →
      let one := fun (q : Policy) (report : List Byte) =>
        runLoad (1 :: k :: i :: f) s = ({ s with staging := q }, .ok, 1 :: report)
      let u := fun (o : Nat) => (f.getD o 0).toNat
      let w := fun (o : Nat) => u o + 256 * u (o + 1)
      let off := fun (lo hi v : Nat) => decide (v < lo ∨ hi < v)
      let into := fun (lo hi v : Nat) => if v < lo then lo else if hi < v then hi else v
      let colour := fun (o : Nat) => (⟨min 63 (u o), min 63 (u (o + 1)), min 63 (u (o + 2))⟩ : Rgb)
      let pale := fun (o : Nat) => decide (63 < u o ∨ 63 < u (o + 1) ∨ 63 < u (o + 2))
      let staged := fun (q : Policy) (outside : List (Nat × Bool)) =>
        one q (match outside.find? fun x => x.2 with
          | none => [0, 0]
          | some x => [1, byte x.1])
      let legal :=
        (k = 1 → u 0 ≤ 1 ∧ u 1 ≤ 2 ∧ u 2 ≤ 2 ∧ u 3 ≤ 2 ∧ u 4 ≤ 1 ∧ u 8 ≤ 2) ∧ (k = 2 → u 0 ≤ 1) ∧
        (k = 3 → u 0 ≤ 8 ∧ u 15 ≤ 1) ∧ (k = 8 → u 0 ≤ 3 ∧ u 1 ≤ 3) ∧ (k = 10 → u 0 ≤ 1 ∧ u 1 ≤ 1)
      let domains := [Domain.pay, Domain.app, Domain.rad]
      let domain := fun (o : Nat) => domains.getD (u o) .pay
      (indices k ≤ i.toNat → one p [2, 2]) ∧ (i.toNat < indices k → ¬legal → one p [2, 3]) ∧
      (i.toNat < indices k → legal →
        (k = 1 →
          let c : Channel :=
            { state := [ChannelState.unused, .opened].getD (u 0) .unused, endA := domain 1, endB := domain 2
              direction := [Direction.aToB, .bToA, .both].getD (u 3) .aToB
              cls := [Class.priority, .bulk].getD (u 4) .priority, maxPayload := into 1 480 (w 5)
              mask := if domain 1 = .app ∨ domain 2 = .app then some (f.getD 7 0) else none
              hold := [HoldPolicy.pass, .hold, .refuse].getD (u 8) .pass }
          staged { p with channels := p.channels.setIfInBounds i.toNat c } [(6, off 1 480 (w 5))]) ∧
        (k = 2 →
          let r : Slot := { barred := decide (u 0 = 1), depth := w 1, refill := into 0 4095 (w 3) }
          staged { p with slots := p.slots.setIfInBounds i.toNat r } [(3, off 0 4095 (w 3))]) ∧
        (k = 3 → u 0 = 0 → staged { p with cells := p.cells.setIfInBounds i.toNat none } []) ∧
        (k = 3 → u 0 ≠ 0 →
          let role := [Role.digit, .enter, .clear, .back, .cancel, .dots, .band, .label].getD (u 0 - 1) .label
          let most := if role = .digit then 54 else 63
          let c : Cell :=
            { role := role, x0 := into 0 1023 (w 1), y0 := into 0 1279 (w 3), x1 := into 0 1023 (w 5)
              y1 := into 0 1279 (w 7), fill := colour 9, ink := colour 12
              glyph := if u 15 = 1 then some (into 0 most (u 16)) else if role = .digit then some 0 else none }
          staged { p with cells := p.cells.setIfInBounds i.toNat (some c) }
            [(2, off 0 1023 (w 1)), (3, off 0 1279 (w 3)), (4, off 0 1023 (w 5)), (5, off 0 1279 (w 7)), (6, pale 9),
             (7, pale 12), (9, decide (u 15 = 1) && off 0 most (u 16))]) ∧
        (k = 4 → staged { p with glyphs := p.glyphs.setIfInBounds i.toNat f } []) ∧
        (k = 5 → staged { p with geometry := ⟨into 128 1024 (w 0), into 128 1280 (w 2), into 30 60 (u 4), colour 5⟩ }
          [(1, off 128 1024 (w 0)), (2, off 128 1280 (w 2)), (3, off 30 60 (u 4)), (4, pale 5)]) ∧
        (k = 6 →
          let r : Touch :=
            { scanPeriod := into 2 20 (u 0), spreadLimit := u 1, cOn := w 2, cOff := w 4
              downDebounce := into 1 8 (u 6), upDebounce := into 1 8 (u 7), shift := into 0 4 (u 8)
              moveThreshold := into 0 15 (u 9), penThreshold := u 10, guardMargin := into 0 15 (u 11) }
          staged { p with touch := r }
            [(1, off 2 20 (u 0)), (5, off 1 8 (u 6)), (6, off 1 8 (u 7)), (7, off 0 4 (u 8)), (8, off 0 15 (u 9)),
             (10, off 0 15 (u 11))]) ∧
        (k = 7 →
          let three := fun (o : Nat) => (f.getD (o + 2) 0 ++ f.getD (o + 1) 0 ++ f.getD o 0 : BitVec 24).toInt
          let four := fun (o : Nat) =>
            (f.getD (o + 3) 0 ++ f.getD (o + 2) 0 ++ f.getD (o + 1) 0 ++ f.getD o 0 : BitVec 32).toInt
          staged { p with mapping := ⟨three 0, three 3, four 6, three 10, three 13, four 16⟩ } []) ∧
        (k = 8 →
          let senses := [Sense.disabled, Sense.tripLow, Sense.tripHigh, Sense.tripChange]
          let r : Supervision :=
            { sense := ⟨senses.getD (u 0) .disabled, senses.getD (u 1) .disabled⟩, warn := into 3000 4200 (w 2)
              abort := into 2800 4000 (w 4), paySilence := into 250 10000 (w 6) }
          staged { p with supervision := r }
            [(3, off 3000 4200 (w 2)), (4, off 2800 4000 (w 4)), (5, off 250 10000 (w 6))]) ∧
        (k = 9 → staged { p with debounce := into 5 50 (u 0) } [(1, off 5 50 (u 0))]) ∧
        (k = 10 →
          let m : NoticeMode :=
            ⟨[ReportMode.edge, .repeated].getD (u 0) .edge, [ClearMode.onReport, .onClear].getD (u 1) .onClear⟩
          staged { p with notices := p.notices.set (domains.getD i.toNat .pay) m } []) ∧
        (k = 11 → staged { p with weights := p.weights.set (domains.getD i.toNat .pay) (into 1 15 (u 0)) }
          [(1, off 1 15 (u 0))]))

/-- REVERT copies the active set over the staging set and replies OK; nothing else changes, in any state of the
entry controller (R33). -/
def Obligations.RevertCopiesTheActiveSet : Prop :=
  ∀ (tag slot : Byte) (s : State), s.Accepts .pay →
    exec (.revert .pay tag slot []) s =
      .next (finish (({ s.arrived .pay with staging := s.active } : State).answered .pay
        ⟨0x11, tag, slot, []⟩ .ok []))

/-- A COMMIT is refused STALE_GENERATION, BUSY or INVALID_POLICY, in this order, and then changes nothing but the
reply queue. Validation makes the ten checks of R35 in their order, each over its records in ascending index order, and
gives the failing table kind and index of the first failure; a set that fails none is valid. -/
def Obligations.RefusedCommitChangesNothing : Prop :=
  (∀ (tag slot lo hi : Byte) (s : State), s.Accepts .pay →
    let answer := fun (st : Status) (result : List Byte) =>
      exec (.commit .pay tag slot [lo, hi]) s =
        .next (finish ((s.arrived .pay).answered .pay ⟨0x12, tag, slot, [lo, hi]⟩ st result))
    let expected := lo.toNat + 256 * hi.toNat
    (expected ≠ s.generation → answer .staleGeneration []) ∧
    (expected = s.generation → s.ctl.state ≠ .opened → s.ctl.state ≠ .locked → answer .busy []) ∧
    (∀ kind index, expected = s.generation → (s.ctl.state = .opened ∨ s.ctl.state = .locked) →
      s.staging.validate = some (kind, index) → answer .invalidPolicy [byte kind, byte index])) ∧
  ∀ p : Policy,
    let channel := fun (bad : Channel → Prop) (i : Nat) =>
      ∃ c, p.channels[i]? = some c ∧ c.state = .opened ∧ bad c
    let cell := fun (bad : Cell → Prop) (i : Nat) => ∃ c, p.cells[i]? = some (some c) ∧ bad c
    let touch := fun (c : Cell) =>
      c.role = .digit ∨ c.role = .enter ∨ c.role = .clear ∨ c.role = .back ∨ c.role = .cancel
    let places := fun (r : Role) =>
      (List.range 20).filter fun i => (p.cells[i]?.getD none).any fun c => decide (c.role = r)
    let at1 := channel fun c => c.endA = c.endB
    let at2 := channel fun c => (c.endA = .app ∨ c.endB = .app) ∧ c.mask.getD 0 = 0
    let at3 := (∃ i, cell (fun _ => True) i) ∧ ((places .digit).length ≠ 10 ∨ (places .enter).length ≠ 1)
    let excess := [Role.clear, .back, .cancel, .dots, .band].findSome? fun r => (places r)[1]?
    let at5 := cell fun c => ¬(c.x0 ≤ c.x1 ∧ c.x1 < p.geometry.w ∧ c.y0 ≤ c.y1 ∧ c.y1 < p.geometry.h)
    let at6 := fun (j : Nat) => ∃ i, i < j ∧ cell (fun a => touch a ∧ cell (fun b => touch b ∧ ∃ x y : Nat,
      (a.x0 ≤ x ∧ x ≤ a.x1 ∧ a.y0 ≤ y ∧ y ≤ a.y1) ∧ (b.x0 ≤ x ∧ x ≤ b.x1 ∧ b.y0 ≤ y ∧ y ≤ b.y1)) j) i
    let g := p.touch.guardMargin
    let at7 := cell fun c => touch c ∧ ¬(c.x0 + g + g ≤ c.x1 ∧ c.y0 + g + g ≤ c.y1)
    let at8 := p.mapping.xu * p.mapping.yv - p.mapping.xv * p.mapping.yu = 0
    let at9 := p.touch.cOff < p.touch.cOn
    let at10 := p.supervision.warn < p.supervision.abort + 100
    let first := fun (bad : Nat → Prop) (kind : Nat) =>
      ∀ i, bad i → (∀ j, j < i → ¬bad j) → p.validate = some (kind, i)
    let none' := fun (bad : Nat → Prop) => ∀ i, ¬bad i
    first at1 1 ∧
    (none' at1 → first at2 1 ∧
    (none' at2 → (at3 → p.validate = some (3, 255)) ∧
    (¬at3 → (∀ i, excess = some i → p.validate = some (3, i)) ∧
    (excess = none → first at5 3 ∧
    (none' at5 → first at6 3 ∧
    (none' at6 → first at7 3 ∧
    (none' at7 → (at8 → p.validate = some (7, 0)) ∧
    (¬at8 → (at9 → p.validate = some (6, 0)) ∧
    (¬at9 → (at10 → p.validate = some (8, 0)) ∧ (¬at10 → p.validate = none))))))))))

/-- A COMMIT that passes its checks makes the staging set the active one, raises the generation (65535 to 1), sets the
bars from the records, lowers the levels of slots whose depth changed to the new depth, leaves in the queues the entries
that still fit or are in transmission, with the space-wanted marks judged (R62), makes the new layout the gate's layout
waiting and leaves the gate otherwise as it is (R39, R138), starts
the front end at the first commit, latches the normal level of an input whose sense becomes TRIP_CHANGE, takes the
notice modes into use (R166), sets SLOT_CHANGE for APP and POLICY_CHANGE for RAD, and replies OK with the new generation
and the purged count; the staging set, the mapper, the side keys, the ADC and the pins stay. A trip condition that
begins at the commit latches its input, and outside LOCKED sets TAMPER and locks the part (R149): APP is told the
cancels and FOCUS-LOST and loses its stroke and key marks (R96), its entries on HOLD channels are held and those on APP
channels purged (R51, R58), and the lock set is pending with LOCAL timing asked for, so that on an idle output the first
local frame takes the layout and shows the lock set at once (R135). One that held before and still holds is no new trip
(log entry 15). -/
def Obligations.CommitTakesTheStagingSet : Prop :=
  ∀ (tag slot lo hi : Byte) (s : State), s.Accepts .pay → lo.toNat + 256 * hi.toNat = s.generation →
    (s.ctl.state = .opened ∨ s.ctl.state = .locked) → s.staging.validate = none →
    let g := if s.generation = 65535 then 1 else s.generation + 1
    let fits := fun (e : Entry) => match s.active.channels[e.channel]?, s.staging.channels[e.channel]? with
      | some o, some c => decide (c.state = .opened ∧ c.endA = o.endA ∧ c.endB = o.endB ∧
          (e.source = .app → (c.mask.getD 0).getLsbD (e.slot.getD 0) = true ∧
            (s.staging.slots[e.slot.getD 0]?.map Slot.barred).getD false = false))
      | _, _ => false
    let gone := fun (e : Entry) => !fits e && !e.sending
    let told := ({ s with active := s.staging } : State).departure
    ∃ (u : State) (purged : Nat), exec (.commit .pay tag slot [lo, hi]) s =
        .next (finish (u.answered .pay ⟨0x12, tag, slot, [lo, hi]⟩ .ok (twoBytes g ++ twoBytes purged))) ∧
      u.ports = (s.arrived .pay).ports ∧ u.active = s.staging ∧ u.staging = s.staging ∧ u.generation = g ∧
      (∀ i : Fin 8, u.switch.bars[i] = s.staging.slots[i].barred ∧
        u.switch.levels[i] = if s.staging.slots[i].depth = s.active.slots[i].depth then s.switch.levels[i]
          else min s.switch.levels[i] s.staging.slots[i].depth) ∧
      purged = (allDomains.map fun d => (s.queue d).all.countP gone).sum ∧
      (s.ctl.state = .locked ∨ (∀ i, (s.tamper i).inTrip = true ∨ (u.tamper i).inTrip = false) →
        u.ctl = s.ctl ∧ u.inputs = s.inputs ∧ u.gate = { s.gate with waiting := some s.staging.layout } ∧
        u.entryEnd = s.entryEnd ∧ u.progress = s.progress ∧
        u.lost = s.lost ∧ u.sup.silence = (s.arrived .pay).sup.silence ∧
        (∀ d src c, ((u.queue d).wanted.get src).get c =
          (((s.queue d).wanted.get src).get c && !s.meetsSpace gone d src c)) ∧
        (∀ src, (u.box src).flags.getLsbD 3 = ((s.box src).flags.getLsbD 3 ||
          allDomains.any fun d => s.meetsSpace gone d src .priority || s.meetsSpace gone d src .bulk)) ∧
        ∀ d c, (u.queue d).entries.get c =
          (((s.queue d).entries.get c).filter fun e => fits e || e.sending).map fun e =>
            if e.sending then e
            else { e with held := decide (s.ctl.state ≠ .opened) && onHoldChannel s.staging e }) ∧
      (s.generation = 0 → s.frontEnd.scan = .idle →
        u.frontEnd = { s.frontEnd with
          scan := .noContact, down := 0, lift := 0, reject := 0, progress := .none, panel := .detect
          timer := .running s.staging.touch.scanPeriod }) ∧
      (s.generation ≠ 0 → u.frontEnd = s.frontEnd) ∧ u.mapper = s.mapper ∧ u.keys = s.keys ∧ u.adc = s.adc ∧
      (∀ i, let sense := s.staging.supervision.sense.get i
        let normal := if sense = .tripChange ∧ s.active.supervision.sense.get i ≠ .tripChange
          then (s.tamper i).filtered else (s.tamper i).normal
        (u.tamper i).normal = normal ∧ (u.tamper i).filtered = (s.tamper i).filtered ∧
        (u.tamper i).timer = (s.tamper i).timer ∧ (u.tamper i).pin = (s.tamper i).pin ∧
        (u.tamper i).latch = ((s.tamper i).latch || ((u.tamper i).inTrip && !(s.tamper i).inTrip)) ∧
        ((u.tamper i).inTrip = true ↔ sense = .tripLow ∧ (s.tamper i).filtered = .low ∨
          sense = .tripHigh ∧ (s.tamper i).filtered = .high ∨
          sense = .tripChange ∧ (s.tamper i).filtered ≠ normal)) ∧
      (u.box .app).flags.getLsbD 9 = true ∧ (u.box .rad).flags.getLsbD 10 = true ∧
      (∀ d, let raised := match d with
          | .pay => 0x0048
          | .app => 0x0208
          | .rad => 0x0408
        (u.box d).flags ||| raised = (s.box d).flags ||| raised) ∧
      ((u.box .pay).flags.getLsbD 6 = true ↔ (s.box .pay).flags.getLsbD 6 = true ∨
        s.ctl.state = .opened ∧ ∃ i, (u.tamper i).inTrip = true ∧ (s.tamper i).inTrip = false) ∧
      (∀ d, let m := s.staging.notices.get d
        let b := s.box d
        let v := u.box d
        v.place = (if b.place = .empty ∧ (v.flags ≠ b.flags ∨ m.clear = .onReport ∧ b.flags ≠ 0) then .waiting
          else b.place) ∧
        v.followUp = (b.followUp || decide (v.flags ≠ b.flags ∧ b.place ≠ .empty ∧ b.place ≠ .waiting)) ∧
        v.repeatTimer = if m.report = .repeated ∧ m.clear = .onClear ∧ v.flags ≠ 0 then
            (if b.repeatTimer = .stopped ∨ b.flags = 0 then .running 500 else b.repeatTimer)
          else .stopped) ∧
      (s.ctl.state = .opened → (∃ i, (u.tamper i).inTrip = true ∧ (s.tamper i).inTrip = false) →
        u.ctl = { s.ctl with
          state := .locked, lockShown := decide (u.gate.active = u.gate.pending), buffer := [], points := []
          candidate := .none, record := none, firstKey := .stopped, interKey := .stopped, total := .stopped
          appStroke := none, keyMarks := ⟨false, false, false, false⟩ } ∧
        u.inputs = told.foldl (joinInput s.inputSending) s.inputs ∧
        u.lost = (s.lost || decide (32 < s.inputs.length + told.length)) ∧
        (let lock : OverlaySet := ⟨.lock, [], 0, s.staging.geometry.backdrop⟩
          let idle := s.gate.Idle
          u.gate = { s.gate with
            pending := lock, stopped := s.gate.stopped && !decide (s.gate.timing = .follow)
            timing := if s.gate.timing = .toLocal ∨ s.gate.timing = .follow ∧ s.gate.stopped = false then .toLocal
              else .localTiming
            active := if idle then lock else s.gate.active
            layout := if idle then s.staging.layout else s.gate.layout
            waiting := if idle then none else some s.staging.layout }) ∧
        u.sup.silence = .stopped ∧ u.entryEnd = s.entryEnd ∧ u.progress = s.progress ∧
        ∀ d c, (u.queue d).entries.get c =
          (((s.queue d).entries.get c).filter fun e => e.sending || fits e && !onAppChannel s.staging e).map fun e =>
            if e.sending then e else { e with held := onHoldChannel s.staging e }) ∧
      (∀ d, (u.queue d).run = (s.queue d).run) ∧ u.switch.refillTimer = s.switch.refillTimer ∧
      u.sup.measurement = s.sup.measurement ∧ u.sup.level = s.sup.level ∧
      u.sup.requestTimer = s.sup.requestTimer ∧ u.arbiterCount = s.arbiterCount ∧ u.pending = s.pending

/-- The fields of an ENTRY-BEGIN body as R102 reads them: a timeout of 0 takes its default, others are clamped;
CALIBRATE ignores presentation, digit map, max length and auto-enter. -/
def Obligations.SessionFieldsAreClamped : Prop :=
  ∀ body : List Byte, body.length = 19 →
    let at' := fun i => (body.getD i 0).toNat
    let time := fun (default lo hi v : Nat) => if v = 0 then default else if v < lo then lo else min hi v
    let limit := fun (lo hi v : Nat) => if v < lo then lo else min hi v
    (at' 0 = 0 → at' 1 ≤ 1 → at' 14 ≤ 1 → ∃ r, sessionOf body = some r ∧ r.mode = .pin ∧
      (r.presentation = .overlay ↔ at' 1 = 0) ∧ r.digitMap = (List.range 10).map (fun k => at' (2 + k)) ∧
      r.least = limit 4 12 (at' 12) ∧ r.maxLength = limit 4 12 (at' 13) ∧ (r.autoEnter = true ↔ at' 14 = 1) ∧
      r.firstKey = time 30 5 120 (at' 15) ∧ r.interKey = time 15 2 60 (at' 16) ∧
      r.total = time 90 10 300 (at' 17 + 256 * at' 18)) ∧
    (at' 0 = 1 → ∃ r, sessionOf body = some r ∧ r.mode = .calibrate ∧ r.presentation = .full ∧
      r.least = limit 3 8 (at' 12) ∧
      r.firstKey = time 30 5 120 (at' 15) ∧ r.interKey = time 15 2 60 (at' 16) ∧
      r.total = time 90 10 300 (at' 17 + 256 * at' 18)) ∧
    ((2 ≤ at' 0 ∨ at' 0 = 0 ∧ (2 ≤ at' 1 ∨ 2 ≤ at' 14)) → sessionOf body = none)

/-- The owners' refusals, in their order, for ENTRY-BEGIN (the eight checks of R103, the last three for a PIN session
alone), ENTRY-ABORT (R120) and UNLOCK (R128): the REPLY carries the status alone and nothing else changes. -/
def Obligations.ControllerRefusalsChangeNothing : Prop :=
  ∀ (tag slot : Byte) (body : List Byte) (s : State), s.Accepts .pay → body.length = 19 →
    let begins := fun (st : Status) => exec (.entryBegin .pay tag slot body) s =
      .next (finish ((s.arrived .pay).answered .pay ⟨0x13, tag, slot, body⟩ st []))
    let unlocks := fun (st : Status) => exec (.unlock .pay tag slot []) s =
      .next (finish ((s.arrived .pay).answered .pay ⟨0x16, tag, slot, []⟩ st []))
    (s.generation = 0 → begins .noPolicy) ∧
    (s.generation ≠ 0 → s.ctl.state = .locked → begins .locked) ∧
    (s.generation ≠ 0 → s.ctl.state ≠ .locked → s.ctl.state ≠ .opened → begins .busy) ∧
    (s.generation ≠ 0 → s.ctl.state = .opened → s.entryEnd ≠ none → begins .busy) ∧
    (s.generation ≠ 0 → s.ctl.state = .opened → s.entryEnd = none → s.sup.level = .belowAbort →
      begins .supplyLow) ∧
    (s.generation ≠ 0 → s.ctl.state = .opened → s.entryEnd = none → s.sup.level ≠ .belowAbort →
      sessionOf body = none → begins .badParameter) ∧
    (∀ r, s.generation ≠ 0 → s.ctl.state = .opened → s.entryEnd = none → s.sup.level ≠ .belowAbort →
      sessionOf body = some r → r.mode = .pin →
      let empty := ∀ i : Fin 20, s.active.cells[i] = none
      let digits := (List.range 10).map fun j => (body.getD (2 + j) 0).toNat
      let permutation := digits.Perm (List.range 10)
      (empty → begins .noLayout) ∧ (¬empty → ¬permutation → begins .badParameter) ∧
      (¬empty → permutation → r.maxLength < r.least → begins .badParameter)) ∧
    (¬s.inSession → exec (.entryAbort .pay tag slot []) s =
      .next (finish ((s.arrived .pay).answered .pay ⟨0x14, tag, slot, []⟩ .notActive []))) ∧
    (s.ctl.state ≠ .locked → unlocks .notActive) ∧
    (s.ctl.state = .locked → (s.sup.tamper.a.inTrip = true ∨ s.sup.tamper.b.inTrip = true) →
      unlocks .tamperActive) ∧
    (s.ctl.state = .locked → s.sup.tamper.a.inTrip = false → s.sup.tamper.b.inTrip = false →
      s.ctl.lockShown = false → unlocks .busy)

/-- An ENTRY-BEGIN that passes every check of R103 is accepted: the session number rises (0 or 255 to 1), the REPLY
carries it, APP is told the cancels and FOCUS-LOST and loses its stroke and key marks, and entries on HOLD channels
are held. With a finger on the glass the controller waits in ARMING. With the glass free it goes on to PRESENTING
with the secure set written: an OVERLAY session in every timing state with the gate otherwise as it is, but that during
a loss episode it ends at once with VIDEO_LOST and the clear set, in OPEN, and APP is told FOCUS-RETURNED. A FULL
session's request for LOCAL timing acts by the timing state (R135): on a running output the switch waits, in TO_FOLLOW
the gate returns to LOCAL, and on an idle output, in REJOIN or with FOLLOW stopped, the first local frame starts at once
and the keypad is presented. -/
def Obligations.EntryBeginIsAccepted : Prop :=
  ∀ (tag slot : Byte) (body : List Byte) (r : Session) (s : State), s.Accepts .pay → body.length = 19 →
    s.generation ≠ 0 → s.ctl.state = .opened → s.entryEnd = none → s.sup.level ≠ .belowAbort →
    sessionOf body = some r →
    (r.mode = .pin → s.active.presentCells ≠ [] ∧ r.digitMap.length = 10 ∧ r.digitMap.Nodup ∧
      (∀ x ∈ r.digitMap, x ≤ 9) ∧ r.least ≤ r.maxLength) →
    let n := if s.ctl.session = 255 then 1 else s.ctl.session + 1
    let told := s.departure
    let ctl := { s.ctl with
      session := n, record := some r, buffer := [], points := [], candidate := .none, appStroke := none
      keyMarks := ⟨false, false, false, false⟩, total := .running (1000 * r.total) }
    let free := s.frontEnd.scan = .noContact ∨ s.frontEnd.scan = .idle
    ∃ u : State, exec (.entryBegin .pay tag slot body) s =
        .next (finish (u.answered .pay ⟨0x13, tag, slot, body⟩ .ok [byte n])) ∧
      u.besideSession = (s.arrived .pay).besideSession ∧ u.ctl.session = n ∧ u.notices = s.notices ∧
      (∀ d, (u.queue d).run = (s.queue d).run ∧ (u.queue d).wanted = (s.queue d).wanted) ∧
      (¬free ∨ s.gate.episode = false ∨ r.presentation = .full →
        u.inputs = told.foldl (joinInput s.inputSending) s.inputs ∧
        u.lost = (s.lost || decide (32 < s.inputs.length + told.length)) ∧ u.entryEnd = none ∧
        u.sup.silence = .running s.active.supervision.paySilence ∧
        ∀ d c, (u.queue d).entries.get c = ((s.queue d).entries.get c).map fun e =>
          if e.sending = false ∧ onHoldChannel s.active e = true then { e with held := true } else e) ∧
      (¬free → u.ctl = { ctl with state := .arming } ∧ u.gate = s.gate ∧ u.progress = s.progress) ∧
      (free → r.presentation = .overlay → s.gate.episode = false →
        u.ctl = { ctl with state := .presenting } ∧ u.progress = s.progress ∧
        u.gate = { s.gate with pending := secureSet s.active r }) ∧
      (free → s.gate.episode = false ∨ r.presentation = .full →
        u.gate.pending = secureSet s.active r ∧ u.gate.pending.dots = 0 ∧
        u.gate.pending.backdrop = s.active.geometry.backdrop ∧
        (u.gate.pending.presentation = .full ↔ r.presentation = .full) ∧
        (u.gate.pending.presentation = .overlay ↔ r.presentation = .overlay) ∧
        (r.mode = .pin → s.active.countRole .digit = 10 →
          (u.gate.pending.cells.map fun c => { c with glyph := none }) =
            (s.active.presentCells.map fun c => { c with glyph := none }) ∧
          (u.gate.pending.cells.filter fun c => decide (c.role ≠ .digit)) =
            (s.active.presentCells.filter fun c => decide (c.role ≠ .digit)) ∧
          ((u.gate.pending.cells.filter fun c => decide (c.role = .digit)).map Cell.glyph) =
            List.zipWith (fun c x => some (c.glyph.getD 0 + x))
              (s.active.presentCells.filter fun c => decide (c.role = .digit)) r.digitMap) ∧
        (r.mode = .calibrate →
          u.gate.pending.cells = s.active.presentCells.filter fun c => decide (c.role = .label))) ∧
      (free → s.gate.episode = true → r.presentation = .overlay →
        u.ctl = { ctl with
          state := .opened, record := none, total := .stopped, firstKey := .stopped, interKey := .stopped } ∧
        u.entryEnd = some ⟨n, .videoLost, .pin, 0, .absent⟩ ∧ u.sup.silence = .stopped ∧ u.progress = s.progress ∧
        u.gate = { s.gate with
          pending := OverlaySet.clear
          active := if s.gate.timing = .follow ∧ s.gate.stopped = true then OverlaySet.clear else s.gate.active } ∧
        u.inputs = (told ++ [focusReturned]).foldl (joinInput s.inputSending) s.inputs ∧
        u.lost = (s.lost || decide (32 < s.inputs.length + told.length + 1)) ∧
        ∀ d, (u.queue d).entries = (s.queue d).unheld.entries) ∧
      (free → r.presentation = .full →
        let idle := s.gate.Idle
        u.gate.timing = (if s.gate.timing = .toLocal ∨ s.gate.timing = .follow ∧ s.gate.stopped = false
          then .toLocal else .localTiming) ∧
        u.gate.watch = s.gate.watch ∧ u.gate.inFrame = s.gate.inFrame ∧
        u.gate.malformed = s.gate.malformed ∧ u.gate.episode = s.gate.episode ∧
        u.gate.stopped = (s.gate.stopped && !decide (s.gate.timing = .follow)) ∧
        (¬idle → u.gate.active = s.gate.active ∧ u.gate.layout = s.gate.layout ∧ u.gate.waiting = s.gate.waiting ∧
          u.ctl = { ctl with state := .presenting } ∧ u.progress = s.progress) ∧
        (idle → s.gate.active.isSecure = false → u.gate.active = u.gate.pending ∧
          u.gate.layout = s.gate.waiting.getD s.gate.layout ∧ u.gate.waiting = none ∧
          u.ctl = { ctl with state := .secure, firstKey := .running (1000 * r.firstKey) } ∧
          u.progress = joinProgress s.progress ⟨n, .presented, 0⟩))

/-- SLOT-BAR: a slot of 8 or more or an action of 2 or more is refused BAD_PARAMETER; an unbar clears the live bar and
purges nothing; a bar sets it and leaves no entry of the slot in any queue but one in transmission. SLOT_CHANGE is set
for APP, the reply carries the purged count, and nothing else changes but that a domain whose space-wanted mark the
purge meets gets QUEUE_SPACE, and the mark clears (R62). -/
def Obligations.SlotBarBarsAndPurges : Prop :=
  ∀ (tag sl slot action : Byte) (s : State), s.Accepts .pay →
    let f : Frame := ⟨0x15, tag, sl, [slot, action]⟩
    let gone := fun (e : Entry) => decide (e.source = .app ∧ e.slot = some slot.toNat ∧ e.sending = false)
    ((8 ≤ slot.toNat ∨ 2 ≤ action.toNat) → exec (.slotBar .pay tag sl [slot, action]) s =
      .next (finish ((s.arrived .pay).answered .pay f .badParameter []))) ∧
    (slot.toNat < 8 → action.toNat = 0 → exec (.slotBar .pay tag sl [slot, action]) s =
      .next (finish ((setFlag .app .slotChange
        ({ s.arrived .pay with switch :=
          { s.switch with bars := s.switch.bars.setIfInBounds slot.toNat false } } : State)).answered
            .pay f .ok [0, 0]))) ∧
    (slot.toNat < 8 → action.toNat = 1 → ∃ (u : State) (n : Nat), exec (.slotBar .pay tag sl [slot, action]) s =
        .next (finish (u.answered .pay f .ok (twoBytes n))) ∧
      n = (allDomains.map fun d => (s.queue d).all.countP gone).sum ∧
      u.switch.bars = s.switch.bars.setIfInBounds slot.toNat true ∧ u.switch.levels = s.switch.levels ∧
      u.switch.refillTimer = s.switch.refillTimer ∧
      (∀ d, (u.queue d).run = (s.queue d).run ∧
        ∀ c, (u.queue d).entries.get c = ((s.queue d).entries.get c).filter fun e => !gone e) ∧
      (∀ d src c, ((u.queue d).wanted.get src).get c =
        (((s.queue d).wanted.get src).get c && !s.meetsSpace gone d src c)) ∧
      (∀ src,
        let b := s.spaceJudged gone src (s.box src)
        u.box src = if src = .app then b.setFlag (s.active.notices.get src) .slotChange else b) ∧
      (u.box .app).flags.getLsbD 9 = true ∧
      (∀ d, let raised := if d = .app then 0x0208 else 0x0008
        (u.box d).flags ||| raised = (s.box d).flags ||| raised) ∧
      ({ u with switch := s.switch, notices := s.notices } : State) = s.arrived .pay)

/-- An UNLOCK that passes its checks clears both trip latches and the lock shown mark, writes the clear set, asks the
gate for FOLLOW timing (R136), and leaves LOCKED for OPEN when the glass is free and for RELEASING otherwise; in OPEN no
entry is held and APP is told FOCUS-RETURNED, which sets the lost mark when the queue is full. Nothing else changes, but
that with the output stopped the clear set is active at once (R141) and that the PAY silence timer starts again with the
frame (R4) and stops in OPEN. -/
def Obligations.UnlockReleasesThePart : Prop :=
  ∀ (tag slot : Byte) (s : State), s.Accepts .pay → s.ctl.state = .locked →
    s.sup.tamper.a.inTrip = false → s.sup.tamper.b.inTrip = false → s.ctl.lockShown = true →
    let free := s.frontEnd.scan = .noContact ∨ s.frontEnd.scan = .idle
    ∃ u : State, exec (.unlock .pay tag slot []) s =
        .next (finish (u.answered .pay ⟨0x16, tag, slot, []⟩ .ok [])) ∧
      u.sup = { (s.arrived .pay).sup with
        tamper := ⟨{ s.sup.tamper.a with latch := false }, { s.sup.tamper.b with latch := false }⟩
        silence := if free then .stopped else (s.arrived .pay).sup.silence } ∧
      u.gate.pending = OverlaySet.clear ∧
      u.ctl = { s.ctl with state := if free then .opened else .releasing, lockShown := false } ∧
      (free → u.inputs = joinInput s.inputSending s.inputs ⟨.focusReturned, 0, 0, 0, none, false, false, false⟩ ∧
        ∀ d c, (u.queue d).entries.get c = ((s.queue d).entries.get c).map fun e => { e with held := false }) ∧
      (¬free → u.inputs = s.inputs ∧ u.lost = s.lost ∧ u.switch = s.switch) ∧
      (free → u.lost = (s.lost || decide (32 ≤ s.inputs.length))) ∧
      u.gate = { s.gate with
        pending := OverlaySet.clear
        active := if s.gate.timing = .follow ∧ s.gate.stopped = true then OverlaySet.clear else s.gate.active
        timing := if s.gate.timing = .toLocal then .follow
          else if s.gate.timing = .localTiming then .toFollow else s.gate.timing } ∧
      u.entryEnd = s.entryEnd ∧ u.progress = s.progress ∧ u.notices = s.notices ∧
      (∀ d, (u.queue d).run = (s.queue d).run ∧ (u.queue d).wanted = (s.queue d).wanted) ∧
      ({ u with sup := (s.arrived .pay).sup } : State).besideSession = (s.arrived .pay).besideSession

/-! ## Transmitters (chapters 1, 3, 9) -/

/-- The ready inputs and the stall timers: asserting ends a stall episode, deasserting changes the level, and a stall
timer that runs out begins an episode and sets STALL for PAY; nothing else changes. -/
def Obligations.ReadyInputsAndStall : Prop :=
  ∀ (d : Domain) (s : State), s.Live →
    exec (.readyAsserted d) s = .next (finish (s.setPort d { s.port d with ready := .high, stalled := false })) ∧
    exec (.readyDeasserted d) s = .next (finish (s.setPort d { s.port d with ready := .low })) ∧
    ((s.port d).stallTimer.isRunning = true →
      exec (.stallTimerExpiry d) s =
        .next (finish (setFlag .pay .stall (s.setPort d { s.port d with stalled := true, stallTimer := .stopped }))))

/-- The end of every command, `finish` (log entry 6): a free transmitter whose ready input is asserted begins the first
frame in the order of R14: the oldest REPLY; on PAY the ENTRY-END, then the oldest ENTRY-PROGRESS, on APP the oldest
INPUT, which takes the lost mark; the NOTICE, whose place becomes SENDING with the flags as they stand; a DELIVERY that
the switch offers. Each frame has the header of R10 and R11 and the body that chapter 1 lays out. A busy transmitter
goes on, and with the ready input deasserted none begins. Only an INPUT touches the lost mark, a NOTICE its place, a
DELIVERY its entry's in-transmission mark and the run count; nothing else changes but the stall timers. -/
def Obligations.TransmittersChooseInOrder : Prop :=
  ∀ (d : Domain) (s : State),
    let t := finish s
    let pair := fun (n : Nat) => [byte n, byte (n / 256)]
    let status := fun (st : Status) => byte ([Status.ok, .badKind, .badLength, .notPermitted, .noPolicy, .noChannel,
      .notEndpoint, .direction, .slotDenied, .slotBarred, .tooLong, .quota, .queueFull, .held, .locked, .busy,
      .staleGeneration, .invalidPolicy, .badParameter, .supplyLow, .tamperActive, .notActive, .noLayout].idxOf st)
    let domain := fun (x : Domain) => byte ([Domain.pay, .app, .rad].idxOf x)
    let mode := fun (m : Mode) => byte ([Mode.pin, .calibrate].idxOf m)
    let outcome := fun (o : SessionOutcome) => byte (1 + [SessionOutcome.complete, .cancelled, .aborted, .timeoutFirst,
      .timeoutInter, .timeoutTotal, .videoLost, .supplyLow, .paySilent, .linkReset, .tamper].idxOf o)
    let progress := fun (e : ProgressEvent) =>
      byte (1 + [ProgressEvent.presented, .accepted, .void, .full, .empty, .short].idxOf e)
    let input := fun (k : InputKind) =>
      byte (1 + [InputKind.down, .move, .up, .press, .release, .focusLost, .focusReturned].idxOf k)
    let key := fun (k : Option Key) => byte ([none, some Key.cancel, some .clear, some .enter, some .fn].idxOf k)
    let bit := fun (b : Bool) (weight : Nat) => if b then weight else 0
    let data := fun (x : EndData) => match x with
      | .absent => []
      | .digits ds => ds.map byte
      | .points ps => ps.flatMap fun p => pair p.1 ++ pair p.2
    t.besideTransmit = s.besideTransmit ∧
    (((s.port d).tx ≠ none ∨ (s.port d).ready = .low) → (t.port d).tx = (s.port d).tx ∧
      (t.box d).place = (s.box d).place ∧ t.queue d = s.queue d ∧ (d = .app → t.lost = s.lost)) ∧
    ((s.port d).tx = none → (s.port d).ready = .high →
      (∀ r rs, (s.port d).replies = r :: rs →
        (t.port d).tx = some ⟨.reply, ⟨0x80, r.tag, r.slot, status r.status :: r.echoed :: r.result⟩⟩) ∧
      ((s.port d).replies = [] → d = .pay → ∀ e, s.entryEnd = some e →
        (t.port d).tx = some ⟨.entryEnd,
          ⟨0x85, 0, 0, [byte e.session, outcome e.outcome, mode e.mode, byte e.count] ++ data e.data⟩⟩) ∧
      ((s.port d).replies = [] → d = .pay → s.entryEnd = none → ∀ p ps, s.progress = p :: ps →
        (t.port d).tx = some ⟨.progress, ⟨0x84, 0, 0, [byte p.session, progress p.event, byte p.count]⟩⟩) ∧
      ((s.port d).replies = [] → d = .app → ∀ e es, s.inputs = e :: es →
        (t.port d).tx = some ⟨.input,
          ⟨0x82, 0, 0, [input e.kind, byte e.stroke] ++ pair e.x ++ pair e.y ++
            [key e.key, byte (bit e.edge 1 + bit e.cancelled 2 + bit e.unstable 4 + bit s.lost 8)]⟩⟩ ∧
        t.lost = false) ∧
      ((s.port d).replies = [] → (d = .pay → s.entryEnd = none ∧ s.progress = []) →
        (d = .app → s.inputs = []) →
        ((s.box d).place = .waiting →
          (t.port d).tx = some ⟨.notice, ⟨0x83, 0, 0, pair (s.box d).flags.toNat⟩⟩ ∧
          (t.box d).place = .sending (s.box d).flags ∧ t.queue d = s.queue d) ∧
        ((s.box d).place ≠ .waiting → ∀ c n older e younger,
          (s.queue d).choose (s.active.weights.get d) = some (c, n) →
          (s.queue d).entries.get c = older ++ e :: younger → e.held = false → e.sending = false →
          (∀ o ∈ older, o.held = true ∨ o.sending = true) →
          (t.port d).tx = some ⟨.delivery, ⟨0x81, 0, 0,
            [byte e.channel, domain e.source, byte (if e.source = .app then e.slot.getD 0 else 0)] ++
              pair e.payload.length ++ e.payload⟩⟩ ∧ (t.queue d).run = n ∧
          (t.queue d).entries.get c = older ++ { e with sending := true } :: younger ∧
          (∀ k, k ≠ c → (t.queue d).entries.get k = (s.queue d).entries.get k) ∧
          (t.box d).place = (s.box d).place) ∧
        ((s.box d).place ≠ .waiting → (∀ e ∈ (s.queue d).all, e.held = true ∨ e.sending = true) →
          (t.port d).tx = none)) ∧
      ((s.port d).replies ≠ [] ∨ (d = .pay ∧ (s.entryEnd ≠ none ∨ s.progress ≠ [])) ∨ (d = .app ∧ s.inputs ≠ []) ∨
          (s.box d).place ≠ .waiting ∧ (∀ e ∈ (s.queue d).all, e.held = true ∨ e.sending = true) →
        (t.box d).place = (s.box d).place ∧ t.queue d = s.queue d) ∧
      (d = .app → (s.port d).replies ≠ [] ∨ s.inputs = [] → t.lost = s.lost))

/-- The weighted choice of R54: with P and B the oldest entries of each class that may be offered, nothing is offered
when there is neither, P or B alone when there is one, and with both, P while the run count is below the weight and B
at the weight or above; the run count rises at P past B and returns to 0 otherwise. -/
def Obligations.WeightedChoiceFollowsTheTable : Prop :=
  ∀ (q : DeliveryQueue) (w : Nat),
    let p := q.entries.priority.any fun e => !e.held && !e.sending
    let b := q.entries.bulk.any fun e => !e.held && !e.sending
    q.choose w =
      (if p && b then (if q.run < w then some (.priority, q.run + 1) else some (.bulk, 0))
       else if p then some (.priority, 0) else if b then some (.bulk, 0) else none)

/-- A completed REPLY leaves the reply queue and frees the transmitter; the OK reply to a RESTART brings the full
reset (R15, R17). A completed ENTRY-END, ENTRY-PROGRESS or INPUT leaves its place. Nothing else changes. -/
def Obligations.CompletedFramesLeaveTheirPlaces : Prop :=
  ∀ s : State, s.Live →
    (∀ d r rs, s.isSending d .reply = true → (s.port d).replies = r :: rs →
      (r.status ≠ .ok ∨ r.echoed ≠ 0x17 →
        exec (.replyComplete d) s = .next (finish (s.setPort d { s.port d with tx := none, replies := rs }))) ∧
      (r.status = .ok → r.echoed = 0x17 → exec (.replyComplete d) s = exec .fullReset s)) ∧
    (s.isSending .pay .entryEnd = true → exec .entryEndComplete s =
      .next (finish ({ s.setPort .pay { s.port .pay with tx := none } with entryEnd := none } : State))) ∧
    (s.isSending .pay .progress = true → exec .entryProgressComplete s =
      .next (finish ({ s.setPort .pay { s.port .pay with tx := none } with progress := s.progress.tail } : State))) ∧
    (s.isSending .app .input = true → exec .inputComplete s =
      .next (finish ({ s.setPort .app { s.port .app with tx := none } with inputs := s.inputs.tail } : State)))

/-- A completed NOTICE (R162): under ON_REPORT the carried flags clear; the place becomes EMPTY, or WAITING when the
follow-up mark was set and a flag is left; the mark clears; the repeat timer restarts from 500 ms while its three
conditions hold and stops otherwise. Nothing else changes. That a carried flag clears also when CLEAR cleared it during
the transmission and it then rose again is the model's choice (log entry 12). -/
def Obligations.NoticeCompletes : Prop :=
  ∀ (d : Domain) (carried : Word16) (s : State), s.Live → s.isSending d .notice = true →
    (s.box d).place = .sending carried →
    let m := s.active.notices.get d
    let flags := if m.clear = .onReport then (s.box d).flags &&& ~~~carried else (s.box d).flags
    exec (.noticeComplete d) s =
      .next (finish ((s.setPort d { s.port d with tx := none }).setBox d
        { flags := flags
          place := if (s.box d).followUp = true ∧ flags ≠ 0 then .waiting else .empty
          followUp := false
          repeatTimer :=
            if m.report = .repeated ∧ m.clear = .onClear ∧ flags ≠ 0 then .running 500 else .stopped }))

/-- A completed DELIVERY (R55, R62): its entry leaves the queue and the others keep their order; then, for each class
that has room again, every domain with a space-wanted mark gets QUEUE_SPACE and the mark clears. Nothing else
changes. -/
def Obligations.DeliveryCompletes : Prop :=
  ∀ (d : Domain) (s : State), s.Live → s.isSending d .delivery = true →
    let left := fun c => ((s.queue d).entries.get c).filter fun e => !e.sending
    let room := fun c => decide ((left c).length ≤ (if c = .priority then 12 else 9) ∧
      payloadBytes (left c) ≤ if c = .priority then 3072 else 2304)
    ∃ (q : DeliveryQueue) (boxes : PerDomain NoticeBox), exec (.deliveryComplete d) s =
        .next (finish ({ (s.setPort d { s.port d with tx := none }).setQueue d q with notices := boxes } : State)) ∧
      q.entries = ⟨left .priority, left .bulk⟩ ∧ q.run = (s.queue d).run ∧
      (∀ src c, (q.wanted.get src).get c = (((s.queue d).wanted.get src).get c && !room c)) ∧
      ∀ src,
        let met := (room .priority && ((s.queue d).wanted.get src).priority) ||
          (room .bulk && ((s.queue d).wanted.get src).bulk)
        (boxes.get src).flags = (if met then (s.box src).flags ||| 0x0008 else (s.box src).flags) ∧
        boxes.get src = if met then (s.box src).setFlag (s.active.notices.get src) .queueSpace else s.box src

/-! ## Timers, touch, keys and supply (chapters 3, 4, 5, 8) -/

/-- At a refill expiry every bucket level rises by its slot's refill rate and stops at its depth (R47). At a supply
request expiry the conversion is granted when the ADC is free and waits otherwise (R151). Nothing else changes. -/
def Obligations.RefillAndSupplyRequest : Prop :=
  ∀ s : State, s.Live →
    (s.switch.refillTimer.isRunning = true → ∃ levels : Vector Nat 8,
      exec .refillTimerExpiry s =
        .next (finish ({ s with switch := { s.switch with levels := levels } } : State)) ∧
      ∀ i : Fin 8, levels[i] = min s.active.slots[i].depth (s.switch.levels[i] + s.active.slots[i].refill)) ∧
    (s.sup.requestTimer.isRunning = true →
      exec .supplyRequestTimerExpiry s =
        .next (finish ({ s with adc :=
          if s.adc.use = .free then ⟨.supply, false⟩ else ⟨s.adc.use, true⟩ } : State)))

/-- A scan begins at an expiry of the scan timer when the last has ended (R65, R66): with a pen it asks for the ADC, and
the burst runs when the ADC is free and waits otherwise; with no pen it is a no-contact scan at once. That scan returns
the reject count to 0 and, in NO_CONTACT, changes no more; in PENDING it is a DROP; in CONTACT it begins the lift, in
LIFTING it raises the lift count, and the one that completes the lift is an UP (R73, R74), which acts by the state of
the controller (`State.UpActs`: R92, R93, R108, R124); the entry into NO_CONTACT frees a controller in RELEASING and in
ARMING (`State.GlassFreed`: R105, R118). A scan that begins also writes the burst settings, one without a pen too (log
entry 23). An expiry during a burst begins no scan. That a count stands at 0 once discarded or completed is the model's
choice (log entry 25). -/
def Obligations.ScanBeginsWithPenDetection : Prop :=
  ∀ (plate : Word16) (s : State), s.Live → s.frontEnd.timer.isRunning = true →
    let f := { s.frontEnd with timer := .running s.active.touch.scanPeriod }
    let g := { f with settings := s.active.touch }
    let pen := plate.toNat < s.active.touch.penThreshold * 256
    (s.frontEnd.progress ≠ .none →
      exec (.scanTimerExpiry plate) s = .next (finish ({ s with frontEnd := f } : State))) ∧
    (s.frontEnd.progress = .none → ¬pen → s.frontEnd.scan = .noContact →
      exec (.scanTimerExpiry plate) s = .next (finish ({ s with frontEnd := { g with reject := 0 } } : State))) ∧
    (s.frontEnd.progress = .none → pen → s.adc.use = .free →
      exec (.scanTimerExpiry plate) s =
        .next (finish ({ s with frontEnd := { g with progress := .burstRunning, panel := .x }
                                adc := { s.adc with use := .burst } } : State))) ∧
    (s.frontEnd.progress = .none → pen → s.adc.use ≠ .free →
      exec (.scanTimerExpiry plate) s =
        .next (finish ({ s with frontEnd := { g with progress := .burstWaiting } } : State))) ∧
    (s.frontEnd.progress = .none → ¬pen →
      let scan := s.frontEnd.scan
      let ends := fun (u : State) => exec (.scanTimerExpiry plate) s = .next (finish u)
      let base := fun (h : FrontEnd) => ({ s with frontEnd := { h with reject := 0 } } : State)
      let dropped : State := { base { g with scan := .noContact, down := 0 } with
        mapper := { s.mapper with tracking := false } }
      (scan = .contact → 2 ≤ s.active.touch.upDebounce → ends (base { g with scan := .lifting, lift := 1 })) ∧
      (scan = .lifting → s.frontEnd.lift + 1 < s.active.touch.upDebounce →
        ends (base { g with lift := s.frontEnd.lift + 1 })) ∧
      (scan = .pending → dropped.GlassFreed ends) ∧
      ((scan = .contact ∧ s.active.touch.upDebounce ≤ 1 ∨
          scan = .lifting ∧ s.active.touch.upDebounce ≤ s.frontEnd.lift + 1) →
        let n := s.mapper.stroke
        let up : State :=
          { base { g with scan := .noContact, lift := if scan = .lifting then 0 else s.frontEnd.lift } with
            mapper := { s.mapper with strokeOpen := false, tracking := false }
            ctl := { s.ctl with
              appStroke := if s.ctl.appStroke = some n then none else s.ctl.appStroke
              sessionStroke := if s.ctl.sessionStroke = some n then none else s.ctl.sessionStroke } }
        s.UpActs up false ends))

/-- A burst's kind (R69–R72): rejected exactly when a quantity's middle three codes spread over more than the limit;
otherwise a contact scan with the X and Y medians exactly when C of R71 is at or below C_ON in NO_CONTACT and PENDING,
C_OFF in CONTACT and LIFTING. The median and the spread are those of the sorted codes. -/
def Obligations.BurstIsJudgedByRankAndContactFigure : Prop :=
  (∀ c : Codes, ∃ s0 s1 s2 s3 s4 : Nat,
    [s0, s1, s2, s3, s4].Perm [c.c0.toNat, c.c1.toNat, c.c2.toNat, c.c3.toNat, c.c4.toNat] ∧
    s0 ≤ s1 ∧ s1 ≤ s2 ∧ s2 ≤ s3 ∧ s3 ≤ s4 ∧ medianOf c = s2 ∧ spreadOf c = s3 - s1) ∧
  ∀ (b : Burst) (t : Touch) (st : ScanState), st ≠ .idle →
    let x := medianOf b.x
    let z1 := medianOf b.z1
    let z2 := medianOf b.z2
    let figure := if z1 = 0 then 65535 else min 65535 (x * (if z1 ≤ z2 then z2 - z1 else 0) / (16 * z1))
    let limit := if st = .noContact ∨ st = .pending then t.cOn else t.cOff
    let wide := t.spreadLimit < spreadOf b.x ∨ t.spreadLimit < spreadOf b.y ∨ t.spreadLimit < spreadOf b.z1 ∨
      t.spreadLimit < spreadOf b.z2
    (burstKind b t st = .rejected ↔ wide) ∧
    (burstKind b t st = .contact x (medianOf b.y) ↔ ¬wide ∧ figure ≤ limit) ∧
    (burstKind b t st = .noContact ↔ ¬wide ∧ limit < figure)

/-- The end of a burst: the ADC goes to a supply request that waits and is free otherwise (R68), the panel returns to
the detect arrangement, and the scan acts by the tables of R73 to R75. A rejected scan raises the reject count, and the
sixteenth settles the stroke; any other scan returns the count to 0. A contact scan in NO_CONTACT starts the smoothed
position at the medians; one that completes the debounce is the DOWN of the next stroke number at the mapped position,
and a later one smooths the position, a MOVE when it went as far as the threshold. A no-contact scan drops a PENDING,
begins or counts a lift, and ends the stroke with its UP (UNSTABLE at the sixteenth rejected scan; `State.UpActs`). In
OPEN these events go to APP; in SECURE a DOWN makes its stroke the session stroke and, in a PIN session, takes its
candidate by the inner rectangles (R107, R108), and leaving the cell voids it; the events of a stroke without its mark,
and those in other states, change nothing more (R92, R93). The entry into NO_CONTACT ends ARMING and RELEASING
(`State.GlassFreed`). Beside a press and the end of a CALIBRATE session, nothing else changes. That a count stands at 0
once discarded or completed is the model's choice (log entry 25). -/
def Obligations.BurstEndDrivesTheStroke : Prop :=
  ∀ (codes : Burst) (s : State), s.Live → s.adc.use = .burst →
    s.frontEnd.progress = .burstRunning →
    let t := s.frontEnd.settings
    let scan := s.frontEnd.scan
    let kind := burstKind codes t scan
    let f := { s.frontEnd with progress := .none, panel := .detect, reject := 0 }
    let base := fun (h : FrontEnd) =>
      ({ s with adc := if s.adc.supplyWaiting then ⟨.supply, false⟩ else ⟨.free, false⟩, frontEnd := h } : State)
    let ends := fun (u : State) => exec (.burstEnd codes) s = .next (finish u)
    let inner := fun (x y i : Nat) => ∃ c, s.active.cell? i = some c ∧
      (c.role = .digit ∨ c.role = .enter ∨ c.role = .clear ∨ c.role = .back ∨ c.role = .cancel) ∧
      c.x0 + s.active.touch.guardMargin ≤ x ∧ x + s.active.touch.guardMargin ≤ c.x1 ∧
      c.y0 + s.active.touch.guardMargin ≤ y ∧ y + s.active.touch.guardMargin ≤ c.y1
    let sixteenth := kind = .rejected ∧ s.frontEnd.reject = 15
    let event := fun (k : InputKind) (n : Nat) (q : Position) =>
      (⟨k, n, q.x, q.y, none, q.edge, false, false⟩ : InputEvent)
    -- rejected scans
    (kind = .rejected → s.frontEnd.reject < 15 → ends (base { f with reject := s.frontEnd.reject + 1 })) ∧
    (sixteenth → scan = .noContact → ends (base f)) ∧
    -- contact scans
    (∀ x y, kind = .contact x y →
      let a := s.active.touch.shift
      let m := { s.mapper with sx := smooth a s.mapper.sx x, sy := smooth a s.mapper.sy y }
      let q := s.active.mapPosition m.sx m.sy
      let n := (s.mapper.stroke + 1) % 256
      let started := { s.mapper with sx := x * 16, sy := y * 16, tracking := true }
      let begun := fun (m : Mapper) (q : Position) =>
        ({ m with stroke := n, strokeOpen := true, lastX := q.x, lastY := q.y } : Mapper)
      let touched := fun (down : State) (q : Position) =>
        (s.ctl.state = .opened →
          ends (({ down with ctl := { s.ctl with appStroke := some n } } : State).told (event .down n q))) ∧
        (∀ r, s.ctl.state = .secure → s.ctl.record = some r → r.mode = .pin →
          ∃ c : Candidate, ends { down with ctl := { s.ctl with sessionStroke := some n, candidate := c } } ∧
            c ≠ .void ∧ ∀ i, c = .cell i ↔ inner q.x q.y i ∧ ∀ j, j < i → ¬inner q.x q.y j) ∧
        (∀ r, s.ctl.state = .secure → s.ctl.record = some r → r.mode = .calibrate →
          ends { down with ctl := { s.ctl with sessionStroke := some n } }) ∧
        (s.ctl.state ≠ .opened → s.ctl.state ≠ .secure → ends down)
      (scan = .noContact → 2 ≤ t.downDebounce →
        ends { base { f with scan := .pending, down := 1, lift := 0 } with mapper := started }) ∧
      (scan = .noContact → t.downDebounce ≤ 1 →
        let p := s.active.mapPosition (x * 16) (y * 16)
        touched { base { f with scan := .contact, down := 0, lift := 0 } with mapper := begun started p } p) ∧
      (scan = .pending → s.frontEnd.down + 1 < t.downDebounce → s.mapper.tracking = true →
        s.mapper.strokeOpen = false → ends { base { f with down := s.frontEnd.down + 1 } with mapper := m }) ∧
      (scan = .pending → t.downDebounce ≤ s.frontEnd.down + 1 → s.mapper.tracking = true →
        touched { base { f with scan := .contact, down := 0 } with mapper := begun m q } q) ∧
      ((scan = .contact ∨ scan = .lifting) → s.mapper.tracking = true → s.mapper.strokeOpen = true →
        let far := fun (v w : Nat) => s.active.touch.moveThreshold ≤ v - w ∨ s.active.touch.moveThreshold ≤ w - v
        let moved := far q.x m.lastX ∨ far q.y m.lastY
        let tracked : State :=
          { base { f with scan := .contact, lift := if scan = .lifting then 0 else s.frontEnd.lift } with
            mapper := if moved then { m with lastX := q.x, lastY := q.y } else m }
        (s.ctl.state = .opened → s.ctl.appStroke = some s.mapper.stroke →
          ends (if moved then tracked.told (event .move s.mapper.stroke q) else tracked)) ∧
        (s.ctl.state = .opened → s.ctl.appStroke ≠ some s.mapper.stroke → ends tracked) ∧
        (s.ctl.state = .secure → s.ctl.sessionStroke ≠ some s.mapper.stroke → ends tracked) ∧
        (∀ r, s.ctl.state = .secure → s.ctl.record = some r →
          r.mode = .calibrate ∨ s.ctl.candidate = .none ∨ s.ctl.candidate = .void → ends tracked) ∧
        (∀ r i, s.ctl.state = .secure → s.ctl.record = some r → r.mode = .pin →
          s.ctl.sessionStroke = some s.mapper.stroke → s.ctl.candidate = .cell i →
          (inner q.x q.y i → ends tracked) ∧
          (¬inner q.x q.y i → ends { tracked with
            ctl := { s.ctl with candidate := .void }
            progress := joinProgress s.progress ⟨s.ctl.session, .void, s.ctl.buffer.length⟩ })) ∧
        (s.ctl.state ≠ .opened → s.ctl.state ≠ .secure → ends tracked))) ∧
    -- no-contact scans that end no stroke
    (kind = .noContact → scan = .noContact → ends (base f)) ∧
    (kind = .noContact → scan = .contact → 2 ≤ t.upDebounce → ends (base { f with scan := .lifting, lift := 1 })) ∧
    (kind = .noContact → scan = .lifting → s.frontEnd.lift + 1 < t.upDebounce →
      ends (base { f with lift := s.frontEnd.lift + 1 })) ∧
    (scan = .pending → kind = .noContact ∨ sixteenth →
      ({ base { f with scan := .noContact, down := 0 } with
        mapper := { s.mapper with tracking := false } } : State).GlassFreed ends) ∧
    -- the end of a stroke
    ((scan = .contact ∧ (kind = .noContact ∧ t.upDebounce ≤ 1 ∨ sixteenth) ∨
        scan = .lifting ∧ (kind = .noContact ∧ t.upDebounce ≤ s.frontEnd.lift + 1 ∨ sixteenth)) →
      let n := s.mapper.stroke
      let up : State := {
        base { f with scan := .noContact, lift := if scan = .lifting then 0 else s.frontEnd.lift } with
        mapper := { s.mapper with strokeOpen := false, tracking := false }
        ctl := { s.ctl with
          appStroke := if s.ctl.appStroke = some n then none else s.ctl.appStroke
          sessionStroke := if s.ctl.sessionStroke = some n then none else s.ctl.sessionStroke } }
      s.UpActs up (decide (kind = .rejected)) ends)

/-- The arithmetic of positions (R83–R85): the smoothed coordinate moves toward the median by the difference over
2^a rounded toward zero, never past it; a mapped coordinate is the one whose pixel interval holds the numerator plus
half a pixel, clamped to the geometry, with EDGE exactly when a clamp acted. -/
def Obligations.PositionsAreSmoothedAndMapped : Prop :=
  (∀ a s16 median : Nat,
    let d : Int := median * 16 - s16
    ((smooth a s16 median : Int) = s16 + Int.tdiv d (2 ^ a)) ∧
    (s16 ≤ median * 16 → s16 ≤ smooth a s16 median ∧ smooth a s16 median ≤ median * 16) ∧
    (median * 16 ≤ s16 → median * 16 ≤ smooth a s16 median ∧ smooth a s16 median ≤ s16)) ∧
  ∀ (p : Policy) (sx sy : Nat), 1 ≤ p.geometry.w → 1 ≤ p.geometry.h →
    ∃ x y : Int,
      (x * 2 ^ 20 ≤ p.mapping.xu * sx + p.mapping.xv * sy + p.mapping.x0 + 2 ^ 19 ∧
        p.mapping.xu * sx + p.mapping.xv * sy + p.mapping.x0 + 2 ^ 19 < (x + 1) * 2 ^ 20) ∧
      (y * 2 ^ 20 ≤ p.mapping.yu * sx + p.mapping.yv * sy + p.mapping.y0 + 2 ^ 19 ∧
        p.mapping.yu * sx + p.mapping.yv * sy + p.mapping.y0 + 2 ^ 19 < (y + 1) * 2 ^ 20) ∧
      let q := p.mapPosition sx sy
      (q.x : Int) = max 0 (min ((p.geometry.w : Int) - 1) x) ∧
      (q.y : Int) = max 0 (min ((p.geometry.h : Int) - 1) y) ∧
      (q.edge = false ↔ (0 ≤ x ∧ x < p.geometry.w) ∧ (0 ≤ y ∧ y < p.geometry.h))

/-- A supply conversion's end takes the measurement (R152), moves the level state by the table of R153 and sets the
flags of R154: SUPPLY_WARN for PAY and APP on leaving NORMAL, SUPPLY_LOW for PAY on entering BELOW_ABORT, which ends a
live session with SUPPLY_LOW as every end does (`State.EndsSession`: R115, R116, R119, R122). The ADC goes to what
waits; where a burst and a supply request both wait, a free value decides (log entry 4). Nothing else changes. -/
def Obligations.SupplyIsMeasured : Prop :=
  ∀ (code : AdcCode) (s : State), s.Live → s.adc.use = .supply →
    s.active.supervision.abort + 100 ≤ s.active.supervision.warn →
    let m := (code.toNat * 4800 + 2047) / 4095
    let warn := s.active.supervision.warn
    let abort := s.active.supervision.abort
    let old := s.sup.level
    let low := old ≠ .belowAbort ∧ m < abort
    ∃ u : State, exec (.supplyConversionEnd code) s = .next (finish u) ∧
      u.sup.measurement = m ∧ m ≤ 4800 ∧ u.sup.tamper = s.sup.tamper ∧
      (u.sup.level = .belowAbort ↔ m < abort ∨ old = .belowAbort ∧ m < abort + 50) ∧
      (u.sup.level = .normal ↔ warn + 50 ≤ m ∨ old = .normal ∧ warn ≤ m) ∧
      (u.box .pay).flags = (s.box .pay).flags |||
        ((if old = .normal ∧ m < warn then 0x0080 else 0) ||| if low then 0x0100 else 0) ∧
      (u.box .app).flags = (s.box .app).flags ||| (if old = .normal ∧ m < warn then 0x0080 else 0) ∧
      (∀ src,
        let n := s.active.notices.get src
        let b := if src ≠ .rad ∧ old = .normal ∧ m < warn then (s.box src).setFlag n .supplyWarn else s.box src
        u.box src = if src = .pay ∧ low then b.setFlag n .supplyLow else b) ∧
      u.sup.requestTimer = s.sup.requestTimer ∧
      (s.adc.supplyWaiting = false → s.frontEnd.progress ≠ .burstWaiting →
        u.adc = ⟨.free, false⟩ ∧ u.frontEnd = s.frontEnd) ∧
      (s.adc.supplyWaiting = false → s.frontEnd.progress = .burstWaiting → u.adc = ⟨.burst, false⟩ ∧
        u.frontEnd = { s.frontEnd with progress := .burstRunning, panel := .x }) ∧
      (s.adc.supplyWaiting = true → s.frontEnd.progress ≠ .burstWaiting →
        u.adc = ⟨.supply, false⟩ ∧ u.frontEnd = s.frontEnd) ∧
      (s.adc.supplyWaiting = true → s.frontEnd.progress = .burstWaiting →
        u.adc = (if Config.arbiterGrantsBurst s.arbiterCount then ⟨.burst, true⟩ else ⟨.supply, false⟩) ∧
        u.frontEnd = if Config.arbiterGrantsBurst s.arbiterCount
          then { s.frontEnd with progress := .burstRunning, panel := .x } else s.frontEnd) ∧
      (low → s.inSession → ∀ r, s.ctl.record = some r → s.EndsSession r .supplyLow u ∧
        ∀ d, u.queue d = if u.ctl.state = .opened then (s.queue d).unheld else s.queue d) ∧
      (¬low ∨ ¬s.inSession → u.ctl = s.ctl ∧ u.gate = s.gate ∧ u.entryEnd = s.entryEnd ∧
        u.inputs = s.inputs ∧ u.lost = s.lost ∧ u.switch = s.switch ∧ u.sup.silence = s.sup.silence) ∧
      u.progress = s.progress ∧
      ({ u with sup := s.sup, adc := s.adc, frontEnd := s.frontEnd, arbiterCount := s.arbiterCount } :
        State).besideSession = s.besideSession

/-- A side key's input and a tamper pin take a level: the timer starts when the level comes to differ from the
debounced (filtered) one, runs on while it differs, and stops when it returns (R90, R147). During a full reset only
the pin changes. -/
def Obligations.PinsStartAndStopTheirTimers : Prop :=
  ∀ (k : Key) (i : TamperInput) (level : Level) (s : State),
    (s.inReset = true →
      exec (.keyInputChange k level) s = .next (s.setKey k { s.key k with pin := level }) ∧
      exec (.tamperPinChange i level) s = .next (s.setTamper i { s.tamper i with pin := level })) ∧
    (s.Live →
      exec (.keyInputChange k level) s = .next (finish (s.setKey k
        { s.key k with
          pin := level
          timer := if (level = .low ↔ (s.key k).pressed = true) then .stopped
            else if (s.key k).timer.isRunning then (s.key k).timer else .running s.active.debounce })) ∧
      exec (.tamperPinChange i level) s = .next (finish (s.setTamper i
        { s.tamper i with
          pin := level
          timer := if level = (s.tamper i).filtered then .stopped
            else if (s.tamper i).timer.isRunning then (s.tamper i).timer else .running 1 })))

/-- At a debounce expiry the debounced level takes the input's level (R90). In OPEN with room in the queue a PRESS is
queued to APP and marks the key, a RELEASE of a marked key is queued and clears the mark, and one of an unmarked key
is discarded; in ARMING, PRESENTING, CLOSING, RELEASING and LOCKED both are discarded (R92, R94).
In SECURE CANCEL ends the session, and CLEAR and ENTER act as the cells of that role in a PIN session (R109, R125). -/
def Obligations.KeyEventsAreRouted : Prop :=
  ∀ (k : Key) (s : State), s.Live → (s.key k).timer.isRunning = true →
    let settled := fun pressed => s.setKey k { s.key k with pressed := pressed, timer := .stopped }
    let event := fun (kind : InputKind) => (⟨kind, 0, 0, 0, some k, false, false, false⟩ : InputEvent)
    let mark := fun (v : Bool) => { s.ctl with keyMarks := s.ctl.keyMarks.set k v }
    ((s.key k).pin = .low → s.ctl.state = .opened → s.inputs.length < 32 →
      exec (.keyDebounceExpiry k) s =
        .next (finish ({ settled true with inputs := s.inputs ++ [event .press], ctl := mark true } : State))) ∧
    ((s.key k).pin = .high → s.ctl.state = .opened → s.inputs.length < 32 → s.ctl.keyMarks.get k = true →
      exec (.keyDebounceExpiry k) s =
        .next (finish ({ settled false with inputs := s.inputs ++ [event .release], ctl := mark false } : State))) ∧
    ((s.key k).pin = .high → (s.ctl.state ≠ .opened ∨ s.ctl.keyMarks.get k = false) →
      exec (.keyDebounceExpiry k) s = .next (finish (settled false))) ∧
    ((s.key k).pin = .low → s.ctl.state ≠ .opened → s.ctl.state ≠ .secure →
      exec (.keyDebounceExpiry k) s = .next (finish (settled true))) ∧
    ∀ r, (s.key k).pin = .low → s.ctl.state = .secure → s.ctl.record = some r → s.gate.stopped = false →
      s.gate.episode = false ∨ s.gate.pending.presentation ≠ .overlay →
      exec (.keyDebounceExpiry k) s = .next (finish (
        if k = .cancel then endSession .cancelled (settled true)
        else if r.mode = .pin ∧ k = .clear then pressClear r (settled true)
        else if r.mode = .pin ∧ k = .enter then pressEnter r (settled true) else settled true))

/-- A full input-event queue (R97, R98): a new MOVE is dropped; any other event joins at the newest end in place of
the oldest MOVE that is not in transmission, or, with none, of the oldest event not in transmission. The event in
transmission stays the oldest. With room every event joins at the newest end. A drop sets the lost mark (R99): so does a
key pressed in OPEN with the queue full. -/
def Obligations.FullInputQueueGivesUpMovesFirst : Prop :=
  (∀ (k : Key) (s : State), s.Live → (s.key k).timer.isRunning = true → (s.key k).pin = .low →
    s.ctl.state = .opened → s.inputs.length = 32 →
    exec (.keyDebounceExpiry k) s =
      .next (finish ({ s.setKey k { s.key k with pressed := true, timer := .stopped } with
        inputs := joinInput s.inputSending s.inputs ⟨.press, 0, 0, 0, some k, false, false, false⟩
        lost := true, ctl := { s.ctl with keyMarks := s.ctl.keyMarks.set k true } } : State))) ∧
  ∀ (sending : Bool) (es : List InputEvent) (e : InputEvent),
    (∀ s : State, queueInput e s = { s with
      inputs := joinInput s.inputSending s.inputs e, lost := s.lost || decide (32 ≤ s.inputs.length) }) ∧
    let new := joinInput sending es e
    let spared := if sending then 1 else 0
    (es.length < 32 → new = es ++ [e]) ∧
    (es.length = 32 →
      new.length = 32 ∧ (sending = true → new.head? = es.head?) ∧
      (e.kind = .move → new = es) ∧
      (e.kind ≠ .move → ∀ xs m ys, es = xs ++ m :: ys → spared ≤ xs.length → m.kind = .move →
        (∀ x ∈ xs.drop spared, x.kind ≠ .move) → new = xs ++ ys ++ [e]) ∧
      (e.kind ≠ .move → (∀ x ∈ es.drop spared, x.kind ≠ .move) →
        new = es.take spared ++ es.drop (spared + 1) ++ [e]))

/-- The key actions of R111, with the DOTS count and the timers of R112: a DIGIT below the maximum joins the buffer,
BACK removes the last digit, CLEAR empties the buffer, each with ACCEPTED and the new length, the first-key timer
stopped and the inter-key timer started afresh; at the maximum DIGIT reports FULL, on an empty buffer BACK reports
EMPTY, below the minimum ENTER reports SHORT, and these change nothing else. From the minimum ENTER ends the session
COMPLETE, as does auto-enter at the maximum, with the digits in the ENTRY-END; on a
running output an end is the whole end of `State.EndsSession` (R115). A cell's role selects the action, and
the k-th DIGIT cell stands for the k-th digit of the map. -/
def Obligations.KeyActionsFollowTheTable : Prop :=
  ∀ (r : Session) (digit : Nat) (s : State),
    let n := s.ctl.buffer.length
    let report := fun (event : ProgressEvent) (count : Nat) (u : State) => { u with
      progress := joinProgress s.progress ⟨s.ctl.session, event, count⟩ }
    let accepted := fun (ds : List Nat) (u : State) =>
      u.ctl = { s.ctl with buffer := ds, firstKey := .stopped, interKey := .running (1000 * r.interKey) } ∧
      u.progress = joinProgress s.progress ⟨s.ctl.session, .accepted, ds.length⟩ ∧
      (ds.length ≠ n → u.gate.pending = { s.gate.pending with dots := ds.length }) ∧
      (ds.length = n → u.gate = s.gate) ∧ u.entryEnd = s.entryEnd
    (n < r.maxLength → (n + 1 = r.maxLength → r.autoEnter = false) →
      accepted (s.ctl.buffer ++ [digit]) (pressDigit r digit s)) ∧
    (r.maxLength ≤ n → pressDigit r digit s = report .full n s) ∧
    (n ≠ 0 → accepted s.ctl.buffer.dropLast (pressBack r s)) ∧
    (n = 0 → pressBack r s = report .empty 0 s) ∧
    accepted [] (pressClear r s) ∧
    (n < r.least → pressEnter r s = report .short n s) ∧
    (∀ i c, s.active.cell? i = some c →
      let rank := (s.active.cells.toList.take i).countP fun x => x.any fun x => decide (x.role = .digit)
      (c.role = .digit → pressCell r i s = pressDigit r (r.digitMap.getD rank 0) s) ∧
      (c.role = .back → pressCell r i s = pressBack r s) ∧ (c.role = .clear → pressCell r i s = pressClear r s) ∧
      (c.role = .enter → pressCell r i s = pressEnter r s) ∧
      (c.role = .cancel → pressCell r i s = endSession .cancelled s)) ∧
    (s.ctl.state = .secure → s.ctl.record = some r → r.mode = .pin →
      let completed := fun (ds : List Nat) (u : State) => u.ctl.state = .closing ∧ u.ctl.buffer = [] ∧
        u.entryEnd = some ⟨s.ctl.session, .complete, .pin, ds.length, .digits ds⟩
      (r.least ≤ n → completed s.ctl.buffer (pressEnter r s)) ∧
      (n < r.maxLength → n + 1 = r.maxLength → r.autoEnter = true →
        completed (s.ctl.buffer ++ [digit]) (pressDigit r digit s)) ∧
      (s.gate.stopped = false → (∀ o, s.EndsAlone r o (endSession o s)) ∧
        (r.least ≤ n → s.EndsAlone r .complete (pressEnter r s))) ∧
      (endSession .cancelled s).entryEnd = some ⟨s.ctl.session, .cancelled, .pin, n, .absent⟩)

/-! ## The ends of a session (chapter 6) -/

/-- A session ends at an expiry of its total, first-key or inter-key timer, at a PAY silence expiry, at an ENTRY-ABORT
and at a PAY break, with the outcome of that cause (`State.EndsSession`): the ENTRY-END carries the session number, the
mode and no data, and from SECURE the buffer's length or the number of points; the buffer is erased, every timer stops,
the session record becomes absent (log entry 10), and the PAY silence timer is disarmed. From SECURE the controller
enters CLOSING, and goes on at once where the stopped output makes the clear set active; from ARMING and PRESENTING it
enters OPEN with the glass free, RELEASING otherwise. In FULL presentation, outside ARMING, FOLLOW timing is asked for
(R136). Nothing else changes, but what a break resets. -/
def Obligations.SessionEndsWithItsOutcome : Prop :=
  ∀ (r : Session) (s : State), s.Live → s.inSession → s.ctl.record = some r →
    let alone := fun (o : SessionOutcome) (result : Host.Outcome State Fault Refusal) =>
      ∃ u : State, result = .next (finish u) ∧ s.EndsAlone r o u
    (s.ctl.total.isRunning = true → alone .timeoutTotal (exec .totalTimerExpiry s)) ∧
    (s.ctl.firstKey.isRunning = true → alone .timeoutFirst (exec .firstKeyTimerExpiry s)) ∧
    (s.ctl.interKey.isRunning = true → alone .timeoutInter (exec .interKeyTimerExpiry s)) ∧
    (s.sup.silence.isRunning = true → alone .paySilent (exec .paySilenceExpiry s)) ∧
    ((s.port .pay).inBreak = false →
      ∃ u : State, exec (.serialBreak .pay) s = .next (finish u) ∧ s.EndsSession r .linkReset u) ∧
    (∀ tag slot, s.Accepts .pay → ∃ u : State, exec (.entryAbort .pay tag slot []) s =
        .next (finish (u.answered .pay ⟨0x14, tag, slot, []⟩ .ok [])) ∧
      (s.arrived .pay).EndsAlone r .aborted u)

/-! ## The video gate (chapter 7) -/

/-- An input frame start ends and judges the frame in progress, restarts the silence watch and begins a frame (R129,
R130; the lines of the ending frame come with the command, log entry 17). A well-formed frame clears the malformed count
and ends a loss episode; a malformed one raises the count, and a count of 2 outside LOCAL timing is a loss (R131). In
LOCAL and TO_FOLLOW nothing else changes. In FOLLOW, the first frame after a stop included, and in REJOIN the output
runs; in TO_LOCAL the gate switches to LOCAL (R135); and the layout waiting is taken. A pending set that differs becomes
active: the secure set takes PRESENTING to SECURE with the first-key timer running and PRESENTED queued, and changes
nothing in SECURE; the clear set takes CLOSING to RELEASING, or OPEN with the glass free (R117); the lock set is found
shown. A loss ends an OVERLAY session in PRESENTING or
SECURE VIDEO_LOST before the start shows the clear set (R119, R121). -/
def Obligations.InputFrameStartBeginsAFrame : Prop :=
  ∀ (lines : List Nat) (s : State), s.Live →
    let bad := lines ≠ List.replicate s.gate.layout.h s.gate.layout.w
    let count := if s.gate.inFrame then (if bad then min 2 (s.gate.malformed + 1) else 0) else s.gate.malformed
    let still := s.gate.episode && (!s.gate.inFrame || decide bad)
    let g := { s.gate with watch := .running 100, inFrame := true, malformed := count, episode := still }
    let follows := s.gate.timing = .follow ∨ s.gate.timing = .toLocal ∨ s.gate.timing = .rejoin
    let o : Gate := { g with
      timing := if s.gate.timing = .toLocal then .localTiming else .follow
      stopped := if s.gate.timing = .toLocal then s.gate.stopped else false
      layout := s.gate.waiting.getD s.gate.layout, waiting := none }
    let shows := { o with active := s.gate.pending }
    let loss := s.gate.inFrame = true ∧ bad ∧ count = 2 ∧ still = false
    let shown := ∃ r, s.ctl.record = some r ∧ r.presentation = .overlay ∧
      (s.ctl.state = .presenting ∨ s.ctl.state = .secure)
    let flagged := fun (u : State) =>
      if loss then setFlag .pay .videoLost { u with gate := { u.gate with episode := true } } else u
    let ends := fun (u : State) => exec (.inputFrameStart lines) s = .next (finish u)
    (¬follows → ends { s with gate := g }) ∧
    (follows → (loss → ¬shown) →
      (s.gate.pending = s.gate.active → ends (flagged { s with gate := o })) ∧
      (∀ r, s.gate.pending ≠ s.gate.active → s.gate.pending.isSecure = true → s.ctl.state = .presenting →
        s.ctl.record = some r →
        ends (flagged { s with
          gate := shows
          ctl := { s.ctl with state := .secure, firstKey := .running (1000 * r.firstKey), candidate := .none }
          progress := joinProgress s.progress ⟨s.ctl.session, .presented, 0⟩ }) ∧ shows.lamp = .high) ∧
      (s.gate.pending ≠ s.gate.active → s.gate.pending.isSecure = true → s.ctl.state = .secure →
        ends (flagged { s with gate := shows })) ∧
      (s.gate.pending ≠ s.gate.active → s.gate.pending.presentation = .none → s.ctl.state = .closing →
        ends (flagged ({ s with gate := shows } : State).released) ∧ shows.lamp = .low) ∧
      (s.gate.pending ≠ s.gate.active → s.gate.pending.presentation = .none → s.ctl.state ≠ .closing →
        ends (flagged { s with gate := shows })) ∧
      (s.gate.pending ≠ s.gate.active → s.gate.pending.presentation = .lock → s.ctl.state = .locked →
        ends (flagged { s with gate := shows, ctl := { s.ctl with lockShown := true } }))) ∧
    (∀ r, follows → loss → s.ctl.record = some r → r.presentation = .overlay →
      let cleared : State := { s with gate := { o with
        episode := true, pending := OverlaySet.clear, active := OverlaySet.clear } }
      let count := if r.mode = .pin then s.ctl.buffer.length else s.ctl.points.length
      (s.ctl.state = .secure → s.gate.active.isSecure = true →
        ends (setFlag .pay .videoLost (cleared.lostSession r count).released)) ∧
      (s.ctl.state = .presenting → ends (setFlag .pay .videoLost (cleared.lostSession r 0).released)))

/-- The silence watch runs out (R130): the frame in progress ends and is judged (R129, the lines coming with the
command: log entry 17), and the watch stands expired. In LOCAL and TO_FOLLOW nothing else changes. In FOLLOW the output
stops at a boundary, where a clear set takes CLOSING on and in any other state changes no more, and then, with no
episode in progress, the loss episode begins and VIDEO_LOST is set for PAY (R131, R133); with the output already stopped
there is the loss alone (log entry 13), which ends an OVERLAY session that waits in PRESENTING. With an OVERLAY keypad
shown the loss ends the session VIDEO_LOST and its clear set is active at once (R121, R141); one that was still waiting
to be shown is presented at the boundary first. In TO_LOCAL the loss comes first, and the first local frame then shows
the pending set (R135). REJOIN ends in FOLLOW with the output stopped at a boundary, and the loss follows (R137). That a
second malformed frame judged here is a loss at that step and no earlier is deduced (log entry 26). -/
def Obligations.SilenceWatchRunsOut : Prop :=
  ∀ (lines : List Nat) (s : State), s.Live → s.gate.watch.isRunning = true →
    let bad := lines ≠ List.replicate s.gate.layout.h s.gate.layout.w
    let count := if s.gate.inFrame then (if bad then min 2 (s.gate.malformed + 1) else 0) else s.gate.malformed
    let still := s.gate.episode && (!s.gate.inFrame || decide bad)
    let g := { s.gate with watch := .expired, inFrame := false, malformed := count, episode := still }
    let halted : Gate := { g with timing := .follow, stopped := true }
    let o : Gate := { g with
      timing := .localTiming, layout := s.gate.waiting.getD s.gate.layout, waiting := none }
    let shown := ∃ r, s.ctl.record = some r ∧ r.presentation = .overlay ∧
      (s.ctl.state = .presenting ∨ s.ctl.state = .secure)
    let flagged := fun (u : State) =>
      if still then u else setFlag .pay .videoLost { u with gate := { u.gate with episode := true } }
    let ends := fun (u : State) => exec (.silenceWatchExpiry lines) s = .next (finish u)
    let running := s.gate.timing = .follow ∧ s.gate.stopped = false
    ((s.gate.timing = .localTiming ∨ s.gate.timing = .toFollow) → ends { s with gate := g }) ∧
    (s.gate.timing = .follow → s.gate.stopped = true → ¬shown → ends (flagged { s with gate := g })) ∧
    ((running ∨ s.gate.timing = .rejoin) → ¬shown →
      (s.gate.pending = s.gate.active → ends (flagged { s with gate := halted })) ∧
      (s.gate.pending ≠ s.gate.active → s.gate.pending.presentation = .none → s.ctl.state = .closing →
        ends (flagged ({ s with gate := { halted with active := s.gate.pending } } : State).released)) ∧
      (s.gate.pending ≠ s.gate.active → s.gate.pending.presentation = .none → s.ctl.state ≠ .closing →
        ends (flagged { s with gate := { halted with active := s.gate.pending } }))) ∧
    (∀ r, s.gate.timing = .follow → s.gate.stopped = true → still = false → s.ctl.state = .presenting →
      s.ctl.record = some r → r.presentation = .overlay →
      ends (setFlag .pay .videoLost (({ s with gate := { g with
        episode := true, pending := OverlaySet.clear, active := OverlaySet.clear } } : State).lostSession r
          0).released)) ∧
    (∀ r, (running ∨ s.gate.timing = .rejoin) → still = false → s.ctl.record = some r → r.presentation = .overlay →
      let cleared : Gate := { halted with
        episode := true, pending := OverlaySet.clear, active := OverlaySet.clear }
      let count := if r.mode = .pin then s.ctl.buffer.length else s.ctl.points.length
      (s.ctl.state = .secure → s.gate.active.isSecure = true → s.gate.pending.isSecure = true →
        ends (setFlag .pay .videoLost (({ s with gate := cleared } : State).lostSession r count).released)) ∧
      (s.ctl.state = .presenting → s.gate.pending ≠ s.gate.active → s.gate.pending.isSecure = true →
        ends (setFlag .pay .videoLost (({ s with
          gate := cleared
          progress := joinProgress s.progress ⟨s.ctl.session, .presented, 0⟩ } : State).lostSession r
            count).released))) ∧
    (s.gate.timing = .toLocal → ¬shown →
      (s.gate.pending = s.gate.active → ends (flagged { s with gate := o })) ∧
      (∀ r, s.gate.pending ≠ s.gate.active → s.gate.pending.isSecure = true → s.ctl.state = .presenting →
        s.ctl.record = some r →
        ends (flagged { s with
          gate := { o with active := s.gate.pending }
          ctl := { s.ctl with state := .secure, firstKey := .running (1000 * r.firstKey), candidate := .none }
          progress := joinProgress s.progress ⟨s.ctl.session, .presented, 0⟩ })) ∧
      (s.gate.pending ≠ s.gate.active → s.gate.pending.presentation = .lock → s.ctl.state = .locked →
        ends (flagged { s with
          gate := { o with active := s.gate.pending }, ctl := { s.ctl with lockShown := true } })))

/-- The end of a local frame: in LOCAL the next local frame starts, takes the layout waiting and, with the sets equal,
changes nothing else; a changed secure set becomes active, takes PRESENTING to SECURE with the first-key timer
running and PRESENTED queued (R106), and in SECURE that is all; in LOCKED the lock set becomes
active there and is found shown. In TO_FOLLOW no frame starts, REJOIN begins and the silence watch restarts. In FOLLOW,
TO_LOCAL and REJOIN no local frame runs, and the command changes nothing: that is the model's choice (log entry 1). -/
def Obligations.LocalFrameEnds : Prop :=
  ∀ s : State, s.Live →
    let g := { s.gate with layout := s.gate.waiting.getD s.gate.layout, waiting := none }
    (s.gate.timing = .localTiming → s.gate.pending = s.gate.active →
      exec .localFrameEnd s = .next (finish ({ s with gate := g } : State))) ∧
    (s.gate.timing = .localTiming → s.gate.pending ≠ s.gate.active → s.gate.pending.presentation = .lock →
      s.ctl.state = .locked →
      exec .localFrameEnd s = .next (finish ({ s with
        gate := { g with active := s.gate.pending }, ctl := { s.ctl with lockShown := true } } : State))) ∧
    (∀ r, s.gate.timing = .localTiming → s.gate.pending ≠ s.gate.active → s.gate.pending.isSecure = true →
      s.ctl.state = .presenting → s.ctl.record = some r →
      exec .localFrameEnd s = .next (finish ({ s with
        gate := { g with active := s.gate.pending }
        ctl := { s.ctl with state := .secure, firstKey := .running (1000 * r.firstKey), candidate := .none }
        progress := joinProgress s.progress ⟨s.ctl.session, .presented, 0⟩ } : State))) ∧
    (s.gate.timing = .localTiming → s.gate.pending ≠ s.gate.active → s.gate.pending.isSecure = true →
      s.ctl.state = .secure →
      exec .localFrameEnd s = .next (finish ({ s with gate := { g with active := s.gate.pending } } : State))) ∧
    (s.gate.timing = .toFollow →
      exec .localFrameEnd s =
        .next (finish ({ s with gate := { s.gate with timing := .rejoin, watch := .running 100 } } : State))) ∧
    (s.gate.timing ≠ .localTiming → s.gate.timing ≠ .toFollow → exec .localFrameEnd s = .next (finish s))

/-- The picture (R142–R144): outside the geometry, and where no cell lies, the panel shows the input or the backdrop by
the presentation; inside, the last cell of the list that holds the position gives its ink or its fill. A glyph has ink
at a position by the bit of its row, its 32 by 40 pixels centred in the cell; a DOTS cell has one copy for each dot that
fits, from the left; a cell without a glyph has no ink. The panel output carries the composed input in FOLLOW with the
output running and in TO_LOCAL, the local picture inside the geometry in LOCAL and TO_FOLLOW, and nothing in FOLLOW with
the output stopped and in REJOIN (R133–R137). Its clock, sync and data-enable pins follow the input in the first; in the
second the data enable is asserted exactly at the active pixels; in the last it and the syncs are inactive. -/
def Obligations.PixelsAreComposed : Prop :=
  (∀ (l : Layout) (o : OverlaySet) (input : Option Rgb) (x y : Nat),
    let under := input.getD o.backdrop
    let inside := x < l.w ∧ y < l.h
    let holds := fun (c : Cell) => c.x0 ≤ x ∧ x ≤ c.x1 ∧ c.y0 ≤ y ∧ y ≤ c.y1
    let pixel := composePixel l o input x y
    (o.presentation = .none → pixel = under) ∧ (o.presentation = .lock → pixel = o.backdrop) ∧
    (o.presentation = .overlay → (¬inside ∨ ∀ c ∈ o.cells, ¬holds c) → pixel = under) ∧
    (o.presentation = .full → (¬inside ∨ ∀ c ∈ o.cells, ¬holds c) → pixel = o.backdrop) ∧
    ∀ below c above, (o.presentation = .overlay ∨ o.presentation = .full) → inside →
      o.cells = below ++ c :: above → holds c → (∀ b ∈ above, ¬holds b) →
      pixel = if c.ink? l.glyphs o.dots x y then c.ink else c.fill) ∧
  (∀ (g : Gate) (vin : Rgb) (x y : Nat),
    let inside := x < g.layout.w ∧ y < g.layout.h
    let follows := g.timing = .follow ∧ g.stopped = false ∨ g.timing = .toLocal
    let local' := g.timing = .localTiming ∨ g.timing = .toFollow
    let carries := g.panelPixel vin x y
    (follows → carries = some (composePixel g.layout g.active (some vin) x y)) ∧
    (local' → inside → carries = some (composePixel g.layout g.active none x y)) ∧
    (local' → ¬inside → carries = none) ∧ (¬follows → ¬local' → carries = none) ∧
    ∀ (pins : VideoPins) (moment : Nat) (at? : Option (Nat × Nat)),
      let out := g.voutPins pins moment at?
      (follows → out = pins) ∧ (local' → (out.de = true ↔ ∃ p ∈ at?, p.1 < g.layout.w ∧ p.2 < g.layout.h)) ∧
      (¬follows → ¬local' → out.de = false ∧ out.vsync = false ∧ out.hsync = false)) ∧
  (∀ (c : Cell) (store : GlyphStore) (dots x y : Nat), c.glyph = none → c.ink? store dots x y = false) ∧
  ∀ (c : Cell) (store : GlyphStore) (dots x y : Nat) (i : Fin 64), c.glyph = some i.val →
    let top := (c.y0 : Int) + ((c.y1 : Int) - c.y0 + 1 - 40).fdiv 2
    let ink := fun (left : Int) => ∃ dx dy : Nat, dx < 32 ∧ dy < 40 ∧
      (x : Int) = left + dx ∧ (y : Int) = top + dy ∧
      (store[i].getD (4 * dy + dx / 8) 0).getLsbD (7 - dx % 8) = true
    (c.role ≠ .dots → (c.ink? store dots x y = true ↔
      ink ((c.x0 : Int) + ((c.x1 : Int) - c.x0 + 1 - 32).fdiv 2))) ∧
    (c.role = .dots → (c.ink? store dots x y = true ↔
      ∃ k, k < dots ∧ c.x0 + 32 * k + 31 ≤ c.x1 ∧ ink ((c.x0 : Int) + 32 * k)))

/-! ## Tamper inputs and notice flags (chapters 8, 9) -/

/-- At a filter expiry the filtered level takes the pin's level. Outside the trip condition of its sense (DISABLED has
none), and in one that went on holding, nothing else happens. A level that brings the input into its trip condition,
outside LOCKED, latches the trip, sets TAMPER for PAY and locks the part: the lock set is pending and LOCAL timing asked
for (R135), so that on an idle output it is shown at once, the buffer is erased, the session record becomes absent (log
entry 10), the timers stop, a live session ends TAMPER with its count and without data, from OPEN APP is told the
cancels and FOCUS-LOST and loses its stroke and key marks (R96), and no entry on a channel with an APP endpoint stays
queued but one in transmission, the space-wanted marks being judged (R62). In LOCKED it latches and does no more. -/
def Obligations.TamperFilterTripsThePart : Prop :=
  ∀ (i : TamperInput) (s : State), s.Live → (s.tamper i).timer.isRunning = true →
    let sense := s.active.supervision.sense.get i
    let pin := (s.tamper i).pin
    let met := sense = .tripLow ∧ pin = .low ∨ sense = .tripHigh ∧ pin = .high ∨
      sense = .tripChange ∧ pin ≠ (s.tamper i).normal
    let tripped := { s.tamper i with filtered := pin, timer := .stopped, inTrip := true, latch := true }
    (¬met → exec (.tamperFilterExpiry i) s =
      .next (finish (s.setTamper i { s.tamper i with filtered := pin, timer := .stopped, inTrip := false }))) ∧
    (met → (s.tamper i).inTrip = true → exec (.tamperFilterExpiry i) s =
      .next (finish (s.setTamper i { s.tamper i with filtered := pin, timer := .stopped }))) ∧
    (met → (s.tamper i).inTrip = false → s.ctl.state = .locked → exec (.tamperFilterExpiry i) s =
      .next (finish (s.setTamper i tripped))) ∧
    (met → (s.tamper i).inTrip = false → s.ctl.state ≠ .locked →
      let held := fun (e : Entry) =>
        if s.ctl.state = .opened ∧ e.sending = false ∧ onHoldChannel s.active e = true then { e with held := true }
        else e
      let gone := fun (e : Entry) => onAppChannel s.active e && !e.sending
      let opened := s.ctl.state = .opened
      let told := if opened then s.departure else []
      ∃ u : State, exec (.tamperFilterExpiry i) s = .next (finish u) ∧
        u.ctl = { s.ctl with
          state := .locked, lockShown := decide (u.gate.active = u.gate.pending), buffer := [], points := []
          candidate := .none, record := none, firstKey := .stopped, interKey := .stopped, total := .stopped
          appStroke := if opened then none else s.ctl.appStroke
          keyMarks := if opened then ⟨false, false, false, false⟩ else s.ctl.keyMarks } ∧
        u.inputs = told.foldl (joinInput s.inputSending) s.inputs ∧
        u.lost = (s.lost || decide (opened ∧ 32 < s.inputs.length + told.length)) ∧
        (∀ d src c, ((u.queue d).wanted.get src).get c =
          (((s.queue d).wanted.get src).get c && !s.meetsSpace gone d src c)) ∧
        (∀ src, u.box src = s.spaceJudged gone src
          (if src = .pay then (s.box src).setFlag (s.active.notices.get src) .tamper else s.box src)) ∧
        u.sup = { s.sup with tamper := s.sup.tamper.set i tripped, silence := .stopped } ∧
        (u.box .pay).flags ||| 0x0008 = (s.box .pay).flags ||| 0x0048 ∧
        (∀ d, d ≠ .pay → (u.box d).flags ||| 0x0008 = (s.box d).flags ||| 0x0008) ∧
        u.gate.pending = ⟨.lock, [], 0, s.active.geometry.backdrop⟩ ∧
        (∀ idle : Bool, idle = decide (s.gate.timing = .rejoin ∨ s.gate.timing = .follow ∧ s.gate.stopped = true) →
          u.gate.timing = (if s.gate.timing = .toLocal ∨ s.gate.timing = .follow ∧ s.gate.stopped = false
            then .toLocal else .localTiming) ∧
          u.gate.active = (if idle then u.gate.pending else s.gate.active) ∧
          u.gate.layout = (if idle then s.gate.waiting.getD s.gate.layout else s.gate.layout) ∧
          u.gate.waiting = (if idle then none else s.gate.waiting) ∧
          u.gate.stopped = (s.gate.stopped && !decide (s.gate.timing = .follow)) ∧
          u.gate.watch = s.gate.watch ∧ u.gate.inFrame = s.gate.inFrame ∧ u.gate.malformed = s.gate.malformed ∧
          u.gate.episode = s.gate.episode) ∧
        (∀ r, s.inSession → s.ctl.record = some r → u.entryEnd = some ⟨s.ctl.session, .tamper, r.mode,
          if r.mode = .pin then s.ctl.buffer.length else s.ctl.points.length, .absent⟩) ∧
        (¬s.inSession → u.entryEnd = s.entryEnd) ∧ u.progress = s.progress ∧
        (∀ d, (u.queue d).run = (s.queue d).run) ∧
        (∀ d c, (u.queue d).entries.get c = (((s.queue d).entries.get c).map held).filter fun e =>
          !onAppChannel s.active e || e.sending) ∧
        ({ u with sup := s.sup } : State).besideSession = s.besideSession)

/-- Setting a flag (R160, R161, R165): one that is set stays and changes nothing; a rise sets it and makes an EMPTY
NOTICE place WAITING, leaves a WAITING one, and sets the follow-up mark behind a SENDING one; the repeat timer starts
from 500 ms when its conditions come to hold. A repeat timer that runs out stands expired and makes an EMPTY place
WAITING. -/
def Obligations.FlagsRiseAndRepeat : Prop :=
  ∀ (d : Domain) (f : Flag) (s : State),
    let b := s.box d
    let m := s.active.notices.get d
    ((b.flags.getLsbD f.bit = true → setFlag d f s = s) ∧
      (b.flags.getLsbD f.bit = false → ∃ c, setFlag d f s = s.setBox d c ∧
        (∀ g, c.flags.getLsbD g = (b.flags.getLsbD g || decide (g = f.bit))) ∧
        c.place = (if b.place = .empty then .waiting else b.place) ∧
        c.followUp = (b.followUp || decide (b.place ≠ .empty ∧ b.place ≠ .waiting)) ∧
        (m.report = .repeated → m.clear = .onClear → b.repeatTimer = .stopped → c.repeatTimer = .running 500) ∧
        (m.report = .repeated → m.clear = .onClear → b.repeatTimer ≠ .stopped →
          c.repeatTimer = b.repeatTimer) ∧
        (m.report = .edge ∨ m.clear = .onReport → c.repeatTimer = .stopped))) ∧
    (s.Live → b.repeatTimer.isRunning = true →
      exec (.repeatTimerExpiry d) s = .next (finish (s.setBox d
        { b with repeatTimer := .expired, place := if b.place = .empty then .waiting else b.place })))

/-! ## Invariants -/

/-- The part right after reset has every invariant. -/
def Obligations.ResetHasEveryInvariant : Prop :=
  let s := State.reset
  s.CapacityInv ∧ s.BufferInv ∧ s.SessionInv ∧ s.GateInv ∧ s.LampRight ∧ s.BucketInv ∧ s.HeldInv ∧ s.RouteInv ∧
    s.LockedInv ∧ s.TransmitInv ∧ s.BusyInv ∧ s.NoticeInv ∧ s.PolicyInv ∧ s.PanelInv ∧ s.RecordInv ∧
    s.RangeInv

/-- Every step keeps the capacities of the queues and the bucket levels at or below the slots' depths. -/
def Obligations.QueuesKeepTheirCapacities : Prop := KeptByStep State.CapacityInv ∧ KeptByStep State.BucketInv

/-- Every step keeps the entry buffer empty outside SECURE and within the session's maximum length of digits, and
keeps the session record, the session timers and the PAY silence timer with the session. -/
def Obligations.DataAndTimersStayWithTheSession : Prop :=
  KeptByStep State.BufferInv ∧ KeptByStep State.SessionInv

/-- Every step keeps the gate's sets in agreement with the controller, and the trust lamp with them. -/
def Obligations.LampShowsTheSecureSession : Prop :=
  KeptByStep State.GateInv ∧ ∀ s : State, s.GateInv → s.LampRight

/-- Every step keeps held entries to the states outside OPEN and to HOLD channels. -/
def Obligations.HeldEntriesStayHeld : Prop := KeptByStep State.HeldInv

/-- Every step keeps every queued entry, but those in transmission, within the policy in force. -/
def Obligations.QueuedEntriesFitThePolicy : Prop := KeptByStep State.RouteInv

/-- Every step keeps entries on APP channels, but those in transmission, out of the queues in LOCKED. -/
def Obligations.LockedHoldsNoAppTraffic : Prop := KeptByStep State.LockedInv

/-- Every step keeps each frame in transmission at its place. -/
def Obligations.TransmissionsStandAtTheirPlaces : Prop := KeptByStep State.TransmitInv

/-- Every step leaves no transmitter at rest that could send, and every stall timer as R13 has it. -/
def Obligations.NoTransmitterRests : Prop := KeptByStep State.BusyInv

/-- Every step keeps the notice boxes in order. -/
def Obligations.NoticeBoxesStayInOrder : Prop := KeptByStep State.NoticeInv

/-- Every step keeps the active set valid, the front end IDLE exactly before the first commit, the panel drives and the
ADC with the scan in progress, and the records and the numbers in their ranges. -/
def Obligations.TablesStayValidAndInRange : Prop :=
  KeptByStep State.PolicyInv ∧ KeptByStep State.PanelInv ∧ KeptByStep State.RecordInv ∧ KeptByStep State.RangeInv

/-- The digits of the entry buffer leave the part only in an ENTRY-END (R110): two runs of one command from states
that differ only in those digits leave states that differ only in the digits of the buffer, of the pending ENTRY-END
and of the ENTRY-END in transmission on the PAY link. -/
def Obligations.DigitsLeaveOnlyInTheEntryEnd : Prop :=
  ∀ (c : Instr) (s t u v : State), s.hidden = t.hidden → exec c s = .next u → exec c t = .next v →
    u.hidden = v.hidden
end

