-- ==== Sys2Proof/Laws/State.lean ====
section
/-! SUPPORT. The small lemmas of the state's records: reading a field after an update of another, reading an
indexed group after replacing one of its values. -/

namespace Sys2Proof.Machine

open Sys2Proof

/-! ### Indexed groups -/

@[simp] theorem PerDomain.get_set_same {α : Type} (p : PerDomain α) (d : Domain) (v : α) :
    (p.set d v).get d = v := by cases d <;> rfl

theorem PerDomain.get_set {α : Type} (p : PerDomain α) (d e : Domain) (v : α) :
    (p.set d v).get e = if e = d then v else p.get e := by cases d <;> cases e <;> rfl

@[simp] theorem PerDomain.get_set_ne {α : Type} (p : PerDomain α) {d e : Domain} (v : α) (h : e ≠ d) :
    (p.set d v).get e = p.get e := by rw [PerDomain.get_set, if_neg h]

@[simp] theorem PerDomain.set_get {α : Type} (p : PerDomain α) (d : Domain) : p.set d (p.get d) = p := by
  cases d <;> rfl

@[simp] theorem PerDomain.set_set {α : Type} (p : PerDomain α) (d : Domain) (v w : α) :
    (p.set d v).set d w = p.set d w := by cases d <;> rfl

@[simp] theorem PerDomain.get_all {α : Type} (v : α) (d : Domain) : (PerDomain.all v).get d = v := by
  cases d <;> rfl

theorem PerDomain.ext_get {α : Type} {p q : PerDomain α} (h : ∀ d, p.get d = q.get d) : p = q := by
  cases p; cases q
  have h1 := h .pay; have h2 := h .app; have h3 := h .rad
  simp only [PerDomain.get] at h1 h2 h3
  rw [h1, h2, h3]

theorem PerKey.get_set {α : Type} (p : PerKey α) (k l : Key) (v : α) :
    (p.set k v).get l = if l = k then v else p.get l := by cases k <;> cases l <;> rfl

@[simp] theorem PerKey.get_set_same {α : Type} (p : PerKey α) (k : Key) (v : α) : (p.set k v).get k = v := by
  cases k <;> rfl

theorem PerTamper.get_set {α : Type} (p : PerTamper α) (i j : TamperInput) (v : α) :
    (p.set i v).get j = if j = i then v else p.get j := by cases i <;> cases j <;> rfl

@[simp] theorem PerTamper.get_set_same {α : Type} (p : PerTamper α) (i : TamperInput) (v : α) :
    (p.set i v).get i = v := by cases i <;> rfl

theorem PerClass.get_set {α : Type} (p : PerClass α) (c e : Class) (v : α) :
    (p.set c v).get e = if e = c then v else p.get e := by cases c <;> cases e <;> rfl

@[simp] theorem mem_allDomains (d : Domain) : d ∈ allDomains := by cases d <;> simp [allDomains]

@[simp] theorem mem_allClasses (c : Class) : c ∈ allClasses := by cases c <;> simp [allClasses]

@[simp] theorem mem_allKeys (k : Key) : k ∈ allKeys := by cases k <;> simp [allKeys]

/-! ### One port, queue, box, input, key -/

theorem State.port_setPort (s : State) (d e : Domain) (p : Port) :
    (s.setPort d p).port e = if e = d then p else s.port e := PerDomain.get_set _ _ _ _

@[simp] theorem State.port_setPort_same (s : State) (d : Domain) (p : Port) : (s.setPort d p).port d = p :=
  PerDomain.get_set_same _ _ _

theorem State.queue_setQueue (s : State) (d e : Domain) (q : DeliveryQueue) :
    (s.setQueue d q).queue e = if e = d then q else s.queue e := PerDomain.get_set _ _ _ _

@[simp] theorem State.queue_setQueue_same (s : State) (d : Domain) (q : DeliveryQueue) :
    (s.setQueue d q).queue d = q := PerDomain.get_set_same _ _ _

theorem State.box_setBox (s : State) (d e : Domain) (b : NoticeBox) :
    (s.setBox d b).box e = if e = d then b else s.box e := PerDomain.get_set _ _ _ _

@[simp] theorem State.box_setBox_same (s : State) (d : Domain) (b : NoticeBox) : (s.setBox d b).box d = b :=
  PerDomain.get_set_same _ _ _

@[simp] theorem State.tamper_setTamper_same (s : State) (i : TamperInput) (t : Tamper) :
    (s.setTamper i t).tamper i = t := PerTamper.get_set_same _ _ _

@[simp] theorem State.key_setKey_same (s : State) (k : Key) (v : SideKey) : (s.setKey k v).key k = v :=
  PerKey.get_set_same _ _ _

@[simp] theorem State.switch_bars_setQueue (s : State) (d : Domain) (q : DeliveryQueue) :
    (s.setQueue d q).switch.bars = s.switch.bars := rfl

@[simp] theorem State.switch_levels_setQueue (s : State) (d : Domain) (q : DeliveryQueue) :
    (s.setQueue d q).switch.levels = s.switch.levels := rfl

@[simp] theorem State.switch_refillTimer_setQueue (s : State) (d : Domain) (q : DeliveryQueue) :
    (s.setQueue d q).switch.refillTimer = s.switch.refillTimer := rfl

@[simp] theorem State.ctl_setCtl (s : State) (c : Controller) : (s.setCtl c).ctl = c := rfl

@[simp] theorem State.gate_setGate (s : State) (g : Gate) : (s.setGate g).gate = g := rfl

@[simp] theorem State.sup_setSup (s : State) (u : Supervisor) : (s.setSup u).sup = u := rfl

/-! ### Fields that `setPort` leaves alone -/

@[simp] theorem State.pending_setPort (s : State) (d : Domain) (p : Port) :
    (s.setPort d p).pending = s.pending := rfl

@[simp] theorem State.inReset_setPort (s : State) (d : Domain) (p : Port) :
    (s.setPort d p).inReset = s.inReset := rfl

@[simp] theorem State.entryEnd_setPort (s : State) (d : Domain) (p : Port) :
    (s.setPort d p).entryEnd = s.entryEnd := rfl

@[simp] theorem State.progress_setPort (s : State) (d : Domain) (p : Port) :
    (s.setPort d p).progress = s.progress := rfl

@[simp] theorem State.inputs_setPort (s : State) (d : Domain) (p : Port) :
    (s.setPort d p).inputs = s.inputs := rfl

@[simp] theorem State.lost_setPort (s : State) (d : Domain) (p : Port) :
    (s.setPort d p).lost = s.lost := rfl

@[simp] theorem State.staging_setPort (s : State) (d : Domain) (p : Port) :
    (s.setPort d p).staging = s.staging := rfl

@[simp] theorem State.active_setPort (s : State) (d : Domain) (p : Port) :
    (s.setPort d p).active = s.active := rfl

@[simp] theorem State.generation_setPort (s : State) (d : Domain) (p : Port) :
    (s.setPort d p).generation = s.generation := rfl

@[simp] theorem State.switch_setPort (s : State) (d : Domain) (p : Port) :
    (s.setPort d p).switch = s.switch := rfl

@[simp] theorem State.frontEnd_setPort (s : State) (d : Domain) (p : Port) :
    (s.setPort d p).frontEnd = s.frontEnd := rfl

@[simp] theorem State.adc_setPort (s : State) (d : Domain) (p : Port) :
    (s.setPort d p).adc = s.adc := rfl

@[simp] theorem State.mapper_setPort (s : State) (d : Domain) (p : Port) :
    (s.setPort d p).mapper = s.mapper := rfl

@[simp] theorem State.keys_setPort (s : State) (d : Domain) (p : Port) :
    (s.setPort d p).keys = s.keys := rfl

@[simp] theorem State.ctl_setPort (s : State) (d : Domain) (p : Port) :
    (s.setPort d p).ctl = s.ctl := rfl

@[simp] theorem State.gate_setPort (s : State) (d : Domain) (p : Port) :
    (s.setPort d p).gate = s.gate := rfl

@[simp] theorem State.sup_setPort (s : State) (d : Domain) (p : Port) :
    (s.setPort d p).sup = s.sup := rfl

@[simp] theorem State.notices_setPort (s : State) (d : Domain) (p : Port) :
    (s.setPort d p).notices = s.notices := rfl

@[simp] theorem State.reports_setPort (s : State) (d : Domain) (p : Port) :
    (s.setPort d p).reports = s.reports := rfl

@[simp] theorem State.arbiterCount_setPort (s : State) (d : Domain) (p : Port) :
    (s.setPort d p).arbiterCount = s.arbiterCount := rfl

@[simp] theorem State.queue_setPort (s : State) (d : Domain) (p : Port) (e : Domain) :
    (s.setPort d p).queue e = s.queue e := rfl

@[simp] theorem State.box_setPort (s : State) (d : Domain) (p : Port) (e : Domain) :
    (s.setPort d p).box e = s.box e := rfl

@[simp] theorem State.tamper_setPort (s : State) (d : Domain) (p : Port) (j : TamperInput) :
    (s.setPort d p).tamper j = s.tamper j := rfl

@[simp] theorem State.key_setPort (s : State) (d : Domain) (p : Port) (l : Key) :
    (s.setPort d p).key l = s.key l := rfl

/-! ### Fields that `setQueue` leaves alone -/

@[simp] theorem State.pending_setQueue (s : State) (d : Domain) (q : DeliveryQueue) :
    (s.setQueue d q).pending = s.pending := rfl

@[simp] theorem State.inReset_setQueue (s : State) (d : Domain) (q : DeliveryQueue) :
    (s.setQueue d q).inReset = s.inReset := rfl

@[simp] theorem State.ports_setQueue (s : State) (d : Domain) (q : DeliveryQueue) :
    (s.setQueue d q).ports = s.ports := rfl

@[simp] theorem State.entryEnd_setQueue (s : State) (d : Domain) (q : DeliveryQueue) :
    (s.setQueue d q).entryEnd = s.entryEnd := rfl

@[simp] theorem State.progress_setQueue (s : State) (d : Domain) (q : DeliveryQueue) :
    (s.setQueue d q).progress = s.progress := rfl

@[simp] theorem State.inputs_setQueue (s : State) (d : Domain) (q : DeliveryQueue) :
    (s.setQueue d q).inputs = s.inputs := rfl

@[simp] theorem State.lost_setQueue (s : State) (d : Domain) (q : DeliveryQueue) :
    (s.setQueue d q).lost = s.lost := rfl

@[simp] theorem State.staging_setQueue (s : State) (d : Domain) (q : DeliveryQueue) :
    (s.setQueue d q).staging = s.staging := rfl

@[simp] theorem State.active_setQueue (s : State) (d : Domain) (q : DeliveryQueue) :
    (s.setQueue d q).active = s.active := rfl

@[simp] theorem State.generation_setQueue (s : State) (d : Domain) (q : DeliveryQueue) :
    (s.setQueue d q).generation = s.generation := rfl

@[simp] theorem State.frontEnd_setQueue (s : State) (d : Domain) (q : DeliveryQueue) :
    (s.setQueue d q).frontEnd = s.frontEnd := rfl

@[simp] theorem State.adc_setQueue (s : State) (d : Domain) (q : DeliveryQueue) :
    (s.setQueue d q).adc = s.adc := rfl

@[simp] theorem State.mapper_setQueue (s : State) (d : Domain) (q : DeliveryQueue) :
    (s.setQueue d q).mapper = s.mapper := rfl

@[simp] theorem State.keys_setQueue (s : State) (d : Domain) (q : DeliveryQueue) :
    (s.setQueue d q).keys = s.keys := rfl

@[simp] theorem State.ctl_setQueue (s : State) (d : Domain) (q : DeliveryQueue) :
    (s.setQueue d q).ctl = s.ctl := rfl

@[simp] theorem State.gate_setQueue (s : State) (d : Domain) (q : DeliveryQueue) :
    (s.setQueue d q).gate = s.gate := rfl

@[simp] theorem State.sup_setQueue (s : State) (d : Domain) (q : DeliveryQueue) :
    (s.setQueue d q).sup = s.sup := rfl

@[simp] theorem State.notices_setQueue (s : State) (d : Domain) (q : DeliveryQueue) :
    (s.setQueue d q).notices = s.notices := rfl

@[simp] theorem State.reports_setQueue (s : State) (d : Domain) (q : DeliveryQueue) :
    (s.setQueue d q).reports = s.reports := rfl

@[simp] theorem State.arbiterCount_setQueue (s : State) (d : Domain) (q : DeliveryQueue) :
    (s.setQueue d q).arbiterCount = s.arbiterCount := rfl

@[simp] theorem State.port_setQueue (s : State) (d : Domain) (q : DeliveryQueue) (e : Domain) :
    (s.setQueue d q).port e = s.port e := rfl

@[simp] theorem State.box_setQueue (s : State) (d : Domain) (q : DeliveryQueue) (e : Domain) :
    (s.setQueue d q).box e = s.box e := rfl

@[simp] theorem State.tamper_setQueue (s : State) (d : Domain) (q : DeliveryQueue) (j : TamperInput) :
    (s.setQueue d q).tamper j = s.tamper j := rfl

@[simp] theorem State.key_setQueue (s : State) (d : Domain) (q : DeliveryQueue) (l : Key) :
    (s.setQueue d q).key l = s.key l := rfl

/-! ### Fields that `setBox` leaves alone -/

@[simp] theorem State.pending_setBox (s : State) (d : Domain) (b : NoticeBox) :
    (s.setBox d b).pending = s.pending := rfl

@[simp] theorem State.inReset_setBox (s : State) (d : Domain) (b : NoticeBox) :
    (s.setBox d b).inReset = s.inReset := rfl

@[simp] theorem State.ports_setBox (s : State) (d : Domain) (b : NoticeBox) :
    (s.setBox d b).ports = s.ports := rfl

@[simp] theorem State.entryEnd_setBox (s : State) (d : Domain) (b : NoticeBox) :
    (s.setBox d b).entryEnd = s.entryEnd := rfl

@[simp] theorem State.progress_setBox (s : State) (d : Domain) (b : NoticeBox) :
    (s.setBox d b).progress = s.progress := rfl

@[simp] theorem State.inputs_setBox (s : State) (d : Domain) (b : NoticeBox) :
    (s.setBox d b).inputs = s.inputs := rfl

@[simp] theorem State.lost_setBox (s : State) (d : Domain) (b : NoticeBox) :
    (s.setBox d b).lost = s.lost := rfl

@[simp] theorem State.staging_setBox (s : State) (d : Domain) (b : NoticeBox) :
    (s.setBox d b).staging = s.staging := rfl

@[simp] theorem State.active_setBox (s : State) (d : Domain) (b : NoticeBox) :
    (s.setBox d b).active = s.active := rfl

@[simp] theorem State.generation_setBox (s : State) (d : Domain) (b : NoticeBox) :
    (s.setBox d b).generation = s.generation := rfl

@[simp] theorem State.switch_setBox (s : State) (d : Domain) (b : NoticeBox) :
    (s.setBox d b).switch = s.switch := rfl

@[simp] theorem State.frontEnd_setBox (s : State) (d : Domain) (b : NoticeBox) :
    (s.setBox d b).frontEnd = s.frontEnd := rfl

@[simp] theorem State.adc_setBox (s : State) (d : Domain) (b : NoticeBox) :
    (s.setBox d b).adc = s.adc := rfl

@[simp] theorem State.mapper_setBox (s : State) (d : Domain) (b : NoticeBox) :
    (s.setBox d b).mapper = s.mapper := rfl

@[simp] theorem State.keys_setBox (s : State) (d : Domain) (b : NoticeBox) :
    (s.setBox d b).keys = s.keys := rfl

@[simp] theorem State.ctl_setBox (s : State) (d : Domain) (b : NoticeBox) :
    (s.setBox d b).ctl = s.ctl := rfl

@[simp] theorem State.gate_setBox (s : State) (d : Domain) (b : NoticeBox) :
    (s.setBox d b).gate = s.gate := rfl

@[simp] theorem State.sup_setBox (s : State) (d : Domain) (b : NoticeBox) :
    (s.setBox d b).sup = s.sup := rfl

@[simp] theorem State.reports_setBox (s : State) (d : Domain) (b : NoticeBox) :
    (s.setBox d b).reports = s.reports := rfl

@[simp] theorem State.arbiterCount_setBox (s : State) (d : Domain) (b : NoticeBox) :
    (s.setBox d b).arbiterCount = s.arbiterCount := rfl

@[simp] theorem State.port_setBox (s : State) (d : Domain) (b : NoticeBox) (e : Domain) :
    (s.setBox d b).port e = s.port e := rfl

@[simp] theorem State.queue_setBox (s : State) (d : Domain) (b : NoticeBox) (e : Domain) :
    (s.setBox d b).queue e = s.queue e := rfl

@[simp] theorem State.tamper_setBox (s : State) (d : Domain) (b : NoticeBox) (j : TamperInput) :
    (s.setBox d b).tamper j = s.tamper j := rfl

@[simp] theorem State.key_setBox (s : State) (d : Domain) (b : NoticeBox) (l : Key) :
    (s.setBox d b).key l = s.key l := rfl

/-! ### Fields that `setCtl` leaves alone -/

@[simp] theorem State.pending_setCtl (s : State) (c : Controller) :
    (s.setCtl c).pending = s.pending := rfl

@[simp] theorem State.inReset_setCtl (s : State) (c : Controller) :
    (s.setCtl c).inReset = s.inReset := rfl

@[simp] theorem State.ports_setCtl (s : State) (c : Controller) :
    (s.setCtl c).ports = s.ports := rfl

@[simp] theorem State.entryEnd_setCtl (s : State) (c : Controller) :
    (s.setCtl c).entryEnd = s.entryEnd := rfl

@[simp] theorem State.progress_setCtl (s : State) (c : Controller) :
    (s.setCtl c).progress = s.progress := rfl

@[simp] theorem State.inputs_setCtl (s : State) (c : Controller) :
    (s.setCtl c).inputs = s.inputs := rfl

@[simp] theorem State.lost_setCtl (s : State) (c : Controller) :
    (s.setCtl c).lost = s.lost := rfl

@[simp] theorem State.staging_setCtl (s : State) (c : Controller) :
    (s.setCtl c).staging = s.staging := rfl

@[simp] theorem State.active_setCtl (s : State) (c : Controller) :
    (s.setCtl c).active = s.active := rfl

@[simp] theorem State.generation_setCtl (s : State) (c : Controller) :
    (s.setCtl c).generation = s.generation := rfl

@[simp] theorem State.switch_setCtl (s : State) (c : Controller) :
    (s.setCtl c).switch = s.switch := rfl

@[simp] theorem State.frontEnd_setCtl (s : State) (c : Controller) :
    (s.setCtl c).frontEnd = s.frontEnd := rfl

@[simp] theorem State.adc_setCtl (s : State) (c : Controller) :
    (s.setCtl c).adc = s.adc := rfl

@[simp] theorem State.mapper_setCtl (s : State) (c : Controller) :
    (s.setCtl c).mapper = s.mapper := rfl

@[simp] theorem State.keys_setCtl (s : State) (c : Controller) :
    (s.setCtl c).keys = s.keys := rfl

@[simp] theorem State.gate_setCtl (s : State) (c : Controller) :
    (s.setCtl c).gate = s.gate := rfl

@[simp] theorem State.sup_setCtl (s : State) (c : Controller) :
    (s.setCtl c).sup = s.sup := rfl

@[simp] theorem State.notices_setCtl (s : State) (c : Controller) :
    (s.setCtl c).notices = s.notices := rfl

@[simp] theorem State.reports_setCtl (s : State) (c : Controller) :
    (s.setCtl c).reports = s.reports := rfl

@[simp] theorem State.arbiterCount_setCtl (s : State) (c : Controller) :
    (s.setCtl c).arbiterCount = s.arbiterCount := rfl

@[simp] theorem State.port_setCtl (s : State) (c : Controller) (e : Domain) :
    (s.setCtl c).port e = s.port e := rfl

@[simp] theorem State.queue_setCtl (s : State) (c : Controller) (e : Domain) :
    (s.setCtl c).queue e = s.queue e := rfl

@[simp] theorem State.box_setCtl (s : State) (c : Controller) (e : Domain) :
    (s.setCtl c).box e = s.box e := rfl

@[simp] theorem State.tamper_setCtl (s : State) (c : Controller) (j : TamperInput) :
    (s.setCtl c).tamper j = s.tamper j := rfl

@[simp] theorem State.key_setCtl (s : State) (c : Controller) (l : Key) :
    (s.setCtl c).key l = s.key l := rfl

/-! ### Fields that `setGate` leaves alone -/

@[simp] theorem State.pending_setGate (s : State) (g : Gate) :
    (s.setGate g).pending = s.pending := rfl

@[simp] theorem State.inReset_setGate (s : State) (g : Gate) :
    (s.setGate g).inReset = s.inReset := rfl

@[simp] theorem State.ports_setGate (s : State) (g : Gate) :
    (s.setGate g).ports = s.ports := rfl

@[simp] theorem State.entryEnd_setGate (s : State) (g : Gate) :
    (s.setGate g).entryEnd = s.entryEnd := rfl

@[simp] theorem State.progress_setGate (s : State) (g : Gate) :
    (s.setGate g).progress = s.progress := rfl

@[simp] theorem State.inputs_setGate (s : State) (g : Gate) :
    (s.setGate g).inputs = s.inputs := rfl

@[simp] theorem State.lost_setGate (s : State) (g : Gate) :
    (s.setGate g).lost = s.lost := rfl

@[simp] theorem State.staging_setGate (s : State) (g : Gate) :
    (s.setGate g).staging = s.staging := rfl

@[simp] theorem State.active_setGate (s : State) (g : Gate) :
    (s.setGate g).active = s.active := rfl

@[simp] theorem State.generation_setGate (s : State) (g : Gate) :
    (s.setGate g).generation = s.generation := rfl

@[simp] theorem State.switch_setGate (s : State) (g : Gate) :
    (s.setGate g).switch = s.switch := rfl

@[simp] theorem State.frontEnd_setGate (s : State) (g : Gate) :
    (s.setGate g).frontEnd = s.frontEnd := rfl

@[simp] theorem State.adc_setGate (s : State) (g : Gate) :
    (s.setGate g).adc = s.adc := rfl

@[simp] theorem State.mapper_setGate (s : State) (g : Gate) :
    (s.setGate g).mapper = s.mapper := rfl

@[simp] theorem State.keys_setGate (s : State) (g : Gate) :
    (s.setGate g).keys = s.keys := rfl

@[simp] theorem State.ctl_setGate (s : State) (g : Gate) :
    (s.setGate g).ctl = s.ctl := rfl

@[simp] theorem State.sup_setGate (s : State) (g : Gate) :
    (s.setGate g).sup = s.sup := rfl

@[simp] theorem State.notices_setGate (s : State) (g : Gate) :
    (s.setGate g).notices = s.notices := rfl

@[simp] theorem State.reports_setGate (s : State) (g : Gate) :
    (s.setGate g).reports = s.reports := rfl

@[simp] theorem State.arbiterCount_setGate (s : State) (g : Gate) :
    (s.setGate g).arbiterCount = s.arbiterCount := rfl

@[simp] theorem State.port_setGate (s : State) (g : Gate) (e : Domain) :
    (s.setGate g).port e = s.port e := rfl

@[simp] theorem State.queue_setGate (s : State) (g : Gate) (e : Domain) :
    (s.setGate g).queue e = s.queue e := rfl

@[simp] theorem State.box_setGate (s : State) (g : Gate) (e : Domain) :
    (s.setGate g).box e = s.box e := rfl

@[simp] theorem State.tamper_setGate (s : State) (g : Gate) (j : TamperInput) :
    (s.setGate g).tamper j = s.tamper j := rfl

@[simp] theorem State.key_setGate (s : State) (g : Gate) (l : Key) :
    (s.setGate g).key l = s.key l := rfl

/-! ### Fields that `setSup` leaves alone -/

@[simp] theorem State.pending_setSup (s : State) (u : Supervisor) :
    (s.setSup u).pending = s.pending := rfl

@[simp] theorem State.inReset_setSup (s : State) (u : Supervisor) :
    (s.setSup u).inReset = s.inReset := rfl

@[simp] theorem State.ports_setSup (s : State) (u : Supervisor) :
    (s.setSup u).ports = s.ports := rfl

@[simp] theorem State.entryEnd_setSup (s : State) (u : Supervisor) :
    (s.setSup u).entryEnd = s.entryEnd := rfl

@[simp] theorem State.progress_setSup (s : State) (u : Supervisor) :
    (s.setSup u).progress = s.progress := rfl

@[simp] theorem State.inputs_setSup (s : State) (u : Supervisor) :
    (s.setSup u).inputs = s.inputs := rfl

@[simp] theorem State.lost_setSup (s : State) (u : Supervisor) :
    (s.setSup u).lost = s.lost := rfl

@[simp] theorem State.staging_setSup (s : State) (u : Supervisor) :
    (s.setSup u).staging = s.staging := rfl

@[simp] theorem State.active_setSup (s : State) (u : Supervisor) :
    (s.setSup u).active = s.active := rfl

@[simp] theorem State.generation_setSup (s : State) (u : Supervisor) :
    (s.setSup u).generation = s.generation := rfl

@[simp] theorem State.switch_setSup (s : State) (u : Supervisor) :
    (s.setSup u).switch = s.switch := rfl

@[simp] theorem State.frontEnd_setSup (s : State) (u : Supervisor) :
    (s.setSup u).frontEnd = s.frontEnd := rfl

@[simp] theorem State.adc_setSup (s : State) (u : Supervisor) :
    (s.setSup u).adc = s.adc := rfl

@[simp] theorem State.mapper_setSup (s : State) (u : Supervisor) :
    (s.setSup u).mapper = s.mapper := rfl

@[simp] theorem State.keys_setSup (s : State) (u : Supervisor) :
    (s.setSup u).keys = s.keys := rfl

@[simp] theorem State.ctl_setSup (s : State) (u : Supervisor) :
    (s.setSup u).ctl = s.ctl := rfl

@[simp] theorem State.gate_setSup (s : State) (u : Supervisor) :
    (s.setSup u).gate = s.gate := rfl

@[simp] theorem State.notices_setSup (s : State) (u : Supervisor) :
    (s.setSup u).notices = s.notices := rfl

@[simp] theorem State.reports_setSup (s : State) (u : Supervisor) :
    (s.setSup u).reports = s.reports := rfl

@[simp] theorem State.arbiterCount_setSup (s : State) (u : Supervisor) :
    (s.setSup u).arbiterCount = s.arbiterCount := rfl

@[simp] theorem State.port_setSup (s : State) (u : Supervisor) (e : Domain) :
    (s.setSup u).port e = s.port e := rfl

@[simp] theorem State.queue_setSup (s : State) (u : Supervisor) (e : Domain) :
    (s.setSup u).queue e = s.queue e := rfl

@[simp] theorem State.box_setSup (s : State) (u : Supervisor) (e : Domain) :
    (s.setSup u).box e = s.box e := rfl

@[simp] theorem State.key_setSup (s : State) (u : Supervisor) (l : Key) :
    (s.setSup u).key l = s.key l := rfl

/-! ### Fields that `setTamper` leaves alone -/

@[simp] theorem State.pending_setTamper (s : State) (i : TamperInput) (t : Tamper) :
    (s.setTamper i t).pending = s.pending := rfl

@[simp] theorem State.inReset_setTamper (s : State) (i : TamperInput) (t : Tamper) :
    (s.setTamper i t).inReset = s.inReset := rfl

@[simp] theorem State.ports_setTamper (s : State) (i : TamperInput) (t : Tamper) :
    (s.setTamper i t).ports = s.ports := rfl

@[simp] theorem State.entryEnd_setTamper (s : State) (i : TamperInput) (t : Tamper) :
    (s.setTamper i t).entryEnd = s.entryEnd := rfl

@[simp] theorem State.progress_setTamper (s : State) (i : TamperInput) (t : Tamper) :
    (s.setTamper i t).progress = s.progress := rfl

@[simp] theorem State.inputs_setTamper (s : State) (i : TamperInput) (t : Tamper) :
    (s.setTamper i t).inputs = s.inputs := rfl

@[simp] theorem State.lost_setTamper (s : State) (i : TamperInput) (t : Tamper) :
    (s.setTamper i t).lost = s.lost := rfl

@[simp] theorem State.staging_setTamper (s : State) (i : TamperInput) (t : Tamper) :
    (s.setTamper i t).staging = s.staging := rfl

@[simp] theorem State.active_setTamper (s : State) (i : TamperInput) (t : Tamper) :
    (s.setTamper i t).active = s.active := rfl

@[simp] theorem State.generation_setTamper (s : State) (i : TamperInput) (t : Tamper) :
    (s.setTamper i t).generation = s.generation := rfl

@[simp] theorem State.switch_setTamper (s : State) (i : TamperInput) (t : Tamper) :
    (s.setTamper i t).switch = s.switch := rfl

@[simp] theorem State.frontEnd_setTamper (s : State) (i : TamperInput) (t : Tamper) :
    (s.setTamper i t).frontEnd = s.frontEnd := rfl

@[simp] theorem State.adc_setTamper (s : State) (i : TamperInput) (t : Tamper) :
    (s.setTamper i t).adc = s.adc := rfl

@[simp] theorem State.mapper_setTamper (s : State) (i : TamperInput) (t : Tamper) :
    (s.setTamper i t).mapper = s.mapper := rfl

@[simp] theorem State.keys_setTamper (s : State) (i : TamperInput) (t : Tamper) :
    (s.setTamper i t).keys = s.keys := rfl

@[simp] theorem State.ctl_setTamper (s : State) (i : TamperInput) (t : Tamper) :
    (s.setTamper i t).ctl = s.ctl := rfl

@[simp] theorem State.gate_setTamper (s : State) (i : TamperInput) (t : Tamper) :
    (s.setTamper i t).gate = s.gate := rfl

@[simp] theorem State.notices_setTamper (s : State) (i : TamperInput) (t : Tamper) :
    (s.setTamper i t).notices = s.notices := rfl

@[simp] theorem State.reports_setTamper (s : State) (i : TamperInput) (t : Tamper) :
    (s.setTamper i t).reports = s.reports := rfl

@[simp] theorem State.arbiterCount_setTamper (s : State) (i : TamperInput) (t : Tamper) :
    (s.setTamper i t).arbiterCount = s.arbiterCount := rfl

@[simp] theorem State.port_setTamper (s : State) (i : TamperInput) (t : Tamper) (e : Domain) :
    (s.setTamper i t).port e = s.port e := rfl

@[simp] theorem State.queue_setTamper (s : State) (i : TamperInput) (t : Tamper) (e : Domain) :
    (s.setTamper i t).queue e = s.queue e := rfl

@[simp] theorem State.box_setTamper (s : State) (i : TamperInput) (t : Tamper) (e : Domain) :
    (s.setTamper i t).box e = s.box e := rfl

@[simp] theorem State.key_setTamper (s : State) (i : TamperInput) (t : Tamper) (l : Key) :
    (s.setTamper i t).key l = s.key l := rfl

/-! ### Fields that `setKey` leaves alone -/

@[simp] theorem State.pending_setKey (s : State) (k : Key) (v : SideKey) :
    (s.setKey k v).pending = s.pending := rfl

@[simp] theorem State.inReset_setKey (s : State) (k : Key) (v : SideKey) :
    (s.setKey k v).inReset = s.inReset := rfl

@[simp] theorem State.ports_setKey (s : State) (k : Key) (v : SideKey) :
    (s.setKey k v).ports = s.ports := rfl

@[simp] theorem State.entryEnd_setKey (s : State) (k : Key) (v : SideKey) :
    (s.setKey k v).entryEnd = s.entryEnd := rfl

@[simp] theorem State.progress_setKey (s : State) (k : Key) (v : SideKey) :
    (s.setKey k v).progress = s.progress := rfl

@[simp] theorem State.inputs_setKey (s : State) (k : Key) (v : SideKey) :
    (s.setKey k v).inputs = s.inputs := rfl

@[simp] theorem State.lost_setKey (s : State) (k : Key) (v : SideKey) :
    (s.setKey k v).lost = s.lost := rfl

@[simp] theorem State.staging_setKey (s : State) (k : Key) (v : SideKey) :
    (s.setKey k v).staging = s.staging := rfl

@[simp] theorem State.active_setKey (s : State) (k : Key) (v : SideKey) :
    (s.setKey k v).active = s.active := rfl

@[simp] theorem State.generation_setKey (s : State) (k : Key) (v : SideKey) :
    (s.setKey k v).generation = s.generation := rfl

@[simp] theorem State.switch_setKey (s : State) (k : Key) (v : SideKey) :
    (s.setKey k v).switch = s.switch := rfl

@[simp] theorem State.frontEnd_setKey (s : State) (k : Key) (v : SideKey) :
    (s.setKey k v).frontEnd = s.frontEnd := rfl

@[simp] theorem State.adc_setKey (s : State) (k : Key) (v : SideKey) :
    (s.setKey k v).adc = s.adc := rfl

@[simp] theorem State.mapper_setKey (s : State) (k : Key) (v : SideKey) :
    (s.setKey k v).mapper = s.mapper := rfl

@[simp] theorem State.ctl_setKey (s : State) (k : Key) (v : SideKey) :
    (s.setKey k v).ctl = s.ctl := rfl

@[simp] theorem State.gate_setKey (s : State) (k : Key) (v : SideKey) :
    (s.setKey k v).gate = s.gate := rfl

@[simp] theorem State.sup_setKey (s : State) (k : Key) (v : SideKey) :
    (s.setKey k v).sup = s.sup := rfl

@[simp] theorem State.notices_setKey (s : State) (k : Key) (v : SideKey) :
    (s.setKey k v).notices = s.notices := rfl

@[simp] theorem State.reports_setKey (s : State) (k : Key) (v : SideKey) :
    (s.setKey k v).reports = s.reports := rfl

@[simp] theorem State.arbiterCount_setKey (s : State) (k : Key) (v : SideKey) :
    (s.setKey k v).arbiterCount = s.arbiterCount := rfl

@[simp] theorem State.port_setKey (s : State) (k : Key) (v : SideKey) (e : Domain) :
    (s.setKey k v).port e = s.port e := rfl

@[simp] theorem State.queue_setKey (s : State) (k : Key) (v : SideKey) (e : Domain) :
    (s.setKey k v).queue e = s.queue e := rfl

@[simp] theorem State.box_setKey (s : State) (k : Key) (v : SideKey) (e : Domain) :
    (s.setKey k v).box e = s.box e := rfl

@[simp] theorem State.tamper_setKey (s : State) (k : Key) (v : SideKey) (j : TamperInput) :
    (s.setKey k v).tamper j = s.tamper j := rfl

end Sys2Proof.Machine
end

