-- ==== Sys2Proof/Laws/Frames.lean ====
section
/-! SUPPORT. What the shared operations leave alone. `SessionOnly s t` says once what the entry controller, the gate
and the switch's purges can change; `TransmitOnly s t` what the transmitters' choice and the stall timers can. Both
are transitive, with one lemma for each operation. -/

namespace Sys2Proof.Machine

open Sys2Proof

/-! ### What the controller, the gate and the purges can change -/

/-- From `s` to `t` nothing changed but what the entry controller, the gate, the notice unit and the purges act on:
controller, gate, reports, ENTRY-END, progress and input queues, lost mark, delivery queues, notice boxes, PAY
silence timer. -/
structure SessionOnly (s t : State) : Prop where
  pending : t.pending = s.pending
  inReset : t.inReset = s.inReset
  ports : t.ports = s.ports
  staging : t.staging = s.staging
  active : t.active = s.active
  generation : t.generation = s.generation
  frontEnd : t.frontEnd = s.frontEnd
  adc : t.adc = s.adc
  mapper : t.mapper = s.mapper
  keys : t.keys = s.keys
  arbiterCount : t.arbiterCount = s.arbiterCount
  bars : t.switch.bars = s.switch.bars
  levels : t.switch.levels = s.switch.levels
  refillTimer : t.switch.refillTimer = s.switch.refillTimer
  requestTimer : t.sup.requestTimer = s.sup.requestTimer
  measurement : t.sup.measurement = s.sup.measurement
  level : t.sup.level = s.sup.level
  tamper : t.sup.tamper = s.sup.tamper

namespace SessionOnly

theorem refl (s : State) : SessionOnly s s := by constructor <;> rfl

theorem trans {s t u : State} (h : SessionOnly s t) (k : SessionOnly t u) : SessionOnly s u := by
  constructor
  · exact k.pending.trans h.pending
  · exact k.inReset.trans h.inReset
  · exact k.ports.trans h.ports
  · exact k.staging.trans h.staging
  · exact k.active.trans h.active
  · exact k.generation.trans h.generation
  · exact k.frontEnd.trans h.frontEnd
  · exact k.adc.trans h.adc
  · exact k.mapper.trans h.mapper
  · exact k.keys.trans h.keys
  · exact k.arbiterCount.trans h.arbiterCount
  · exact k.bars.trans h.bars
  · exact k.levels.trans h.levels
  · exact k.refillTimer.trans h.refillTimer
  · exact k.requestTimer.trans h.requestTimer
  · exact k.measurement.trans h.measurement
  · exact k.level.trans h.level
  · exact k.tamper.trans h.tamper

theorem foldl {α : Type} {f : State → α → State} (h : ∀ s a, SessionOnly s (f s a)) (l : List α) (s : State) :
    SessionOnly s (l.foldl f s) := by
  induction l generalizing s with
  | nil => exact refl s
  | cons a l ih => exact (h s a).trans (ih (f s a))

theorem ite {s t u : State} {c : Prop} [Decidable c] (h : SessionOnly s t) (k : SessionOnly s u) :
    SessionOnly s (if c then t else u) := by split <;> assumption

end SessionOnly

theorem setCtl_only (s : State) (c : Controller) : SessionOnly s (s.setCtl c) := by constructor <;> rfl

theorem setGate_only (s : State) (g : Gate) : SessionOnly s (s.setGate g) := by constructor <;> rfl

theorem setQueue_only (s : State) (d : Domain) (q : DeliveryQueue) : SessionOnly s (s.setQueue d q) := by
  constructor <;> rfl

theorem setBox_only (s : State) (d : Domain) (b : NoticeBox) : SessionOnly s (s.setBox d b) := by
  constructor <;> rfl

theorem setFlag_only (d : Domain) (f : Flag) (s : State) : SessionOnly s (setFlag d f s) := setBox_only _ _ _

theorem takeNoticeModes_only (s : State) : SessionOnly s (takeNoticeModes s) :=
  SessionOnly.foldl (fun _ _ => setBox_only _ _ _) _ _

theorem noticeLinkReset_only (d : Domain) (s : State) : SessionOnly s (noticeLinkReset d s) :=
  (setBox_only s d _).trans (setFlag_only _ _ _)

theorem gateDo_only (f : Gate → Gate × List GateReport) (s : State) : SessionOnly s (gateDo f s) := by
  constructor <;> rfl

theorem startSilence_only (s : State) : SessionOnly s (startSilence s) := by constructor <;> rfl

theorem restartSilence_only (s : State) : SessionOnly s (restartSilence s) :=
  SessionOnly.ite (startSilence_only s) (SessionOnly.refl s)

theorem disarmSilence_only (s : State) : SessionOnly s (disarmSilence s) := by constructor <;> rfl

theorem judgeSpaceOf_only (d source : Domain) (s : State) : SessionOnly s (judgeSpaceOf d source s) :=
  SessionOnly.foldl
    (fun s _ => SessionOnly.ite ((setQueue_only s d _).trans (setFlag_only _ _ _)) (SessionOnly.refl s)) _ _

theorem judgeSpace_only (d : Domain) (s : State) : SessionOnly s (judgeSpace d s) :=
  SessionOnly.foldl (fun s source => judgeSpaceOf_only d source s) _ _

theorem removeFrom_only (d : Domain) (gone : Entry → Bool) (s : State) : SessionOnly s (removeFrom d gone s) :=
  setQueue_only _ _ _

theorem purgeQueue_only (gone : Entry → Bool) (s : State) (d : Domain) : SessionOnly s (purgeQueue gone s d) :=
  SessionOnly.ite (SessionOnly.refl s) ((removeFrom_only d gone s).trans (judgeSpace_only d _))

theorem purge_only (gone : Entry → Bool) (s : State) : SessionOnly s (purge gone s) :=
  SessionOnly.foldl (fun s d => purgeQueue_only (spares gone) s d) _ _

theorem mapEntries_only (f : Entry → Entry) (s : State) : SessionOnly s (mapEntries f s) :=
  SessionOnly.foldl (fun _ _ => setQueue_only _ _ _) _ _

theorem markHeld_only (s : State) : SessionOnly s (markHeld s) := mapEntries_only _ _

theorem releaseHeld_only (s : State) : SessionOnly s (releaseHeld s) := mapEntries_only _ _

theorem remarkHeld_only (s : State) : SessionOnly s (remarkHeld s) := mapEntries_only _ _

theorem lockedPurge_only (s : State) : SessionOnly s (lockedPurge s) := purge_only _ _

theorem deliveryDone_only (d : Domain) (s : State) : SessionOnly s (deliveryDone d s) :=
  (removeFrom_only d _ s).trans (judgeSpace_only d _)

theorem clearMarksOf_only (d : Domain) (s : State) : SessionOnly s (clearMarksOf d s) :=
  SessionOnly.foldl (fun _ _ => setQueue_only _ _ _) _ _

theorem switchLinkReset_only (d : Domain) (s : State) : SessionOnly s (switchLinkReset d s) :=
  ((clearMarksOf_only d s).trans (purgeQueue_only _ _ d)).trans (setQueue_only _ d _)

theorem queueInput_only (e : InputEvent) (s : State) : SessionOnly s (queueInput e s) := by constructor <;> rfl

theorem pushProgress_only (e : ProgressEvent) (n : Nat) (s : State) : SessionOnly s (pushProgress e n s) := by
  constructor <;> rfl

theorem writeSet_only (o : OverlaySet) (s : State) : SessionOnly s (writeSet o s) := gateDo_only _ _

theorem askLocal_only (s : State) : SessionOnly s (askLocal s) := gateDo_only _ _

theorem askFollow_only (s : State) : SessionOnly s (askFollow s) := gateDo_only _ _

theorem cancelStroke_only (s : State) : SessionOnly s (cancelStroke s) := by
  unfold cancelStroke
  split
  · exact SessionOnly.refl s
  · exact (queueInput_only _ s).trans (setCtl_only _ _)

theorem cancelKey_only (s : State) (k : Key) : SessionOnly s (cancelKey s k) :=
  SessionOnly.ite ((queueInput_only _ s).trans (setCtl_only _ _)) (SessionOnly.refl s)

theorem leaveOpen_only (s : State) : SessionOnly s (leaveOpen s) :=
  (((cancelStroke_only s).trans (SessionOnly.foldl cancelKey_only _ _)).trans (queueInput_only _ _)).trans
    (markHeld_only _)

theorem enterOpen_only (s : State) : SessionOnly s (enterOpen s) :=
  (((setCtl_only s _).trans (releaseHeld_only _)).trans (queueInput_only _ _)).trans (disarmSilence_only _)

theorem enterReleasing_only (s : State) : SessionOnly s (enterReleasing s) :=
  SessionOnly.ite ((setCtl_only s _).trans (enterOpen_only _)) (setCtl_only s _)

theorem entryEnd_only (s : State) (e : Option EntryEnd) : SessionOnly s { s with entryEnd := e } := by
  constructor <;> rfl

theorem removeOverlay_only (p : SessionPresentation) (s : State) : SessionOnly s (removeOverlay p s) :=
  SessionOnly.ite ((writeSet_only _ s).trans (askFollow_only _)) (writeSet_only _ s)

theorem endSecure_only (o : SessionOutcome) (r : Session) (s : State) : SessionOnly s (endSecure o r s) :=
  ((((setCtl_only s _).trans (removeOverlay_only _ _)).trans (entryEnd_only _ _)).trans (setCtl_only _ _)).trans
    (disarmSilence_only _)

theorem endEarly_only (o : SessionOutcome) (r : Session) (s : State) : SessionOnly s (endEarly o r s) := by
  have h : SessionOnly s (if s.ctl.state = .presenting then
      removeOverlay r.presentation (s.setCtl s.ctl.erased) else s.setCtl s.ctl.erased) :=
    SessionOnly.ite ((setCtl_only s _).trans (removeOverlay_only _ _)) (setCtl_only s _)
  exact ((h.trans (entryEnd_only _ _)).trans (disarmSilence_only _)).trans (enterReleasing_only _)

theorem endSession_only (o : SessionOutcome) (s : State) : SessionOnly s (endSession o s) := by
  unfold endSession
  split
  · exact SessionOnly.refl s
  · split
    · exact endEarly_only _ _ _
    · exact endEarly_only _ _ _
    · exact endSecure_only _ _ _
    all_goals exact SessionOnly.refl s

theorem enterSecure_only (r : Session) (s : State) : SessionOnly s (enterSecure r s) :=
  (setCtl_only s _).trans (pushProgress_only _ _ _)

theorem onReport_only (s : State) (g : GateReport) : SessionOnly s (onReport s g) := by
  unfold onReport
  split
  · split
    · exact enterSecure_only _ _
    · exact SessionOnly.refl s
  · exact SessionOnly.ite (enterReleasing_only s) (SessionOnly.refl s)
  · exact SessionOnly.ite (setCtl_only s _) (SessionOnly.refl s)
  · split
    · exact SessionOnly.refl s
    · exact SessionOnly.ite (endSession_only _ s) (SessionOnly.refl s)

theorem reports_only (s : State) (l : List GateReport) : SessionOnly s { s with reports := l } := by
  constructor <;> rfl

theorem takeWave_only (s : State) : SessionOnly s (takeWave s) :=
  (reports_only s []).trans (SessionOnly.foldl onReport_only _ _)

theorem takeReports_only (s : State) : SessionOnly s (takeReports s) :=
  (takeWave_only s).trans (takeWave_only _)

theorem endArming_only (s : State) : SessionOnly s (endArming s) := by
  unfold endArming
  split
  · exact SessionOnly.refl s
  · exact (SessionOnly.ite ((writeSet_only _ s).trans (askLocal_only _)) (writeSet_only _ s)).trans
      (setCtl_only _ _)

theorem noContactReport_only (s : State) : SessionOnly s (noContactReport s) := by
  unfold noContactReport
  split
  · exact (endArming_only s).trans (takeReports_only _)
  · exact enterOpen_only s
  all_goals exact SessionOnly.refl s

theorem beginSession_only (r : Session) (s : State) : SessionOnly s (beginSession r s) := by
  have h := fun c => (((setCtl_only s
    { s.ctl with session := nextSession s.ctl.session, record := some r, buffer := [], points := [],
                 candidate := .none }).trans (leaveOpen_only _)).trans (setCtl_only _ c)).trans
    (startSilence_only _)
  exact SessionOnly.ite ((h _).trans ((endArming_only _).trans (takeReports_only _))) (h _)

theorem acceptedKey_only (r : Session) (s : State) : SessionOnly s (acceptedKey r s) := setCtl_only _ _

theorem setBuffer_only (ds : List Nat) (s : State) : SessionOnly s (setBuffer ds s) :=
  SessionOnly.ite (setCtl_only s _) ((setCtl_only s _).trans (writeSet_only _ _))

theorem pressDigit_only (r : Session) (n : Nat) (s : State) : SessionOnly s (pressDigit r n s) := by
  have h := fun k ds => ((acceptedKey_only r s).trans (setBuffer_only ds _)).trans (pushProgress_only .accepted k _)
  exact SessionOnly.ite (SessionOnly.ite ((h _ _).trans (endSession_only _ _)) (h _ _)) (pushProgress_only _ _ _)

theorem pressBack_only (r : Session) (s : State) : SessionOnly s (pressBack r s) :=
  SessionOnly.ite (pushProgress_only _ _ _)
    (((acceptedKey_only r s).trans (setBuffer_only _ _)).trans (pushProgress_only _ _ _))

theorem pressClear_only (r : Session) (s : State) : SessionOnly s (pressClear r s) :=
  ((acceptedKey_only r s).trans (setBuffer_only _ _)).trans (pushProgress_only _ _ _)

theorem pressEnter_only (r : Session) (s : State) : SessionOnly s (pressEnter r s) :=
  SessionOnly.ite ((acceptedKey_only r s).trans (endSession_only _ _)) (pushProgress_only _ _ _)

theorem pressCell_only (r : Session) (i : Nat) (s : State) : SessionOnly s (pressCell r i s) := by
  unfold pressCell
  split
  · exact SessionOnly.refl s
  · split
    · exact pressDigit_only _ _ _
    · exact pressBack_only _ _
    · exact pressClear_only _ _
    · exact pressEnter_only _ _
    · exact endSession_only _ _
    all_goals exact SessionOnly.refl s

theorem sessionPress_only (r : Session) (k : Key) (s : State) : SessionOnly s (sessionPress r k s) := by
  unfold sessionPress
  split
  · exact endSession_only _ _
  · exact pressClear_only _ _
  · exact pressEnter_only _ _
  all_goals exact SessionOnly.refl s

theorem sessionDown_only (r : Session) (q : Position) (s : State) : SessionOnly s (sessionDown r q s) := by
  unfold sessionDown
  split
  · exact SessionOnly.refl s
  · exact setCtl_only _ _

theorem sessionUpdate_only (r : Session) (q : Position) (s : State) : SessionOnly s (sessionUpdate r q s) := by
  unfold sessionUpdate
  split
  · exact SessionOnly.ite (SessionOnly.refl s) ((setCtl_only s _).trans (pushProgress_only _ _ _))
  · exact SessionOnly.refl s

theorem addPoint_only (r : Session) (x y : Nat) (s : State) : SessionOnly s (addPoint r x y s) := by
  have h := fun c => (acceptedKey_only r s).trans (setCtl_only _ c)
  exact SessionOnly.ite ((h _).trans (endSession_only _ _)) (h _)

theorem sessionUp_only (r : Session) (x y : Nat) (s : State) : SessionOnly s (sessionUp r x y s) := by
  unfold sessionUp
  split
  · exact addPoint_only _ _ _ _
  · refine SessionOnly.trans ?_ (setCtl_only _ _)
    split
    · exact pressCell_only _ _ _
    · exact SessionOnly.refl s
    · exact SessionOnly.refl s

theorem routeDown_only (n : Nat) (q : Position) (s : State) : SessionOnly s (routeDown n q s) := by
  unfold routeDown
  split
  · exact (queueInput_only _ s).trans (setCtl_only _ _)
  · exact (setCtl_only s _).trans (sessionDown_only _ _ _)
  · exact SessionOnly.refl s

theorem routeUpdate_only (n : Nat) (q : Position) (m : Bool) (s : State) :
    SessionOnly s (routeUpdate n q m s) := by
  unfold routeUpdate
  split
  · exact SessionOnly.ite (queueInput_only _ s) (SessionOnly.refl s)
  · exact SessionOnly.ite (sessionUpdate_only _ _ s) (SessionOnly.refl s)
  · exact SessionOnly.refl s

theorem endMarks_only (n : Nat) (s : State) : SessionOnly s (endMarks n s) := setCtl_only _ _

theorem routeUp_only (n : Nat) (q : Position) (u : Bool) (x y : Nat) (s : State) :
    SessionOnly s (routeUp n q u x y s) := by
  unfold routeUp
  split
  · exact SessionOnly.ite ((queueInput_only _ s).trans (endMarks_only _ _)) (endMarks_only _ s)
  · exact SessionOnly.ite
      (((endMarks_only _ s).trans (sessionUp_only _ _ _ _)).trans (takeReports_only _)) (endMarks_only _ s)
  · exact endMarks_only _ s

theorem routePress_only (k : Key) (s : State) : SessionOnly s (routePress k s) := by
  unfold routePress
  split
  · exact (queueInput_only _ s).trans (setCtl_only _ _)
  · exact sessionPress_only _ _ _
  · exact SessionOnly.refl s

theorem routeRelease_only (k : Key) (s : State) : SessionOnly s (routeRelease k s) :=
  SessionOnly.ite ((queueInput_only _ s).trans (setCtl_only _ _)) (SessionOnly.refl s)

theorem placeTamperEnd_only (s : State) : SessionOnly s (placeTamperEnd s) := by
  unfold placeTamperEnd
  split
  · exact SessionOnly.refl s
  · exact SessionOnly.ite (entryEnd_only s _) (SessionOnly.refl s)

theorem enterLocked_only (s : State) : SessionOnly s (enterLocked s) := by
  have h := (((placeTamperEnd_only s).trans (setCtl_only _ (placeTamperEnd s).ctl.erased)).trans
    (writeSet_only (lockSet s.active) _)).trans (askLocal_only _)
  exact (((SessionOnly.ite (c := s.ctl.state = .opened) (h.trans (leaveOpen_only _)) h).trans
    (setCtl_only _ _)).trans (disarmSilence_only _)).trans (lockedPurge_only _)

theorem tamperTrip_only (s : State) : SessionOnly s (tamperTrip s) :=
  SessionOnly.ite (SessionOnly.refl s) ((enterLocked_only s).trans (takeReports_only _))

theorem loss_only (s : State) (g : Gate) (l : List GateReport) :
    SessionOnly s { s with gate := g, reports := l } := by constructor <;> rfl

theorem declareLoss_only (s : State) : SessionOnly s (declareLoss s) :=
  SessionOnly.ite ((loss_only s _ _).trans (setFlag_only _ _ _)) (SessionOnly.refl s)

theorem judgeFrame_only (lines : List Nat) (s : State) : SessionOnly s (judgeFrame lines s) :=
  SessionOnly.ite (setGate_only s _) (SessionOnly.refl s)

theorem endInputFrame_only (lines : List Nat) (s : State) : SessionOnly s (endInputFrame lines s) :=
  SessionOnly.ite ((judgeFrame_only lines s).trans (declareLoss_only _)) (judgeFrame_only lines s)

/-! ### What the transmitters and the stall timers can change -/

/-- An entry without its in-transmission mark. -/
def Entry.unsent (e : Entry) : Entry := { e with sending := false }

/-- From `s` to `t` nothing changed but what the transmitters' choice (R14) and the stall timers (R13) act on: the
frames in transmission, the stall timers, the lost mark, the NOTICE places, the in-transmission marks and the run
counts. -/
structure TransmitOnly (s t : State) : Prop where
  pending : t.pending = s.pending
  inReset : t.inReset = s.inReset
  entryEnd : t.entryEnd = s.entryEnd
  progress : t.progress = s.progress
  inputs : t.inputs = s.inputs
  staging : t.staging = s.staging
  active : t.active = s.active
  generation : t.generation = s.generation
  bars : t.switch.bars = s.switch.bars
  levels : t.switch.levels = s.switch.levels
  refillTimer : t.switch.refillTimer = s.switch.refillTimer
  frontEnd : t.frontEnd = s.frontEnd
  adc : t.adc = s.adc
  mapper : t.mapper = s.mapper
  keys : t.keys = s.keys
  ctl : t.ctl = s.ctl
  gate : t.gate = s.gate
  sup : t.sup = s.sup
  reports : t.reports = s.reports
  arbiterCount : t.arbiterCount = s.arbiterCount
  rx : ∀ d, (t.port d).rx = (s.port d).rx
  inBreak : ∀ d, (t.port d).inBreak = (s.port d).inBreak
  interByte : ∀ d, (t.port d).interByte = (s.port d).interByte
  ready : ∀ d, (t.port d).ready = (s.port d).ready
  replies : ∀ d, (t.port d).replies = (s.port d).replies
  stalled : ∀ d, (t.port d).stalled = (s.port d).stalled
  flags : ∀ d, (t.box d).flags = (s.box d).flags
  followUp : ∀ d, (t.box d).followUp = (s.box d).followUp
  repeatTimer : ∀ d, (t.box d).repeatTimer = (s.box d).repeatTimer
  wanted : ∀ d, (t.queue d).wanted = (s.queue d).wanted
  entries : ∀ d c, ((t.queue d).entries.get c).map Entry.unsent = ((s.queue d).entries.get c).map Entry.unsent

namespace TransmitOnly

theorem refl (s : State) : TransmitOnly s s := by constructor <;> intros <;> rfl

theorem trans {s t u : State} (h : TransmitOnly s t) (k : TransmitOnly t u) : TransmitOnly s u where
  pending := k.pending.trans h.pending
  inReset := k.inReset.trans h.inReset
  entryEnd := k.entryEnd.trans h.entryEnd
  progress := k.progress.trans h.progress
  inputs := k.inputs.trans h.inputs
  staging := k.staging.trans h.staging
  active := k.active.trans h.active
  generation := k.generation.trans h.generation
  bars := k.bars.trans h.bars
  levels := k.levels.trans h.levels
  refillTimer := k.refillTimer.trans h.refillTimer
  frontEnd := k.frontEnd.trans h.frontEnd
  adc := k.adc.trans h.adc
  mapper := k.mapper.trans h.mapper
  keys := k.keys.trans h.keys
  ctl := k.ctl.trans h.ctl
  gate := k.gate.trans h.gate
  sup := k.sup.trans h.sup
  reports := k.reports.trans h.reports
  arbiterCount := k.arbiterCount.trans h.arbiterCount
  rx d := (k.rx d).trans (h.rx d)
  inBreak d := (k.inBreak d).trans (h.inBreak d)
  interByte d := (k.interByte d).trans (h.interByte d)
  ready d := (k.ready d).trans (h.ready d)
  replies d := (k.replies d).trans (h.replies d)
  stalled d := (k.stalled d).trans (h.stalled d)
  flags d := (k.flags d).trans (h.flags d)
  followUp d := (k.followUp d).trans (h.followUp d)
  repeatTimer d := (k.repeatTimer d).trans (h.repeatTimer d)
  wanted d := (k.wanted d).trans (h.wanted d)
  entries d c := (k.entries d c).trans (h.entries d c)

theorem foldl {α : Type} {f : State → α → State} (h : ∀ s a, TransmitOnly s (f s a)) (l : List α) (s : State) :
    TransmitOnly s (l.foldl f s) := by
  induction l generalizing s with
  | nil => exact refl s
  | cons a l ih => exact (h s a).trans (ih (f s a))

end TransmitOnly

/-- A port changed only in its frame in transmission and its stall timer. -/
theorem setPort_transmit (s : State) (d : Domain) (x : Option Transmission) (t : Timer) :
    TransmitOnly s (s.setPort d { s.port d with tx := x, stallTimer := t }) := by
  constructor <;> first | rfl | (intro e; rw [State.port_setPort]; split <;> [subst_vars; skip] <;> rfl) | skip
  all_goals intros; rfl

theorem beginTx_transmit (d : Domain) (src : Source) (f : Frame) (s : State) :
    TransmitOnly s (beginTx d src f s) := setPort_transmit s d _ (s.port d).stallTimer

theorem judgeStall_transmit (d : Domain) (s : State) : TransmitOnly s (judgeStall d s) := by
  unfold judgeStall
  split
  · split
    · exact TransmitOnly.refl s
    · exact setPort_transmit s d (s.port d).tx _
  · exact setPort_transmit s d (s.port d).tx _

theorem lost_transmit (s : State) (b : Bool) : TransmitOnly s { s with lost := b } := by
  constructor <;> intros <;> rfl

theorem markSending_unsent (es : List Entry) : (markSending es).map Entry.unsent = es.map Entry.unsent := by
  induction es with
  | nil => rfl
  | cons e es ih =>
    unfold markSending
    split
    · rfl
    · simp [ih]

theorem setPlace_transmit (s : State) (d : Domain) (p : Place) :
    TransmitOnly s (s.setBox d { s.box d with place := p }) := by
  constructor <;> first | rfl | (intro e; rw [State.box_setBox]; split <;> [subst_vars; skip] <;> rfl) | skip
  all_goals intros; rfl

theorem offer_transmit (s : State) (d : Domain) (c : Class) (run : Nat) :
    TransmitOnly s (s.setQueue d ((s.queue d).offer c run)) := by
  constructor <;> first | rfl | (intro e; rw [State.queue_setQueue]; split <;> [subst_vars; skip] <;> rfl) | skip
  case entries =>
    intro e c'
    rw [State.queue_setQueue]
    split
    · subst_vars
      simp only [DeliveryQueue.offer, PerClass.get_set]
      split
      · subst_vars; exact markSending_unsent _
      · rfl
    · rfl
  all_goals intros; rfl

theorem beginSessionFrame_transmit {d : Domain} {s t : State} (h : beginSessionFrame d s = some t) :
    TransmitOnly s t := by
  unfold beginSessionFrame at h
  split at h
  · split at h
    · cases h; exact beginTx_transmit _ _ _ _
    · cases h; exact beginTx_transmit _ _ _ _
    · cases h
  · split at h
    · cases h; exact (lost_transmit s false).trans (beginTx_transmit _ _ _ _)
    · cases h
  · cases h

theorem beginNotice_transmit {d : Domain} {s t : State} (h : beginNotice d s = some t) : TransmitOnly s t := by
  unfold beginNotice at h
  split at h
  · cases h; exact (setPlace_transmit s d _).trans (beginTx_transmit _ _ _ _)
  · cases h
  · cases h

theorem beginDelivery_transmit {d : Domain} {s t : State} (h : beginDelivery d s = some t) :
    TransmitOnly s t := by
  unfold beginDelivery at h
  split at h
  · cases h
  · split at h
    · cases h
    · cases h; exact (offer_transmit s d _ _).trans (beginTx_transmit _ _ _ _)

/-- What a choice can do: nothing, or begin one frame, from the first place that has one (R14). -/
theorem choose_cases (d : Domain) (s : State) :
    choose d s = s ∨
    (s.port d).tx = none ∧ (s.port d).ready = .high ∧
      ((∃ r rs, (s.port d).replies = r :: rs ∧ choose d s = beginTx d .reply r.frame s) ∨
       (s.port d).replies = [] ∧
        (beginSessionFrame d s = some (choose d s) ∨
         beginSessionFrame d s = none ∧ beginNotice d s = some (choose d s) ∨
         beginSessionFrame d s = none ∧ beginNotice d s = none ∧ beginDelivery d s = some (choose d s))) := by
  unfold choose
  split
  · rename_i h
    split
    · rename_i r rs hr
      exact .inr ⟨h.1, h.2, .inl ⟨r, rs, hr, rfl⟩⟩
    · rename_i hr
      cases h1 : beginSessionFrame d s with
      | some t => exact .inr ⟨h.1, h.2, .inr ⟨hr, .inl (by simp)⟩⟩
      | none =>
        cases h2 : beginNotice d s with
        | some t => exact .inr ⟨h.1, h.2, .inr ⟨hr, .inr (.inl ⟨rfl, by simp⟩)⟩⟩
        | none =>
          cases h3 : beginDelivery d s with
          | some t => exact .inr ⟨h.1, h.2, .inr ⟨hr, .inr (.inr ⟨rfl, rfl, by simp⟩)⟩⟩
          | none => exact .inl (by simp)
  · exact .inl rfl

theorem choose_transmit (d : Domain) (s : State) : TransmitOnly s (choose d s) := by
  rcases choose_cases d s with h | ⟨-, -, ⟨r, rs, -, h⟩ | ⟨-, h | ⟨-, h⟩ | ⟨-, -, h⟩⟩⟩
  · rw [h]; exact TransmitOnly.refl s
  · rw [h]; exact beginTx_transmit _ _ _ _
  · exact beginSessionFrame_transmit h
  · exact beginNotice_transmit h
  · exact beginDelivery_transmit h

theorem finish_transmit (s : State) : TransmitOnly s (finish s) :=
  (TransmitOnly.foldl (fun s d => choose_transmit d s) _ _).trans
    (TransmitOnly.foldl (fun s d => judgeStall_transmit d s) _ _)

end Sys2Proof.Machine
end

