-- ==== Sys2Proof/Laws/Events.lean ====
section
/-! SUPPORT. What the touch front end, the side keys, the supervisor and the owners of requests leave alone.
`EventOnly s t` is `SessionOnly` without the input blocks and the supervisor's measurements; `OwnerOnly s t` is what
holds of every owner of a request. Both are transitive, with one lemma for each operation. -/

namespace Sys2Proof.Machine

open Sys2Proof

/-- From `s` to `t` the queue of commands, the ports, the policy tables, the generation, the live bars, the bucket
levels and the two free-running timers are unchanged. -/
structure EventOnly (s t : State) : Prop where
  pending : t.pending = s.pending
  inReset : t.inReset = s.inReset
  ports : t.ports = s.ports
  staging : t.staging = s.staging
  active : t.active = s.active
  generation : t.generation = s.generation
  bars : t.switch.bars = s.switch.bars
  levels : t.switch.levels = s.switch.levels
  refillTimer : t.switch.refillTimer = s.switch.refillTimer
  requestTimer : t.sup.requestTimer = s.sup.requestTimer

namespace EventOnly

theorem refl (s : State) : EventOnly s s := by constructor <;> rfl

theorem trans {s t u : State} (h : EventOnly s t) (k : EventOnly t u) : EventOnly s u where
  pending := k.pending.trans h.pending
  inReset := k.inReset.trans h.inReset
  ports := k.ports.trans h.ports
  staging := k.staging.trans h.staging
  active := k.active.trans h.active
  generation := k.generation.trans h.generation
  bars := k.bars.trans h.bars
  levels := k.levels.trans h.levels
  refillTimer := k.refillTimer.trans h.refillTimer
  requestTimer := k.requestTimer.trans h.requestTimer

theorem foldl {α : Type} {f : State → α → State} (h : ∀ s a, EventOnly s (f s a)) (l : List α) (s : State) :
    EventOnly s (l.foldl f s) := by
  induction l generalizing s with
  | nil => exact refl s
  | cons a l ih => exact (h s a).trans (ih (f s a))

theorem ite {s t u : State} {c : Prop} [Decidable c] (h : EventOnly s t) (k : EventOnly s u) :
    EventOnly s (if c then t else u) := by split <;> assumption

end EventOnly

theorem SessionOnly.event {s t : State} (h : SessionOnly s t) : EventOnly s t where
  pending := h.pending
  inReset := h.inReset
  ports := h.ports
  staging := h.staging
  active := h.active
  generation := h.generation
  bars := h.bars
  levels := h.levels
  refillTimer := h.refillTimer
  requestTimer := h.requestTimer

theorem frontEnd_event (s : State) (f : FrontEnd) : EventOnly s { s with frontEnd := f } := by
  constructor <;> rfl

theorem mapper_event (s : State) (m : Mapper) : EventOnly s { s with mapper := m } := by constructor <;> rfl

theorem setKey_event (s : State) (k : Key) (v : SideKey) : EventOnly s (s.setKey k v) := by constructor <;> rfl

theorem setTamper_event (s : State) (i : TamperInput) (t : Tamper) : EventOnly s (s.setTamper i t) := by
  constructor <;> rfl

theorem mapperDown_event (x y : Nat) (s : State) : EventOnly s (mapperDown x y s) :=
  EventOnly.ite ((mapper_event s _).trans (routeDown_only _ _ _).event) (EventOnly.refl s)

theorem mapperTrack_event (x y : Nat) (s : State) : EventOnly s (mapperTrack x y s) :=
  EventOnly.ite
    (EventOnly.ite ((mapper_event s _).trans (routeUpdate_only _ _ _ _).event) (mapper_event s _))
    (EventOnly.refl s)

theorem mapperUp_event (u : Bool) (s : State) : EventOnly s (mapperUp u s) :=
  (mapper_event s _).trans (routeUp_only _ _ _ _ _ _).event

theorem takeTouch_event (s : State) (r : TouchReport) : EventOnly s (takeTouch s r) := by
  cases r with
  | start x y => exact mapper_event s _
  | track x y => exact mapperTrack_event x y s
  | down x y => exact mapperDown_event x y s
  | up u => exact mapperUp_event u s
  | drop => exact mapper_event s _

theorem endScan_event (t : Touch) (k : ScanKind) (s : State) : EventOnly s (endScan t k s) := by
  have h := (frontEnd_event s { (s.frontEnd.apply t k).1 with progress := .none }).trans
    (EventOnly.foldl takeTouch_event (s.frontEnd.apply t k).2 _)
  exact EventOnly.ite (h.trans (noContactReport_only _).event) h

/-- A tick of a running burst changes the panel's arrangement alone. -/
theorem panelTick_panel (s : State) :
    panelTick s = { s with frontEnd := { s.frontEnd with panel := (panelTick s).frontEnd.panel } } := by
  unfold panelTick
  split <;> rfl

theorem grantBurst_event (s : State) : EventOnly s (grantBurst s) := by constructor <;> rfl

theorem grantSupply_event (s : State) : EventOnly s (grantSupply s) := by constructor <;> rfl

theorem requestBurst_event (s : State) : EventOnly s (requestBurst s) :=
  EventOnly.ite (grantBurst_event s) (frontEnd_event s _)

theorem requestSupply_event (s : State) : EventOnly s (requestSupply s) :=
  EventOnly.ite (grantSupply_event s) (by constructor <;> rfl)

theorem grantNext_event (s : State) : EventOnly s (grantNext s) := by
  unfold grantNext
  split
  · constructor <;> rfl
  · exact grantBurst_event s
  · exact grantSupply_event s
  · have h : EventOnly s { s with arbiterCount := s.arbiterCount + 1 } := by constructor <;> rfl
    exact EventOnly.ite (h.trans (grantBurst_event _)) (h.trans (grantSupply_event _))

theorem beginScan_event (plate : Word16) (s : State) : EventOnly s (beginScan plate s) :=
  EventOnly.ite ((frontEnd_event s _).trans (requestBurst_event _))
    ((frontEnd_event s _).trans (endScan_event _ _ _))

theorem scanExpiry_event (plate : Word16) (s : State) : EventOnly s (scanExpiry plate s) :=
  EventOnly.ite (EventOnly.ite ((frontEnd_event s _).trans (beginScan_event _ _)) (frontEnd_event s _))
    (EventOnly.refl s)

theorem burstDone_event (codes : Burst) (s : State) : EventOnly s (burstDone codes s) :=
  EventOnly.ite (((frontEnd_event s _).trans (grantNext_event _)).trans (endScan_event _ _ _))
    (EventOnly.refl s)

theorem startFrontEnd_event (s : State) : EventOnly s (startFrontEnd s) :=
  EventOnly.ite ((frontEnd_event s _).trans (noContactReport_only _).event) (EventOnly.refl s)

theorem debounceExpiry_event (k : Key) (s : State) : EventOnly s (debounceExpiry k s) :=
  EventOnly.ite
    (EventOnly.ite ((setKey_event s k _).trans (routePress_only _ _).event)
      ((setKey_event s k _).trans (routeRelease_only _ _).event))
    (EventOnly.refl s)

theorem trip_event (i : TamperInput) (s : State) : EventOnly s (trip i s) :=
  EventOnly.ite (setTamper_event s i _)
    (((setTamper_event s i _).trans (setFlag_only _ _ _).event).trans (tamperTrip_only _).event)

theorem judgeTamper_event (i : TamperInput) (s : State) : EventOnly s (judgeTamper i s) :=
  EventOnly.ite ((setTamper_event s i _).trans (trip_event _ _)) (setTamper_event s i _)

theorem filterExpiry_event (i : TamperInput) (s : State) : EventOnly s (filterExpiry i s) :=
  EventOnly.ite ((setTamper_event s i _).trans (judgeTamper_event _ _)) (EventOnly.refl s)

theorem warnSupply_only (s : State) : SessionOnly s (warnSupply s) :=
  (setFlag_only _ _ s).trans (setFlag_only _ _ _)

theorem lowSupply_only (s : State) : SessionOnly s (lowSupply s) :=
  ((setFlag_only _ _ s).trans (endSession_only _ _)).trans (takeReports_only _)

theorem supplyMove_only (old new : SupplyLevel) (s : State) : SessionOnly s (supplyMove old new s) := by
  unfold supplyMove
  split
  · exact warnSupply_only s
  · exact lowSupply_only s
  · exact (warnSupply_only s).trans (lowSupply_only _)
  · exact SessionOnly.refl s

theorem measure_event (m : Nat) (s : State) : EventOnly s (measure m s) :=
  EventOnly.trans (t := s.setSup
    { s.sup with measurement := m, level := s.sup.level.next s.active.supervision.warn s.active.supervision.abort m })
    (by constructor <;> rfl) (supplyMove_only _ _ _).event

theorem supplyDone_event (code : AdcCode) (s : State) : EventOnly s (supplyDone code s) :=
  EventOnly.ite ((grantNext_event s).trans (measure_event _ _)) (EventOnly.refl s)

theorem watchOnOutput_only (s : State) : SessionOnly s (watchOnOutput s) := by
  unfold watchOnOutput
  split
  · exact SessionOnly.ite (declareLoss_only s)
      (((gateDo_only _ s).trans (takeReports_only _)).trans (declareLoss_only _))
  · exact ((declareLoss_only s).trans (takeReports_only _)).trans (gateDo_only _ _)
  · exact SessionOnly.refl s
  · exact SessionOnly.refl s
  · exact ((gateDo_only _ s).trans (takeReports_only _)).trans (declareLoss_only _)

theorem silenceExpiry_only (lines : List Nat) (s : State) : SessionOnly s (silenceExpiry lines s) :=
  SessionOnly.ite
    (((setGate_only s _).trans (judgeFrame_only _ _)).trans (watchOnOutput_only _)) (SessionOnly.refl s)

theorem inputFrameStart_only (lines : List Nat) (s : State) : SessionOnly s (inputFrameStart lines s) :=
  (((endInputFrame_only lines s).trans (takeReports_only _)).trans (setGate_only _ _)).trans (gateDo_only _ _)

/-! ### The owners of requests -/

/-- From `s` to `t` the queue of commands, the reset mark, the ports, the refill timer and the supply request timer
are unchanged. -/
structure OwnerOnly (s t : State) : Prop where
  pending : t.pending = s.pending
  inReset : t.inReset = s.inReset
  ports : t.ports = s.ports
  refillTimer : t.switch.refillTimer = s.switch.refillTimer
  requestTimer : t.sup.requestTimer = s.sup.requestTimer

namespace OwnerOnly

theorem refl (s : State) : OwnerOnly s s := by constructor <;> rfl

theorem trans {s t u : State} (h : OwnerOnly s t) (k : OwnerOnly t u) : OwnerOnly s u where
  pending := k.pending.trans h.pending
  inReset := k.inReset.trans h.inReset
  ports := k.ports.trans h.ports
  refillTimer := k.refillTimer.trans h.refillTimer
  requestTimer := k.requestTimer.trans h.requestTimer

theorem ite {s t u : State} {c : Prop} [Decidable c] (h : OwnerOnly s t) (k : OwnerOnly s u) :
    OwnerOnly s (if c then t else u) := by split <;> assumption

end OwnerOnly

theorem EventOnly.owner {s t : State} (h : EventOnly s t) : OwnerOnly s t where
  pending := h.pending
  inReset := h.inReset
  ports := h.ports
  refillTimer := h.refillTimer
  requestTimer := h.requestTimer

theorem acceptPost_owner (s : State) (d : Domain) (slot channel : Nat) (c : Channel) (payload : List Byte) :
    OwnerOnly s (acceptPost s d slot channel c payload) := by
  unfold acceptPost
  split <;> constructor <;> rfl

theorem runPost_owner (d : Domain) (slot : Byte) (body : List Byte) (s : State) :
    OwnerOnly s (runPost d slot body s).1 := by
  unfold runPost
  simp only
  split
  · exact OwnerOnly.refl s
  · split
    · exact OwnerOnly.refl s
    · split
      · exact OwnerOnly.refl s
      · split
        · exact acceptPost_owner _ _ _ _ _ _
        · constructor <;> rfl
        · exact OwnerOnly.refl s

theorem runStatus_owner (d : Domain) (slot : Byte) (s : State) : (runStatus d slot s).1 = s := by
  unfold runStatus
  split
  · rfl
  · split <;> rfl
  · rfl

theorem runClear_owner (d : Domain) (body : List Byte) (s : State) : OwnerOnly s (runClear d body s).1 :=
  (setBox_only s d _).event.owner

theorem runNoticeTest_owner (d : Domain) (s : State) : OwnerOnly s (runNoticeTest d s).1 :=
  (setFlag_only d _ s).event.owner

theorem runLoad_owner (body : List Byte) (s : State) : OwnerOnly s (runLoad body s).1 := by
  unfold runLoad
  simp only
  split
  · exact OwnerOnly.refl s
  · split
    · exact OwnerOnly.refl s
    · constructor <;> rfl

theorem runRevert_owner (s : State) : OwnerOnly s (runRevert s).1 := by constructor <;> rfl

theorem acceptCommit_owner (s : State) : OwnerOnly s (acceptCommit s) := by
  have tables : OwnerOnly s (commitTables s) := by
    refine OwnerOnly.trans (t := { s with active := s.staging, generation := nextGeneration s.generation })
      (by constructor <;> rfl) ?_
    exact (((takeNoticeModes_only _).trans (setFlag_only _ _ _)).trans (setFlag_only _ _ _)).event.owner
  have switched : ∀ u, OwnerOnly u (commitSwitch s.active u) := fun u =>
    OwnerOnly.trans (t := { u with switch :=
      { u.switch with bars := committedBars u.active, levels := committedLevels s.active u.active u.switch.levels } })
      (by constructor <;> rfl) (((purge_only _ _).trans (remarkHeld_only _)).event.owner)
  have normals : ∀ u, OwnerOnly u (commitNormals s.active u) := fun u => by constructor <;> rfl
  have gated : ∀ u, OwnerOnly u (commitGate u) := fun u => (setGate_only u _).event.owner
  have started : OwnerOnly s
      (if s.generation = 0 then startFrontEnd (commitSwitch s.active (commitTables s))
        else commitSwitch s.active (commitTables s)) :=
    OwnerOnly.ite ((tables.trans (switched _)).trans (startFrontEnd_event _).owner) (tables.trans (switched _))
  exact (((started.trans (gated _)).trans (normals _)).trans (judgeTamper_event _ _).owner).trans
    (judgeTamper_event _ _).owner

theorem runCommit_owner (body : List Byte) (s : State) : OwnerOnly s (runCommit body s).1 := by
  unfold runCommit
  split
  · exact OwnerOnly.refl s
  · split
    · exact OwnerOnly.refl s
    · split
      · exact OwnerOnly.refl s
      · exact acceptCommit_owner s

theorem runEntryBegin_owner (body : List Byte) (s : State) : OwnerOnly s (runEntryBegin body s).1 := by
  unfold runEntryBegin
  split
  · exact OwnerOnly.refl s
  · split
    · exact OwnerOnly.refl s
    · split
      · exact OwnerOnly.refl s
      · exact (beginSession_only _ s).event.owner

theorem runEntryAbort_owner (s : State) : OwnerOnly s (runEntryAbort s).1 := by
  unfold runEntryAbort
  split
  · exact ((endSession_only _ s).trans (takeReports_only _)).event.owner
  · exact OwnerOnly.refl s

theorem setBar_owner (s : State) (n : Nat) (v : Bool) : OwnerOnly s (setBar s n v) := by constructor <;> rfl

theorem runSlotBar_owner (body : List Byte) (s : State) : OwnerOnly s (runSlotBar body s).1 := by
  unfold runSlotBar
  simp only
  split
  · exact OwnerOnly.refl s
  · split
    · exact (setBar_owner s _ _).trans ((purge_only _ _).trans (setFlag_only _ _ _)).event.owner
    · exact (setBar_owner s _ _).trans (setFlag_only _ _ _).event.owner

theorem acceptUnlock_only (s : State) : OwnerOnly s (acceptUnlock s) := by
  have h : OwnerOnly s (clearLatches s) := by constructor <;> rfl
  exact h.trans ((((writeSet_only _ _).trans (askFollow_only _)).trans (setCtl_only _ _)).trans
    ((enterReleasing_only _).trans (takeReports_only _))).event.owner

theorem runUnlock_owner (s : State) : OwnerOnly s (runUnlock s).1 := by
  unfold runUnlock
  split
  · exact OwnerOnly.refl s
  · split
    · exact OwnerOnly.refl s
    · split
      · exact OwnerOnly.refl s
      · exact acceptUnlock_only s

theorem ownerOf_owner (d : Domain) (f : Frame) (s : State) : OwnerOnly s (ownerOf d f s).1 := by
  unfold ownerOf
  split
  · exact OwnerOnly.refl s
  · exact runPost_owner _ _ _ _
  · rw [runStatus_owner]; exact OwnerOnly.refl s
  · exact runClear_owner _ _ _
  · exact runNoticeTest_owner _ _
  · exact runLoad_owner _ _
  · exact runRevert_owner _
  · exact runCommit_owner _ _
  · exact runEntryBegin_owner _ _
  · exact runEntryAbort_owner _
  · exact runSlotBar_owner _ _
  · exact runUnlock_owner _
  · exact OwnerOnly.refl s

end Sys2Proof.Machine
end

