-- ==== Sys2Proof/Laws/PerInstr.lean ====
section
/-! SUPPORT. The family of statements made for every command: a well-formed request carries a body that R4 lets a
receiver collect. -/

namespace Sys2Proof.Laws.BodyFits

open Sys2Proof Sys2Proof.Machine

/-- A well-formed command that carries a request frame carries a body of at most 512 bytes (R4). -/
def Statement (i : Instr) : Prop :=
  i.wf = true → ∀ d f, requestOf i = some (d, f) → f.body.length ≤ 512

theorem lineError (link : Domain) :
    Statement (.lineError link) := by
  intro _ d f e
  cases e

theorem serialBreak (link : Domain) :
    Statement (.serialBreak link) := by
  intro _ d f e
  cases e

theorem breakEnd (link : Domain) :
    Statement (.breakEnd link) := by
  intro _ d f e
  cases e

theorem interByteTimeout (link : Domain) :
    Statement (.interByteTimeout link) := by
  intro _ d f e
  cases e

theorem lengthOver512 (link : Domain) (kind tag slot : Byte) (length : Word16) :
    Statement (.lengthOver512 link kind tag slot length) := by
  intro _ d f e
  cases e

theorem frameCheckFail (link : Domain) (kind tag slot : Byte) (body : List Byte) (check : Word16) :
    Statement (.frameCheckFail link kind tag slot body check) := by
  intro _ d f e
  cases e

theorem badKindRequest (link : Domain) (kind tag slot : Byte) (body : List Byte) :
    Statement (.badKindRequest link kind tag slot body) := by
  intro h d f e
  cases e
  simp only [Instr.wf, Bool.and_eq_true, bodyFits, decide_eq_true_eq] at h
  exact h.2

theorem post (link : Domain) (tag slot : Byte) (body : List Byte) :
    Statement (.post link tag slot body) := by
  intro h d f e
  cases e
  simpa [Instr.wf, bodyFits] using h

theorem status (link : Domain) (tag slot : Byte) (body : List Byte) :
    Statement (.status link tag slot body) := by
  intro h d f e
  cases e
  simpa [Instr.wf, bodyFits] using h

theorem clear (link : Domain) (tag slot : Byte) (body : List Byte) :
    Statement (.clear link tag slot body) := by
  intro h d f e
  cases e
  simpa [Instr.wf, bodyFits] using h

theorem noticeTest (link : Domain) (tag slot : Byte) (body : List Byte) :
    Statement (.noticeTest link tag slot body) := by
  intro h d f e
  cases e
  simpa [Instr.wf, bodyFits] using h

theorem load (link : Domain) (tag slot : Byte) (body : List Byte) :
    Statement (.load link tag slot body) := by
  intro h d f e
  cases e
  simpa [Instr.wf, bodyFits] using h

theorem revert (link : Domain) (tag slot : Byte) (body : List Byte) :
    Statement (.revert link tag slot body) := by
  intro h d f e
  cases e
  simpa [Instr.wf, bodyFits] using h

theorem commit (link : Domain) (tag slot : Byte) (body : List Byte) :
    Statement (.commit link tag slot body) := by
  intro h d f e
  cases e
  simpa [Instr.wf, bodyFits] using h

theorem entryBegin (link : Domain) (tag slot : Byte) (body : List Byte) :
    Statement (.entryBegin link tag slot body) := by
  intro h d f e
  cases e
  simpa [Instr.wf, bodyFits] using h

theorem entryAbort (link : Domain) (tag slot : Byte) (body : List Byte) :
    Statement (.entryAbort link tag slot body) := by
  intro h d f e
  cases e
  simpa [Instr.wf, bodyFits] using h

theorem slotBar (link : Domain) (tag slot : Byte) (body : List Byte) :
    Statement (.slotBar link tag slot body) := by
  intro h d f e
  cases e
  simpa [Instr.wf, bodyFits] using h

theorem unlock (link : Domain) (tag slot : Byte) (body : List Byte) :
    Statement (.unlock link tag slot body) := by
  intro h d f e
  cases e
  simpa [Instr.wf, bodyFits] using h

theorem restart (link : Domain) (tag slot : Byte) (body : List Byte) :
    Statement (.restart link tag slot body) := by
  intro h d f e
  cases e
  simpa [Instr.wf, bodyFits] using h

theorem readyAsserted (link : Domain) :
    Statement (.readyAsserted link) := by
  intro _ d f e
  cases e

theorem readyDeasserted (link : Domain) :
    Statement (.readyDeasserted link) := by
  intro _ d f e
  cases e

theorem stallTimerExpiry (link : Domain) :
    Statement (.stallTimerExpiry link) := by
  intro _ d f e
  cases e

theorem replyComplete (link : Domain) :
    Statement (.replyComplete link) := by
  intro _ d f e
  cases e

theorem entryEndComplete :
    Statement .entryEndComplete := by
  intro _ d f e
  cases e

theorem entryProgressComplete :
    Statement .entryProgressComplete := by
  intro _ d f e
  cases e

theorem inputComplete :
    Statement .inputComplete := by
  intro _ d f e
  cases e

theorem noticeComplete (link : Domain) :
    Statement (.noticeComplete link) := by
  intro _ d f e
  cases e

theorem deliveryComplete (link : Domain) :
    Statement (.deliveryComplete link) := by
  intro _ d f e
  cases e

theorem fullReset :
    Statement .fullReset := by
  intro _ d f e
  cases e

theorem fullResetEnd :
    Statement .fullResetEnd := by
  intro _ d f e
  cases e

theorem refillTimerExpiry :
    Statement .refillTimerExpiry := by
  intro _ d f e
  cases e

theorem scanTimerExpiry (plate : Word16) :
    Statement (.scanTimerExpiry plate) := by
  intro _ d f e
  cases e

theorem burstEnd (codes : Burst) :
    Statement (.burstEnd codes) := by
  intro _ d f e
  cases e

theorem supplyRequestTimerExpiry :
    Statement .supplyRequestTimerExpiry := by
  intro _ d f e
  cases e

theorem supplyConversionEnd (code : AdcCode) :
    Statement (.supplyConversionEnd code) := by
  intro _ d f e
  cases e

theorem keyInputChange (key : Key) (level : Level) :
    Statement (.keyInputChange key level) := by
  intro _ d f e
  cases e

theorem keyDebounceExpiry (key : Key) :
    Statement (.keyDebounceExpiry key) := by
  intro _ d f e
  cases e

theorem totalTimerExpiry :
    Statement .totalTimerExpiry := by
  intro _ d f e
  cases e

theorem firstKeyTimerExpiry :
    Statement .firstKeyTimerExpiry := by
  intro _ d f e
  cases e

theorem interKeyTimerExpiry :
    Statement .interKeyTimerExpiry := by
  intro _ d f e
  cases e

theorem inputFrameStart (lines : List Nat) :
    Statement (.inputFrameStart lines) := by
  intro _ d f e
  cases e

theorem silenceWatchExpiry (lines : List Nat) :
    Statement (.silenceWatchExpiry lines) := by
  intro _ d f e
  cases e

theorem localFrameEnd :
    Statement .localFrameEnd := by
  intro _ d f e
  cases e

theorem tamperPinChange (input : TamperInput) (level : Level) :
    Statement (.tamperPinChange input level) := by
  intro _ d f e
  cases e

theorem tamperFilterExpiry (input : TamperInput) :
    Statement (.tamperFilterExpiry input) := by
  intro _ d f e
  cases e

theorem paySilenceExpiry :
    Statement .paySilenceExpiry := by
  intro _ d f e
  cases e

theorem repeatTimerExpiry (domain : Domain) :
    Statement (.repeatTimerExpiry domain) := by
  intro _ d f e
  cases e

theorem receivedByte (link : Domain) (byte : Byte) :
    Statement (.receivedByte link byte) := by
  intro _ d f e
  cases e

end Sys2Proof.Laws.BodyFits
end

