-- ==== Sys2Proof/Laws/Vocabulary.lean ====
section
/-! SUPPORT. The small lemmas of the vocabulary in which the statements speak: the fields that each of its updates
leaves alone. -/

namespace Sys2Proof.Machine

open Sys2Proof

variable (s : State)

@[simp] theorem State.told_ports (e : InputEvent) : (s.told e).ports = s.ports := rfl
@[simp] theorem State.told_ctl (e : InputEvent) : (s.told e).ctl = s.ctl := rfl
@[simp] theorem State.told_gate (e : InputEvent) : (s.told e).gate = s.gate := rfl
@[simp] theorem State.told_sup (e : InputEvent) : (s.told e).sup = s.sup := rfl
@[simp] theorem State.told_switch (e : InputEvent) : (s.told e).switch = s.switch := rfl
@[simp] theorem State.told_frontEnd (e : InputEvent) : (s.told e).frontEnd = s.frontEnd := rfl
@[simp] theorem State.told_mapper (e : InputEvent) : (s.told e).mapper = s.mapper := rfl
@[simp] theorem State.told_active (e : InputEvent) : (s.told e).active = s.active := rfl
@[simp] theorem State.told_notices (e : InputEvent) : (s.told e).notices = s.notices := rfl
@[simp] theorem State.told_entryEnd (e : InputEvent) : (s.told e).entryEnd = s.entryEnd := rfl
@[simp] theorem State.told_progress (e : InputEvent) : (s.told e).progress = s.progress := rfl
@[simp] theorem State.told_pending (e : InputEvent) : (s.told e).pending = s.pending := rfl

@[simp] theorem State.openedAgain_ports : (s.openedAgain).ports = s.ports := rfl
@[simp] theorem State.openedAgain_gate : (s.openedAgain).gate = s.gate := rfl
@[simp] theorem State.openedAgain_frontEnd : (s.openedAgain).frontEnd = s.frontEnd := rfl
@[simp] theorem State.openedAgain_mapper : (s.openedAgain).mapper = s.mapper := rfl
@[simp] theorem State.openedAgain_active : (s.openedAgain).active = s.active := rfl
@[simp] theorem State.openedAgain_notices : (s.openedAgain).notices = s.notices := rfl
@[simp] theorem State.openedAgain_entryEnd : (s.openedAgain).entryEnd = s.entryEnd := rfl
@[simp] theorem State.openedAgain_progress : (s.openedAgain).progress = s.progress := rfl
@[simp] theorem State.openedAgain_pending : (s.openedAgain).pending = s.pending := rfl

@[simp] theorem State.presents_ports (r : Session) : (s.presents r).ports = s.ports := rfl
@[simp] theorem State.presents_sup (r : Session) : (s.presents r).sup = s.sup := rfl
@[simp] theorem State.presents_switch (r : Session) : (s.presents r).switch = s.switch := rfl
@[simp] theorem State.presents_frontEnd (r : Session) : (s.presents r).frontEnd = s.frontEnd := rfl
@[simp] theorem State.presents_mapper (r : Session) : (s.presents r).mapper = s.mapper := rfl
@[simp] theorem State.presents_active (r : Session) : (s.presents r).active = s.active := rfl
@[simp] theorem State.presents_notices (r : Session) : (s.presents r).notices = s.notices := rfl
@[simp] theorem State.presents_entryEnd (r : Session) : (s.presents r).entryEnd = s.entryEnd := rfl
@[simp] theorem State.presents_progress (r : Session) : (s.presents r).progress = s.progress := rfl
@[simp] theorem State.presents_inputs (r : Session) : (s.presents r).inputs = s.inputs := rfl
@[simp] theorem State.presents_lost (r : Session) : (s.presents r).lost = s.lost := rfl
@[simp] theorem State.presents_pending (r : Session) : (s.presents r).pending = s.pending := rfl

@[simp] theorem State.presentsAtOnce_ports (r : Session) : (s.presentsAtOnce r).ports = s.ports := rfl
@[simp] theorem State.presentsAtOnce_sup (r : Session) : (s.presentsAtOnce r).sup = s.sup := rfl
@[simp] theorem State.presentsAtOnce_switch (r : Session) : (s.presentsAtOnce r).switch = s.switch := rfl
@[simp] theorem State.presentsAtOnce_frontEnd (r : Session) : (s.presentsAtOnce r).frontEnd = s.frontEnd := rfl
@[simp] theorem State.presentsAtOnce_mapper (r : Session) : (s.presentsAtOnce r).mapper = s.mapper := rfl
@[simp] theorem State.presentsAtOnce_active (r : Session) : (s.presentsAtOnce r).active = s.active := rfl
@[simp] theorem State.presentsAtOnce_notices (r : Session) : (s.presentsAtOnce r).notices = s.notices := rfl
@[simp] theorem State.presentsAtOnce_entryEnd (r : Session) : (s.presentsAtOnce r).entryEnd = s.entryEnd := rfl
@[simp] theorem State.presentsAtOnce_inputs (r : Session) : (s.presentsAtOnce r).inputs = s.inputs := rfl
@[simp] theorem State.presentsAtOnce_lost (r : Session) : (s.presentsAtOnce r).lost = s.lost := rfl
@[simp] theorem State.presentsAtOnce_pending (r : Session) : (s.presentsAtOnce r).pending = s.pending := rfl

@[simp] theorem State.lostSession_ports (r : Session) (n : Nat) : (s.lostSession r n).ports = s.ports := rfl
@[simp] theorem State.lostSession_gate (r : Session) (n : Nat) : (s.lostSession r n).gate = s.gate := rfl
@[simp] theorem State.lostSession_switch (r : Session) (n : Nat) : (s.lostSession r n).switch = s.switch := rfl
@[simp] theorem State.lostSession_frontEnd (r : Session) (n : Nat) : (s.lostSession r n).frontEnd = s.frontEnd := rfl
@[simp] theorem State.lostSession_mapper (r : Session) (n : Nat) : (s.lostSession r n).mapper = s.mapper := rfl
@[simp] theorem State.lostSession_active (r : Session) (n : Nat) : (s.lostSession r n).active = s.active := rfl
@[simp] theorem State.lostSession_notices (r : Session) (n : Nat) : (s.lostSession r n).notices = s.notices := rfl
@[simp] theorem State.lostSession_progress (r : Session) (n : Nat) : (s.lostSession r n).progress = s.progress := rfl
@[simp] theorem State.lostSession_inputs (r : Session) (n : Nat) : (s.lostSession r n).inputs = s.inputs := rfl
@[simp] theorem State.lostSession_lost (r : Session) (n : Nat) : (s.lostSession r n).lost = s.lost := rfl
@[simp] theorem State.lostSession_pending (r : Session) (n : Nat) : (s.lostSession r n).pending = s.pending := rfl

@[simp] theorem State.openedAgain_state : s.openedAgain.ctl.state = .opened := rfl
@[simp] theorem State.openedAgain_silence : s.openedAgain.sup.silence = .stopped := rfl
@[simp] theorem State.presents_state (r : Session) : (s.presents r).ctl.state = .presenting := rfl
@[simp] theorem State.presents_pending_set (r : Session) : (s.presents r).gate.pending = secureSet s.active r := rfl
@[simp] theorem State.presentsAtOnce_state (r : Session) : (s.presentsAtOnce r).ctl.state = .secure := rfl
@[simp] theorem State.presentsAtOnce_active_set (r : Session) :
    (s.presentsAtOnce r).gate.active = secureSet s.active r := rfl
@[simp] theorem State.lostSession_state (r : Session) (n : Nat) : (s.lostSession r n).ctl.state = .closing := rfl
@[simp] theorem State.lostSession_buffer (r : Session) (n : Nat) : (s.lostSession r n).ctl.buffer = [] := rfl

end Sys2Proof.Machine
end

