-- ==== Sys2Proof/Tests/Slice0.lean ====
section
/-! SUPPORT. Our own tests: an ill-formed term for each check of WellFormed, the spec's worked examples, and for every
statement with hypotheses a concrete state and operands that meet them. -/

namespace Sys2Proof.Tests

open Sys2Proof Sys2Proof.Machine

-- One theorem at a time: theorems that wait for the kernel side by side each hold a thread and its stack.
set_option Elab.async false

/-! ### WellFormed refuses -/

theorem test_wf_lengthOver512 : (Instr.lengthOver512 .pay 0 0 0 512).wf = false := by decide
theorem test_wf_frameCheckFail : (Instr.frameCheckFail .pay 0 0 0 (List.replicate 513 0) 0).wf = false := by
  decide +kernel
theorem test_wf_badKind : (Instr.badKindRequest .pay 0x17 0 0 []).wf = false := by decide
theorem test_wf_post : (Instr.post .app 0 0 (List.replicate 513 0)).wf = false := by decide +kernel
theorem test_wf_stall : (Instr.stallTimerExpiry .pay).wf = false := by decide
theorem test_wf_lines : (Instr.inputFrameStart [480, 0]).wf = false := by decide
theorem test_wf_watch : (Instr.silenceWatchExpiry [0]).wf = false := by decide

/-! ### Worked examples and values of the spec -/

/-- Chapter 1's nine-byte check of the calculation of R2, and its preset. -/
theorem test_crc_digits : crc16 [0x31, 0x32, 0x33, 0x34, 0x35, 0x36, 0x37, 0x38, 0x39] = 0x29B1 ∧
    crc16 [] = 0xFFFF := by decide +kernel

/-- R152: code 3000 is 3516 mV; code 0 is 0 mV, code 4095 is 4800 mV. -/
theorem test_millivolts : millivolts 3000 = 3516 ∧ millivolts 0 = 0 ∧ millivolts 4095 = 4800 := by decide

/-- R71: the greatest quotient, 1047808, is clamped to 65535. -/
theorem test_figure_clamped : contactFigure 4095 1 4095 = 65535 := by decide

/-- R84: the numerators 2^19, −2^19 and −2^19 − 1 round to 1, 0 and −1. -/
theorem test_round : roundPixel (2 ^ 19) = 1 ∧ roundPixel (-(2 ^ 19)) = 0 ∧ roundPixel (-(2 ^ 19) - 1) = -1 := by decide

/-- R85: under the default mapping a smoothed x of 65468 maps to 479 with EDGE. -/
theorem test_edge : (Policy.default.mapPosition 65468 0).x = 479 ∧ (Policy.default.mapPosition 65468 0).edge = true := by
  decide +kernel

/-- R69–R72, the worked example of one burst: medians 2012 and 1500, figure 251, a contact scan; with C_ON 250 it is a
no-contact scan, and with spread limit 6 it is rejected. -/
def exampleBurst : Burst :=
  ⟨⟨2500, 2011, 2010, 2013, 2012⟩, ⟨1498, 1499, 1500, 1501, 1503⟩, ⟨404, 402, 400, 399, 397⟩,
    ⟨1200, 1190, 1210, 1196, 1203⟩⟩

theorem test_burst_contact : burstKind exampleBurst Policy.default.touch .noContact = .contact 2012 1500 ∧
    contactFigure 2012 400 1200 = 251 := by decide +kernel

theorem test_burst_otherwise :
    burstKind exampleBurst { Policy.default.touch with cOn := 250 } .pending = .noContact ∧
    burstKind exampleBurst { Policy.default.touch with spreadLimit := 6 } .contact = .rejected := by decide +kernel

/-- R98, the worked example of the queue under a slow reader: a MOVE is dropped, an UP displaces the oldest MOVE. -/
theorem test_slow_reader :
    let down := touchInput .down 7 ⟨1, 1, false⟩
    let move := touchInput .move 7 ⟨2, 2, false⟩
    let up := touchInput .up 7 ⟨3, 3, false⟩
    let queue := down :: List.replicate 31 move
    joinInput false queue move = queue ∧ joinInput false queue up = down :: (List.replicate 30 move ++ [up]) := by
  decide +kernel

/-- R143, R144, the worked example of a DIGIT cell: glyph 27 covers x 224–255 and y 280–319. -/
theorem test_digit_cell :
    let cell : Cell := ⟨.digit, 160, 240, 319, 359, ⟨1, 1, 1⟩, ⟨9, 9, 9⟩, some 27⟩
    let full : GlyphStore := Vector.replicate 64 (List.replicate 160 0xFF)
    cell.glyphX = 224 ∧ cell.glyphY = 280 ∧ cell.ink? full 0 255 319 = true ∧ cell.ink? full 0 256 300 = false ∧
    cell.ink? full 0 170 250 = false := by decide +kernel

/-- R105, R139: digit 7 on a DIGIT cell with glyph base 20 resolves to glyph 27. -/
theorem test_resolve :
    (resolveCells [7] [⟨.digit, 160, 240, 319, 359, ⟨1, 1, 1⟩, ⟨9, 9, 9⟩, some 20⟩]).map Cell.glyph = [some 27] := by
  decide

/-- R18, R167: every domain has RESTARTED and a waiting NOTICE after a full reset. -/
theorem test_reset_notices :
    ∀ d ∈ allDomains, (State.reset.box d).flags = 1 ∧ (State.reset.box d).place = .waiting := by decide

/-- R133, R146: the stopped output after a full reset has its data enable and syncs inactive, whatever the input has; with
the output running they follow the input. -/
theorem test_vout_pins :
    let vin : VideoPins := ⟨true, true, false, true⟩
    (State.reset.gate.voutPins vin 0 (some (0, 0))).de = false ∧
    (State.reset.gate.voutPins vin 0 (some (0, 0))).vsync = false ∧
    ({ State.reset.gate with stopped := false } : Gate).voutPins vin 0 none = vin := by decide +kernel

/-- R134: in LOCAL the data enable is asserted at the last active pixel, (479, 799), not beyond it and not in the
blanking. -/
theorem test_vout_local :
    let g : Gate := { State.reset.gate with timing := .localTiming, stopped := false }
    let de := fun p => (g.voutPins ⟨true, true, true, false⟩ 7 p).de
    de (some (479, 799)) = true ∧ de (some (480, 799)) = false ∧ de none = false := by decide +kernel

/-! ### States for the witnesses -/

/-- The policy of chapter 3's examples: channel 1 PAY to RAD, channel 5 APP to RAD with HOLD and slots 3 and 7; ten
DIGIT cells and an ENTER cell. -/
def policy : Policy :=
  { Policy.default with
    channels := Vector.ofFn fun i =>
      if i = 1 then ⟨.opened, .pay, .rad, .both, .priority, 480, none, .pass⟩
      else if i = 2 then ⟨.opened, .pay, .rad, .aToB, .bulk, 480, none, .pass⟩
      else if i = 5 then ⟨.opened, .app, .rad, .aToB, .bulk, 480, some 0x88, .hold⟩
      else Policy.default.channels[i]
    slots := Vector.ofFn fun i => if i = 3 then ⟨false, 2000, 100⟩ else if i = 7 then ⟨false, 9, 4095⟩ else ⟨false, 0, 0⟩
    cells := Vector.ofFn fun i =>
      if i < 10 then some ⟨.digit, 40 * i, 0, 40 * i + 39, 39, ⟨1, 1, 1⟩, ⟨9, 9, 9⟩, some 20⟩
      else if i = 10 then some ⟨.enter, 0, 40, 39, 79, ⟨1, 1, 1⟩, ⟨9, 9, 9⟩, none⟩ else none
    supervision := { Policy.default.supervision with sense := ⟨.tripHigh, .tripChange⟩ } }

/-- The part with that policy in force at generation 7, a free glass, buckets full. -/
def inForce : State :=
  { State.reset with
    staging := policy, active := policy, generation := 7
    switch := { State.reset.switch with levels := Vector.ofFn fun i => policy.slots[i].depth }
    frontEnd := { State.reset.frontEnd with scan := .noContact, timer := .running 5, panel := .detect } }

/-- A PIN session of 4 to 6 digits with auto-enter. -/
def pinSession : Session := ⟨.pin, .overlay, [1, 2, 3, 4, 5, 6, 7, 8, 9, 0], 4, 6, true, 30, 15, 90⟩

/-- An entry of channel 5 from slot 3. -/
def entry : Entry := ⟨5, .app, some 3, .bulk, false, false, [1, 2, 3]⟩

/-- A queue for RAD that holds the BULK entries `es`. -/
def radHolds (s : State) (es : List Entry) : State := s.setQueue .rad { s.queue .rad with entries := ⟨[], es⟩ }

/-- That part in SECURE with three digits entered, a candidate under the finger, and an entry held. -/
def inSecure : State :=
  radHolds
    { inForce with
      ctl := { Controller.reset with
        state := .secure, session := 1, record := some pinSession, buffer := [4, 5, 6], candidate := .cell 2
        interKey := .running 15000, total := .running 90000, sessionStroke := some 9 }
      gate := { inForce.gate with
        stopped := false, inFrame := true, active := secureSet policy pinSession
        pending := { secureSet policy pinSession with dots := 3 } }
      sup := { inForce.sup with silence := .running 2000 } }
    [{ entry with held := true }]

/-- That part in LOCKED with the lock shown. -/
def inLocked : State :=
  { inForce with
    ctl := { Controller.reset with state := .locked, lockShown := true }
    gate := { inForce.gate with timing := .localTiming, stopped := false, active := lockSet policy, pending := lockSet policy } }

/-- An ENTRY-BEGIN body: PIN, OVERLAY or FULL, the digits in order, lengths 4 and 12, no auto-enter, default times. -/
def beginBody (presentation : Byte) : List Byte :=
  [0, presentation, 0, 1, 2, 3, 4, 5, 6, 7, 8, 9, 4, 12, 0, 0, 0, 0, 0]

/-! ### One step on a small state, with values of the worked examples -/

/-- The state after one command. -/
def after (c : Instr) (s : State) : State :=
  match exec c s with
  | .next t => t
  | .fault _ => s
  | .refused _ => s

/-- Chapter 3, a slot runs out of budget: 480 bytes from a level of 2000 leave 1512. -/
theorem test_budget :
    (after (.post .app 1 3 (5 :: List.replicate 480 0)) inForce).switch.levels[3]? = some 1512 := by decide +kernel

/-- The same example: at a level of 48 a post of 480 bytes is refused QUOTA, and one of 40 bytes leaves 0. -/
theorem test_quota :
    let s := setLevel inForce 3 48
    ((after (.post .app 1 3 (5 :: List.replicate 480 0)) s).port .app).replies.map Reply.status = [.quota] ∧
    (after (.post .app 1 3 (5 :: List.replicate 40 0)) s).switch.levels[3]? = some 0 := by decide +kernel

/-- The same example: a refill raises the level by 100. -/
theorem test_refill : (after .refillTimerExpiry (setLevel inForce 3 48)).switch.levels[3]? = some 148 := by decide +kernel

/-- Chapter 3, QUEUE_FULL: with 18 BULK entries the mark (PAY, RAD queue, BULK) is set. -/
theorem test_queue_full :
    ((after (.post .pay 1 0 [2, 9]) (radHolds inForce (List.replicate 18 entry))).queue .rad).wanted.pay.bulk = true := by
  decide +kernel

/-- R106: the frame start that shows the secure set enters SECURE and lights the lamp. -/
theorem test_presented :
    let s := { inSecure with ctl := { inSecure.ctl with state := .presenting, buffer := [] }
                             gate := { inSecure.gate with active := OverlaySet.clear } }
    let t := after (.inputFrameStart (List.replicate 800 480)) s
    t.ctl.state = .secure ∧ t.gate.lamp = .high ∧ t.progress = [⟨1, .presented, 0⟩] := by decide +kernel

/-- R126: a tamper trip in SECURE erases the digits and ends the session TAMPER without them. -/
theorem test_trip :
    let s := inSecure.setTamper .a { inSecure.tamper .a with pin := .high, timer := .running 1 }
    let t := after (.tamperFilterExpiry .a) s
    t.ctl.state = .locked ∧ t.ctl.buffer = [] ∧ t.entryEnd = some ⟨1, .tamper, .pin, 3, .absent⟩ := by decide +kernel

/-- R14, R55: RAD's DELIVERY carries channel, source, slot, payload length and payload. -/
theorem test_delivery_frame :
    ((after (.readyAsserted .rad) ((radHolds inForce [entry]).setBox .rad NoticeBox.blank)).port .rad).tx =
      some ⟨.delivery, ⟨0x81, 0, 0, [5, 1, 3, 3, 0, 1, 2, 3]⟩⟩ := by decide +kernel

/-- R33: REVERT gives the staging set back its committed record. -/
theorem test_revert :
    (after (.revert .pay 1 0 []) { inForce with staging := Policy.default }).staging.debounce = 20 ∧
    (after (.revert .pay 1 0 []) { inForce with staging := Policy.default }).staging.slots[3]? =
      some ⟨false, 2000, 100⟩ := by decide +kernel

/-- R67: a tick of a running burst takes the panel from X to Y, and Z2 is the last. -/
theorem test_tick :
    let s := fun a => ({ inForce with
      adc := ⟨.burst, false⟩
      frontEnd := { inForce.frontEnd with progress := .burstRunning, panel := a } } : State)
    (panelTick (s .x)).frontEnd.panel.pins = (.open_, .open_, .high, .low) ∧
    (panelTick (s .z2)).frontEnd.panel = .z2 := by decide +kernel

/-- R96: a tamper trip in OPEN tells APP the cancelled stroke 9, the cancelled FN key and FOCUS-LOST, in this order. -/
theorem test_trip_tells :
    let s := inForce.setCtl { inForce.ctl with appStroke := some 9, keyMarks := ⟨false, false, false, true⟩ }
    let t := after (.tamperFilterExpiry .a) (s.setTamper .a { s.tamper .a with pin := .high, timer := .running 1 })
    t.inputs.map (fun e => (e.kind, e.stroke, e.key, e.cancelled)) =
      [(.up, 9, none, true), (.release, 0, some .fn, true), (.focusLost, 0, none, false)] ∧
    t.ctl.appStroke = none ∧ t.ctl.keyMarks.fn = false := by decide +kernel

/-- R133: in SECURE with an OVERLAY keypad shown and one malformed frame behind, an expiry that judges a second one
malformed ends the session VIDEO_LOST with its keypad gone at once. -/
theorem test_silence :
    let s := inSecure.setGate { inSecure.gate with malformed := 1 }
    let t := after (.silenceWatchExpiry [480]) s
    t.ctl.state = .opened ∧ t.gate.stopped = true ∧ t.gate.malformed = 2 ∧ t.gate.lamp = .low ∧
    t.entryEnd = some ⟨1, .videoLost, .pin, 3, .absent⟩ := by decide +kernel

/-- R22, R28: a TOUCH record with a scan period of 1 and a down debounce of 9 is staged at 2 and 8 and reported CLAMPED
at field 1. -/
theorem test_load_clamps :
    let r := runLoad [1, 6, 0, 1, 24, 88, 2, 32, 3, 9, 3, 2, 2, 128, 4] inForce
    r.2 = (.ok, [1, 1, 1]) ∧ r.1.staging.touch.scanPeriod = 2 ∧ r.1.staging.touch.downDebounce = 8 := by decide +kernel

/-- R105, R135, R106, R132, R119: the glass comes free in ARMING. A FULL session on a stopped output is presented at once,
in LOCAL timing; an OVERLAY session waits there, and during a loss episode it ends VIDEO_LOST. -/
theorem test_arming_ends :
    let arming := fun (p : SessionPresentation) (episode : Bool) => after (.scanTimerExpiry 32768) ({ inForce with
      frontEnd := { inForce.frontEnd with scan := .pending, down := 1 }
      ctl := { inForce.ctl with state := .arming, session := 1, record := some { pinSession with presentation := p } }
      gate := { inForce.gate with episode := episode } } : State)
    (arming .full true).ctl.state = .secure ∧ (arming .full true).gate.timing = .localTiming ∧
    (arming .full true).progress = [⟨1, .presented, 0⟩] ∧ (arming .overlay false).ctl.state = .presenting ∧
    (arming .overlay false).gate.stopped = true ∧ (arming .overlay true).ctl.state = .opened ∧
    (arming .overlay true).entryEnd = some ⟨1, .videoLost, .pin, 0, .absent⟩ := by decide +kernel

/-! ### Witnesses: each statement's hypotheses are met, clause by clause, at the ends of their ranges -/

theorem witness_step_front :
    ({ State.reset with pending := [.fullReset, .breakEnd .app] } : State).pending = .fullReset :: [.breakEnd .app] ∧
    State.reset.pending = [] := by
  exact ⟨rfl, rfl⟩

theorem witness_tick :
    let s := fun a => ({ inForce with
      adc := ⟨.burst, false⟩
      frontEnd := { inForce.frontEnd with progress := .burstRunning, panel := a } } : State)
    inForce.pending = [] ∧ inForce.frontEnd.progress ≠ .burstRunning ∧
    ∀ a ∈ burstOrder, (s a).pending = [] ∧ (s a).frontEnd.progress = .burstRunning ∧
      ∃ b ∈ burstOrder,
        ((s a).frontEnd.panel, b) ∈ [(Arrangement.x, Arrangement.y), (.y, .z1), (.z1, .z2), (.z2, .z2)] := by
  decide +kernel

theorem witness_reset_stands :
    (fullReset inSecure).inReset = true ∧ (∀ d, Instr.localFrameEnd ≠ .readyAsserted d ∧
      Instr.localFrameEnd ≠ .readyDeasserted d) ∧ (∀ k l, Instr.localFrameEnd ≠ .keyInputChange k l) ∧
    (∀ i l, Instr.localFrameEnd ≠ .tamperPinChange i l) ∧ Instr.localFrameEnd ≠ .fullReset ∧
    Instr.localFrameEnd ≠ .fullResetEnd := by
  exact ⟨rfl, fun d => ⟨nofun, nofun⟩, fun k l => nofun, fun i l => nofun, nofun, nofun⟩

theorem witness_resetEnd_first :
    (fullReset inSecure).inReset = true ∧ (fullReset inSecure).adc.use = .free := by
  decide +kernel

theorem witness_resetEnd_pins :
    (∀ d, (State.reset.port d).ready = .low) ∧ (∀ k, (State.reset.key k).pin = .high) ∧
    ∀ i, (State.reset.tamper i).pin = .low := by
  exact ⟨fun d => by cases d <;> rfl, fun k => by cases k <;> rfl, fun i => by cases i <;> rfl⟩

theorem witness_receiver_longest :
    (⟨0, 0, 0, List.replicate 512 1⟩ : Frame).body.length ≤ 512 ∧ (⟨0, 0, 0, []⟩ : Frame).body.length ≤ 512 := by
  decide +kernel

theorem witness_bad_frames :
    let s := State.reset.setPort .app { State.reset.port .app with rx := .header [1], interByte := .running 5 }
    s.Receives .app ∧ (s.port .app).rx ≠ .hunt ∧ (s.port .app).interByte.isRunning = true ∧
    State.reset.Receives .rad ∧ (State.reset.port .rad).rx = .hunt ∧ 512 < (513 : Word16).toNat ∧
    512 < (65535 : Word16).toNat ∧ (⟨1, 0, 0, [2]⟩ : Frame).check ≠ 0 := by
  decide +kernel

theorem witness_received_byte :
    State.reset.Receives .rad ∧ (State.reset.port .rad).rx.take 0xC3 = (.header [], .none) ∧
    (State.reset.port .rad).rx.take 0xC2 = (.hunt, .none) := by
  decide +kernel

theorem witness_received_bad :
    let s := State.reset.setPort .pay { State.reset.port .pay with rx := .header [1, 0, 0, 1] }
    s.Receives .pay ∧ (s.port .pay).rx.take 2 = (.hunt, .frameError) ∧
    (s.port .pay).rx.take 1 = (.body 1 0 0 257 [], .none) := by
  decide +kernel

theorem witness_bytewise :
    let f : Frame := ⟨0x02, 7, 3, []⟩
    let s := State.reset.setPort .app { State.reset.port .app with rx := .check 0x02 7 3 [] (some (f.check.extractLsb' 0 8)) }
    s.Receives .app ∧ (s.port .app).rx.take (f.check.extractLsb' 8 8) = (.hunt, .frame f) ∧
    requestOf (.status .app 7 3 []) = some (.app, f) := by
  decide +kernel

theorem witness_break :
    let s := State.reset.setPort .pay { State.reset.port .pay with inBreak := true }
    s.Live ∧ (s.port .pay).inBreak = true ∧ requestOf (.revert .pay 0 0 []) = some (.pay, ⟨0x11, 0, 0, []⟩) := by
  decide +kernel

theorem witness_serialBreak :
    inSecure.Receives .pay ∧ inSecure.Receives .app ∧ inSecure.Receives .rad := by
  decide +kernel

theorem witness_serialBreak_outside :
    inForce.Receives .pay ∧ ¬inForce.inSession ∧ inForce.sup.silence = .stopped := by
  decide +kernel

/-- RAD's queue holds an entry and PAY a mark on it. -/
theorem witness_serialBreak_marks :
    let s := radHolds inForce [entry]
    let m := s.setQueue .rad { s.queue .rad with wanted := ⟨⟨false, true⟩, ⟨false, false⟩, ⟨false, false⟩⟩ }
    m.Receives .rad ∧ (m.queue .rad).all ≠ [] ∧ ((m.queue .rad).wanted.get .pay).bulk = true ∧ inForce.Receives .rad ∧
    (inForce.queue .rad).all = [] := by
  decide +kernel

theorem witness_overrun :
    let r : Reply := ⟨0, 0, .ok, 0x02, []⟩
    let s := State.reset.setPort .rad { State.reset.port .rad with replies := [r, r, r, r] }
    requestOf (.status .rad 0 0 []) = some (.rad, ⟨0x02, 0, 0, []⟩) ∧ s.Receives .rad ∧ 4 ≤ (s.port .rad).replies.length := by
  decide +kernel

theorem witness_port_refuses :
    State.reset.Accepts .pay ∧ State.reset.Accepts .app ∧
    requestOf (.badKindRequest .pay 0x18 0 0 []) = some (.pay, ⟨0x18, 0, 0, []⟩) ∧ isRequestCode 0x18 = false ∧
    isRequestCode 0x00 = false ∧ isRequestCode 0x05 = false ∧ isRequestCode 0x0F = false ∧
    requestOf (.load .app 0 0 []) = some (.app, ⟨0x10, 0, 0, []⟩) ∧ isRequestCode 0x10 = true ∧ isRequestCode 0x17 = true ∧
    isRequestCode 0x04 = true ∧ fitsRequest 0x04 1 = false ∧ fitsRequest 0x01 0 = false ∧ fitsRequest 0x01 513 = false := by
  decide +kernel

/-- One payload byte from slot 7 at a level of exactly its cost; 480 bytes from slot 3. -/
theorem witness_post :
    let s := inForce
    let c := policy.channels[5]
    s.Accepts .app ∧ s.generation ≠ 0 ∧ s.active.channels[5]? = some c ∧ c.state = .opened ∧ s.ctl.state = .opened ∧
    c.endA = .app ∧ c.direction ≠ .bToA ∧ c.mask = some 0x88 ∧ (0x88 : Byte).getLsbD 7 = true ∧
    s.switch.bars[7]? = some false ∧ 1 + 8 = (s.switch.levels[7]?).getD 0 ∧ 480 ≤ c.maxPayload ∧
    480 + 8 ≤ (s.switch.levels[3]?).getD 0 ∧ (s.queue .rad).all.length ≤ 23 ∧
    payloadBytes (s.queue .rad).all + 480 ≤ 6144 ∧ (s.queue .rad).entries.bulk.length ≤ 17 := by
  decide +kernel

theorem witness_post_held :
    let s := inSecure
    let c := policy.channels[5]
    s.Accepts .app ∧ s.ctl.state = .secure ∧ s.active.channels[5]? = some c ∧ c.hold = .hold ∧
    (s.queue .rad).all.length ≤ 23 ∧ (s.queue .rad).entries.bulk.length ≤ 17 := by
  decide +kernel

theorem witness_post_limits :
    let s := radHolds inForce (List.replicate 17 entry)
    s.Accepts .pay ∧ (s.active.channels[2]?).map (fun c => (c.state, c.cls)) = some (.opened, .bulk) ∧
    (s.queue .rad).entries.bulk.length = 17 ∧ payloadBytes (s.queue .rad).entries.bulk + 480 ≤ 4608 := by
  decide +kernel

/-- Each check of R41 fails somewhere, with those before it passed. -/
theorem witness_post_refused :
    let refuse := { policy with channels := policy.channels.set 5 { policy.channels[5] with hold := .refuse } }
    let barred : State := { inForce with switch := { inForce.switch with bars := inForce.switch.bars.set 3 true } }
    let refusing : State := { inSecure with active := refuse, staging := refuse }
    State.reset.Accepts .app ∧ inLocked.Accepts .app ∧ (∀ d ∈ allDomains, inForce.Accepts d) ∧ barred.Accepts .app ∧
    refusing.Accepts .app ∧ (radHolds inForce (List.replicate 18 entry)).Accepts .app ∧
    (runPost .app 3 [5] State.reset).2.1 = .noPolicy ∧ (runPost .app 3 [5] inLocked).2.1 = .locked ∧
    (runPost .pay 0 [31, 1] inForce).2.1 = .noChannel ∧ (runPost .pay 0 [32, 1] inForce).2.1 = .noChannel ∧
    (runPost .app 3 [1, 1] inForce).2.1 = .notEndpoint ∧ (runPost .rad 0 [5, 1] inForce).2.1 = .direction ∧
    (runPost .app 8 [5, 1] inForce).2.1 = .slotDenied ∧ (runPost .app 2 [5, 1] inForce).2.1 = .slotDenied ∧
    (runPost .app 3 [5, 1] barred).2.1 = .slotBarred ∧ (runPost .app 3 [5] inForce).2.1 = .badLength ∧
    (runPost .app 3 (5 :: List.replicate 481 1) inForce).2.1 = .tooLong ∧
    (runPost .app 3 [5, 1] refusing).2.1 = .held ∧ (runPost .app 7 [5, 1, 2] inForce).2.1 = .quota ∧
    (runPost .app 3 [5, 1] (radHolds inForce (List.replicate 18 entry))).2.1 = .queueFull := by
  decide +kernel

theorem witness_status :
    State.reset.Accepts .pay ∧ State.reset.Accepts .app ∧ State.reset.Accepts .rad ∧ (7 : Byte).toNat < 8 ∧
    8 ≤ (8 : Byte).toNat := by
  decide +kernel

theorem witness_clear :
    let s := inForce
    s.Accepts .app ∧ (s.box .app).flags &&& ~~~((0 : Byte) ++ (1 : Byte)) = 0 ∧ (s.box .app).flags &&& ~~~((0 : Byte) ++ (2 : Byte)) ≠ 0 := by
  decide +kernel

theorem witness_load :
    inForce.Accepts .pay ∧ (List.replicate 511 (1 : Byte)).length ≤ 511 ∧ (7 : Byte).toNat < 8 ∧ (1 : Byte).toNat ≤ 1 := by
  decide +kernel

/-- Every record kind has a record with legal codes and one that is not of its length; kinds 0 and 12 are unknown. -/
theorem witness_load_records :
    let lengths := [9, 5, 17, 160, 8, 12, 20, 8, 1, 2, 1]
    (∀ k ∈ List.range 11,
      runLoad (1 :: byte (k + 1) :: 0 :: List.replicate (lengths.getD k 0 + 1) 0) inForce = (inForce, .badLength, []) ∧
      (runLoad (1 :: byte (k + 1) :: 0 :: List.replicate (lengths.getD k 0) 0) inForce).2.1 = .ok ∧
      (runLoad (1 :: byte (k + 1) :: 255 :: List.replicate (lengths.getD k 0) 0) inForce).2.2 =
        [1, 2, 2]) ∧
    (runLoad [1, 0, 0] inForce).2.2 = [1, 2, 1] ∧ (runLoad [2, 12, 0] inForce).2.2 = [2, 2, 1, 2, 4] ∧
    (runLoad [1, 8, 0, 4, 0, 0, 0, 0, 0, 0, 0] inForce).2.2 = [1, 2, 3] ∧
    (runLoad [2, 11, 2, 16, 11, 3, 1] inForce).2.2 = [2, 1, 1, 2, 2] := by
  decide +kernel

theorem witness_revert :
    inLocked.Accepts .pay := by
  decide +kernel

theorem witness_commit_refused :
    inForce.Accepts .pay ∧ (7 : Byte).toNat + 256 * (0 : Byte).toNat = inForce.generation ∧
    (8 : Byte).toNat + 256 * (0 : Byte).toNat ≠ inForce.generation ∧
    inSecure.ctl.state ≠ .opened ∧ inSecure.ctl.state ≠ .locked ∧ inSecure.Accepts .pay ∧ inSecure.generation = 7 ∧
    ({ policy with mapping := ⟨0, 0, 0, 0, 0, 0⟩ } : Policy).validate = some (7, 0) := by
  decide +kernel

/-- Each of the ten checks of R35 fails in its turn. -/
theorem witness_validate :
    let cells := fun (i : Fin 20) (c : Option Cell) => ({ policy with cells := policy.cells.set i c } : Policy)
    let clear := fun (x0 y0 x1 y1 : Nat) => (⟨.clear, x0, y0, x1, y1, ⟨1, 1, 1⟩, ⟨9, 9, 9⟩, none⟩ : Cell)
    let one := cells 12 (some (clear 0 80 39 119))
    policy.validate = none ∧
    ({ policy with channels := policy.channels.set 0 { policy.channels[1] with endB := .pay } } : Policy).validate =
      some (1, 0) ∧
    ({ policy with channels := policy.channels.set 5 { policy.channels[5] with mask := some 0 } } : Policy).validate =
      some (1, 5) ∧
    (cells 10 none).validate = some (3, 255) ∧
    ({ one with cells := one.cells.set 19 (some (clear 0 120 39 159)) } : Policy).validate = some (3, 19) ∧
    (cells 12 (some (clear 0 80 480 119))).validate = some (3, 12) ∧
    (cells 12 (some (clear 39 39 79 119))).validate = some (3, 12) ∧
    (cells 12 (some (clear 0 80 7 119))).validate = some (3, 12) ∧
    ({ policy with mapping := ⟨0, 0, 0, 0, 0, 0⟩ } : Policy).validate = some (7, 0) ∧
    ({ policy with touch := { policy.touch with cOn := policy.touch.cOff + 1 } } : Policy).validate = some (6, 0) ∧
    ({ policy with supervision := { policy.supervision with abort := 3401 } } : Policy).validate = some (8, 0) := by
  decide +kernel

theorem witness_commit :
    inForce.Accepts .pay ∧ (7 : Byte).toNat + 256 * (0 : Byte).toNat = inForce.generation ∧
    inForce.ctl.state = .opened ∧ inForce.staging.validate = none ∧ inLocked.ctl.state = .locked ∧
    inLocked.generation = 7 ∧ inLocked.staging.validate = none ∧ State.reset.generation = 0 ∧
    State.reset.frontEnd.scan = .idle ∧ State.reset.staging.validate = none ∧
    ∀ i ∈ [TamperInput.a, .b], (inForce.tamper i).inTrip = false := by
  decide +kernel

/-- A trip that begins at the commit, in OPEN and in LOCKED, and one that holds on. -/
theorem witness_commit_trips :
    let asleep := { policy with supervision := Policy.default.supervision }
    let high := fun (s : State) (inTrip : Bool) => s.setTamper .a { s.tamper .a with filtered := .high, inTrip := inTrip }
    let s := high { inForce with active := asleep } false
    let l := high { inLocked with active := asleep } false
    let h := high inForce true
    let commit := after (.commit .pay 0 0 [7, 0])
    s.Accepts .pay ∧ s.generation = 7 ∧ s.ctl.state = .opened ∧ (s.tamper .a).inTrip = false ∧
    ((commit s).tamper .a).inTrip = true ∧ (commit s).ctl.state = .locked ∧
    l.Accepts .pay ∧ l.ctl.state = .locked ∧ ((commit l).tamper .a).latch = true ∧
    h.Accepts .pay ∧ (h.tamper .a).inTrip = true ∧ (commit h).ctl.state = .opened := by
  decide +kernel

/-- A trip that begins at the commit in OPEN, on an idle and on a running output. -/
theorem witness_commit_trip_gate :
    let trips := fun (g : Gate) => ({ inForce with
      active := { policy with supervision := Policy.default.supervision }, gate := g } : State).setTamper .a
        { inForce.tamper .a with filtered := .high }
    ∀ stopped ∈ [true, false], let s := trips { inForce.gate with stopped := stopped }
      s.Accepts .pay ∧ s.generation = 7 ∧ s.ctl.state = .opened ∧ (s.tamper .a).inTrip = false ∧
      s.staging.validate = none ∧ ((after (.commit .pay 0 0 [7, 0]) s).tamper .a).inTrip = true ∧
      (s.gate.Idle ↔ stopped = true) := by
  decide +kernel

theorem witness_fields :
    (beginBody 0).length = 19 ∧ (beginBody 1).length = 19 ∧ ((beginBody 0).getD 0 0).toNat = 0 ∧
    ((1 :: beginBody 1 |>.take 19).getD 0 0).toNat = 1 ∧ ((beginBody 2).getD 1 0).toNat = 2 := by
  decide +kernel

theorem witness_controller_refuses :
    let s := inForce
    s.Accepts .pay ∧ (beginBody 0).length = 19 ∧ State.reset.Accepts .pay ∧ State.reset.generation = 0 ∧
    inLocked.Accepts .pay ∧ inLocked.ctl.state = .locked ∧ inSecure.Accepts .pay ∧ inSecure.ctl.state = .secure ∧
    s.generation ≠ 0 ∧ s.ctl.state = .opened ∧ s.entryEnd = none ∧ s.sup.level ≠ .belowAbort ∧
    sessionOf (beginBody 2) = none ∧ ¬s.inSession ∧ inLocked.sup.tamper.a.inTrip = false ∧
    inLocked.sup.tamper.b.inTrip = false ∧ inLocked.ctl.lockShown = true := by
  decide +kernel

theorem witness_controller_refuses_more :
    let e : EntryEnd := ⟨1, .aborted, .pin, 0, .absent⟩
    let s1 : State := { inForce with entryEnd := some e }
    let s2 : State := { inForce with sup := { inForce.sup with level := .belowAbort } }
    let s3 := inLocked.setTamper .a { inLocked.tamper .a with inTrip := true }
    let s4 := inLocked.setCtl { inLocked.ctl with lockShown := false }
    s1.Accepts .pay ∧ s1.entryEnd ≠ none ∧ s1.ctl.state = .opened ∧ s1.generation ≠ 0 ∧
    s2.Accepts .pay ∧ s2.sup.level = .belowAbort ∧ s2.entryEnd = none ∧ s2.ctl.state = .opened ∧ s2.generation ≠ 0 ∧
    s3.Accepts .pay ∧ s3.ctl.state = .locked ∧ s3.sup.tamper.a.inTrip = true ∧
    s4.Accepts .pay ∧ s4.ctl.state = .locked ∧ s4.ctl.lockShown = false ∧ s4.sup.tamper.a.inTrip = false ∧
    s4.sup.tamper.b.inTrip = false := by
  decide +kernel

theorem witness_begin_refuses :
    let bare : State := { inForce with active := Policy.default }
    let twice : List Byte := [0, 0, 9, 1, 2, 3, 4, 5, 6, 7, 8, 9, 4, 12, 0, 0, 0, 0, 0]
    let least : List Byte := [0, 0, 0, 1, 2, 3, 4, 5, 6, 7, 8, 9, 12, 4, 0, 0, 0, 0, 0]
    let mode := fun (b : List Byte) => (sessionOf b).map Session.mode
    bare.Accepts .pay ∧ bare.generation ≠ 0 ∧ bare.ctl.state = .opened ∧ bare.entryEnd = none ∧
    bare.sup.level ≠ .belowAbort ∧ mode (beginBody 0) = some .pin ∧ (∀ i : Fin 20, bare.active.cells[i] = none) ∧
    ¬(∀ i : Fin 20, inForce.active.cells[i] = none) ∧ mode twice = some .pin ∧ twice.length = 19 ∧
    ¬(((List.range 10).map fun j => (twice.getD (2 + j) 0).toNat).Perm (List.range 10)) ∧ mode least = some .pin ∧
    least.length = 19 ∧ (((List.range 10).map fun j => (least.getD (2 + j) 0).toNat).Perm (List.range 10)) ∧
    (sessionOf least).any (fun r => decide (r.maxLength < r.least)) = true := by
  decide +kernel

theorem witness_entryBegin :
    let s := inForce
    s.Accepts .pay ∧ s.generation ≠ 0 ∧ s.ctl.state = .opened ∧ s.entryEnd = none ∧ s.sup.level ≠ .belowAbort ∧
    s.active.presentCells ≠ [] ∧ s.active.countRole .digit = 10 ∧ s.frontEnd.scan = .noContact ∧
    s.gate.timing = .follow ∧ s.gate.episode = false ∧
    (sessionOf (beginBody 1)).map (fun r => (r.presentation, r.mode)) = some (.full, .pin) ∧
    (sessionOf (beginBody 0)).map (fun r => decide (r.mode = .pin ∧ r.presentation = .overlay ∧
      r.digitMap.length = 10 ∧ r.digitMap.Nodup ∧ (∀ x ∈ r.digitMap, x ≤ 9) ∧ r.least ≤ r.maxLength)) = some true := by
  decide +kernel

theorem witness_entryBegin_more :
    let running : State := { inForce with gate := { inForce.gate with stopped := false } }
    let lost : State := { inForce with gate := { inForce.gate with episode := true } }
    let touched : State := { inForce with frontEnd := { inForce.frontEnd with scan := .contact } }
    running.Accepts .pay ∧ running.gate.stopped = false ∧ running.gate.timing = .follow ∧ running.gate.episode = false ∧
    lost.Accepts .pay ∧ lost.gate.episode = true ∧ touched.Accepts .pay ∧ touched.frontEnd.scan ≠ .noContact ∧
    touched.frontEnd.scan ≠ .idle ∧
    (sessionOf (1 :: (beginBody 0).drop 1)).map (fun r => (r.mode, r.presentation)) = some (.calibrate, .full) := by
  decide +kernel

theorem witness_entryBegin_full :
    let at1 := fun (t : Timing) => inForce.setGate { inForce.gate with timing := t }
    (∀ t ∈ [Timing.follow, .toLocal, .localTiming, .toFollow, .rejoin], (at1 t).Accepts .pay ∧ (at1 t).gate.timing = t ∧
      (at1 t).gate.active.isSecure = false) ∧ inForce.gate.stopped = true := by
  decide +kernel

/-- An OVERLAY session begins with the glass free in every timing state, and during a loss episode. -/
theorem witness_entryBegin_overlay :
    let at1 := fun (t : Timing) (e : Bool) => inForce.setGate { inForce.gate with timing := t, episode := e }
    (∀ t ∈ [Timing.follow, .toLocal, .localTiming, .toFollow, .rejoin], ∀ e ∈ [true, false],
      (at1 t e).Accepts .pay ∧ (at1 t e).gate.timing = t ∧ (at1 t e).gate.episode = e ∧
      (at1 t e).frontEnd.scan = .noContact) ∧
    (sessionOf (beginBody 0)).map Session.presentation = some .overlay := by
  decide +kernel

theorem witness_slotBar :
    inForce.Accepts .pay ∧ (7 : Byte).toNat < 8 ∧ 8 ≤ (8 : Byte).toNat ∧ 2 ≤ (2 : Byte).toNat ∧ (1 : Byte).toNat = 1 ∧
    (0 : Byte).toNat = 0 := by
  decide +kernel

theorem witness_unlock :
    inLocked.Accepts .pay ∧ inLocked.ctl.state = .locked ∧ inLocked.sup.tamper.a.inTrip = false ∧
    inLocked.sup.tamper.b.inTrip = false ∧ inLocked.ctl.lockShown = true ∧ inLocked.frontEnd.scan = .noContact ∧
    ({ inLocked with frontEnd := { inLocked.frontEnd with scan := .lifting } } : State).Accepts .pay := by
  decide +kernel

theorem witness_ready :
    State.reset.Live ∧ (State.reset.port .rad).stallTimer.isRunning = true := by
  decide +kernel

theorem witness_transmitters :
    let s := radHolds (inForce.setPort .rad { inForce.port .rad with ready := .high }) [{ entry with held := true }, entry]
    let t := s.setBox .rad { s.box .rad with place := .empty }
    (s.port .rad).tx = none ∧ (s.port .rad).ready = .high ∧ (s.port .rad).replies = [] ∧ (s.box .rad).place = .waiting ∧
    (t.box .rad).place ≠ .waiting ∧ (t.queue .rad).choose (t.active.weights.get .rad) = some (.bulk, 0) ∧
    (t.queue .rad).entries.get .bulk = [{ entry with held := true }] ++ entry :: [] ∧
    (inForce.port .rad).ready = .low := by
  decide +kernel

theorem witness_transmitters_more :
    let r : Reply := ⟨0, 0, .ok, 0x02, []⟩
    let e : EntryEnd := ⟨1, .aborted, .pin, 0, .absent⟩
    let high := fun d => inForce.setPort d { inForce.port d with ready := .high }
    let s1 := inForce.setPort .app { inForce.port .app with ready := .high, replies := [r] }
    let s2 : State := { high .pay with entryEnd := some e }
    let s3 : State := { high .pay with progress := [⟨1, .presented, 0⟩] }
    let s4 : State := { high .app with inputs := [plainInput .focusLost] }
    let s5 := radHolds ((high .rad).setBox .rad NoticeBox.blank) [{ entry with held := true }]
    (s1.port .app).replies = [r] ∧ (s2.port .pay).replies = [] ∧ s2.entryEnd = some e ∧ s3.entryEnd = none ∧
    s3.progress = [⟨1, .presented, 0⟩] ∧ s4.inputs = [plainInput .focusLost] ∧ (s4.port .app).tx = none ∧
    (s5.port .rad).ready = .high ∧ (s5.box .rad).place ≠ .waiting ∧
    ∀ e ∈ (s5.queue .rad).all, e.held = true ∨ e.sending = true := by
  decide +kernel

theorem witness_completed :
    let r : Reply := ⟨0, 0, .ok, 0x02, []⟩
    let q : Reply := ⟨0, 0, .ok, 0x17, []⟩
    let sending := fun d source => inForce.setPort d { inForce.port d with tx := some ⟨source, r.frame⟩, replies := [r] }
    let s2 := inForce.setPort .pay { inForce.port .pay with tx := some ⟨.reply, q.frame⟩, replies := [q] }
    (sending .pay .reply).Live ∧ (sending .pay .reply).isSending .pay .reply = true ∧
    ((sending .pay .reply).port .pay).replies = [r] ∧ r.echoed ≠ 0x17 ∧ s2.Live ∧ s2.isSending .pay .reply = true ∧
    (s2.port .pay).replies = [q] ∧ q.status = .ok ∧ q.echoed = 0x17 ∧
    (sending .pay .entryEnd).isSending .pay .entryEnd = true ∧
    (sending .pay .progress).isSending .pay .progress = true ∧ (sending .app .input).isSending .app .input = true := by
  decide +kernel

theorem witness_notice :
    let s := (inForce.setPort .app { inForce.port .app with tx := some ⟨.notice, noticeFrame 1⟩ }).setBox .app
      { inForce.box .app with place := .sending 1, followUp := true }
    s.Live ∧ s.isSending .app .notice = true ∧ (s.box .app).place = .sending 1 := by
  decide +kernel

/-- Both figures exactly at half the BULK limits. -/
theorem witness_delivery :
    let q := List.replicate 9 { entry with payload := List.replicate 256 0 }
    let s := (radHolds inForce ({ entry with sending := true } :: q)).setPort .rad
      { inForce.port .rad with tx := some ⟨.delivery, entry.frame⟩ }
    s.Live ∧ s.isSending .rad .delivery = true ∧ ((s.queue .rad).entries.bulk.filter fun e => !e.sending).length = 9 ∧
    payloadBytes ((s.queue .rad).entries.bulk.filter fun e => !e.sending) = 2304 := by
  decide +kernel

theorem witness_refill :
    inForce.Live ∧ inForce.switch.refillTimer.isRunning = true ∧ inForce.sup.requestTimer.isRunning = true := by
  decide +kernel

theorem witness_scan :
    let s : State := { inForce with adc := ⟨.free, false⟩ }
    let b : State := { inForce with frontEnd := { inForce.frontEnd with progress := .burstRunning } }
    inForce.Live ∧ inForce.frontEnd.timer.isRunning = true ∧ inForce.frontEnd.progress = .none ∧
    inForce.frontEnd.scan = .noContact ∧ inForce.adc.use ≠ .free ∧ s.Live ∧ s.adc.use = .free ∧ b.Live ∧
    b.frontEnd.progress ≠ .none ∧ ¬(32768 : Word16).toNat < inForce.active.touch.penThreshold * 256 ∧
    (32767 : Word16).toNat < inForce.active.touch.penThreshold * 256 := by
  decide +kernel

/-- A scan with no pen in PENDING, free, RELEASING and ARMING, in CONTACT and in LIFTING. -/
theorem witness_scan_no_pen :
    let scanning := fun (st : ScanState) (lift : Nat) (ctl : Controller) => ({ inForce with
      frontEnd := { inForce.frontEnd with scan := st, down := 1, lift := lift }
      mapper := ⟨100, 100, true, true, 9, 1, 1⟩, ctl := ctl
      gate := { inForce.gate with stopped := false } } : State)
    let free := inForce.ctl
    let p := scanning .pending 0 free
    let r := scanning .pending 0 { free with state := .releasing }
    let a := scanning .pending 0 { free with state := .arming, record := some pinSession }
    let c := scanning .contact 0 { free with appStroke := some 9 }
    let l := fun lift => scanning .lifting lift { free with appStroke := some 9 }
    (∀ s ∈ [p, r, a, c, l 0, l 2], s.Live ∧ s.frontEnd.timer.isRunning = true ∧ s.frontEnd.progress = .none) ∧
    p.ctl.state ≠ .arming ∧ p.ctl.state ≠ .releasing ∧ p.frontEnd.scan = .pending ∧ r.ctl.state = .releasing ∧
    a.ctl.record = some pinSession ∧ a.gate.timing = .follow ∧ a.gate.stopped = false ∧ a.gate.episode = false ∧
    c.active.touch.upDebounce = 3 ∧ (l 0).frontEnd.lift + 1 < 3 ∧ 3 ≤ (l 2).frontEnd.lift + 1 ∧
    (l 2).ctl.state = .opened ∧ (l 2).ctl.appStroke = some (l 2).mapper.stroke ∧ (l 2).inputs.length < 32 := by
  decide +kernel

/-- The glass comes free in ARMING: OVERLAY and FULL, with and without a loss episode, on an idle output and in each
other timing state. -/
theorem witness_scan_arming :
    let arming := fun (p : SessionPresentation) (g : Gate) => ({ inForce with
      frontEnd := { inForce.frontEnd with scan := .pending, down := 1 }
      ctl := { inForce.ctl with state := .arming, record := some { pinSession with presentation := p } }
      gate := g } : State)
    let gates := fun e => [Timing.follow, .toLocal, .localTiming, .toFollow, .rejoin].map fun t =>
      ({ inForce.gate with timing := t, stopped := decide (t = .follow), episode := e } : Gate)
    (∀ p ∈ [SessionPresentation.overlay, .full], ∀ e ∈ [true, false], ∀ g ∈ gates e,
      (arming p g).Live ∧ (arming p g).frontEnd.timer.isRunning = true ∧ (arming p g).frontEnd.progress = .none ∧
      (arming p g).frontEnd.scan = .pending ∧ (arming p g).ctl.state = .arming ∧ g.episode = e ∧
      g.active.isSecure = false ∧ (g.Idle ↔ g.timing = .follow ∨ g.timing = .rejoin)) ∧
    ¬(32768 : Word16).toNat < inForce.active.touch.penThreshold * 256 := by
  decide +kernel

/-- A lift without a pen in each state of the controller, with and without the stroke's mark. -/
theorem witness_scan_lifts :
    let calibration := { pinSession with mode := .calibrate, presentation := .full, least := 3 }
    let lifting := fun (ctl : Controller) => ({ inSecure with
      frontEnd := { inForce.frontEnd with scan := .lifting, lift := 2 }
      mapper := ⟨100, 100, true, true, 9, 1, 1⟩, ctl := ctl } : State)
    let c := inSecure.ctl
    let k := fun n => lifting { c with record := some calibration, points := List.replicate n (5, 6), buffer := [] }
    let states := [EntryState.opened, .arming, .presenting, .closing, .releasing, .locked]
    (∀ s ∈ [lifting c, lifting { c with candidate := .void }, lifting { c with sessionStroke := none }, k 1, k 2] ++
        states.map (fun st => lifting { c with state := st }),
      s.Live ∧ s.frontEnd.timer.isRunning = true ∧ s.frontEnd.progress = .none ∧
      s.active.touch.upDebounce ≤ s.frontEnd.lift + 1 ∧ s.gate.stopped = false ∧ s.gate.episode = false ∧
      s.gate.timing = .follow) ∧
    c.state = .secure ∧ c.record = some pinSession ∧ c.sessionStroke = some (lifting c).mapper.stroke ∧
    c.candidate = .cell 2 ∧ c.appStroke ≠ some (lifting c).mapper.stroke ∧
    (k 1).ctl.points.length + 1 ≠ calibration.least ∧ (k 2).ctl.points.length + 1 = calibration.least := by
  decide +kernel

theorem witness_burst :
    let bursting := fun (st : ScanState) (down lift : Nat) => ({ inForce with
      adc := ⟨.burst, false⟩
      frontEnd := { inForce.frontEnd with scan := st, down := down, lift := lift, progress := .burstRunning }
      mapper := ⟨100, 100, true, true, 9, 1, 1⟩, ctl := { inForce.ctl with appStroke := some 9 } } : State)
    let s := bursting .noContact 0 0
    let wide : Burst := { exampleBurst with z2 := ⟨0, 1000, 2000, 3000, 4000⟩ }
    s.Live ∧ s.adc.use = .burst ∧ s.adc.supplyWaiting = false ∧ s.frontEnd.progress = .burstRunning ∧
    burstKind wide s.frontEnd.settings .noContact = .rejected ∧ s.frontEnd.reject < 15 ∧
    burstKind exampleBurst s.frontEnd.settings .noContact = .contact 2012 1500 ∧
    2 ≤ s.frontEnd.settings.downDebounce ∧
    burstKind exampleBurst s.frontEnd.settings .pending = .contact 2012 1500 ∧
    (bursting .pending 1 0).frontEnd.settings.downDebounce ≤ (bursting .pending 1 0).frontEnd.down + 1 ∧
    s.mapper.tracking = true ∧ s.ctl.state = .opened ∧ s.inputs.length < 32 := by
  decide +kernel

theorem witness_burst_more :
    let bursting := fun (st : ScanState) (down lift : Nat) => ({ inForce with
      adc := ⟨.burst, false⟩
      frontEnd := { inForce.frontEnd with scan := st, down := down, lift := lift, progress := .burstRunning }
      mapper := ⟨100, 100, true, true, 9, 1, 1⟩, ctl := { inForce.ctl with appStroke := some 9 } } : State)
    let s := bursting .lifting 0 2
    let none : Burst := { exampleBurst with z1 := ⟨0, 0, 0, 0, 0⟩ }
    let p : State := { inSecure with
      adc := s.adc, frontEnd := s.frontEnd, mapper := s.mapper }
    burstKind exampleBurst s.frontEnd.settings .contact = .contact 2012 1500 ∧ s.mapper.strokeOpen = true ∧
    s.ctl.appStroke = some s.mapper.stroke ∧ s.frontEnd.scan = .lifting ∧
    burstKind none s.frontEnd.settings .lifting = .noContact ∧
    s.frontEnd.settings.upDebounce ≤ s.frontEnd.lift + 1 ∧ p.Live ∧ p.ctl.state = .secure ∧
    p.ctl.record = some pinSession ∧ p.ctl.sessionStroke = some p.mapper.stroke ∧ p.ctl.candidate = .cell 2 ∧
    p.gate.stopped = false ∧ p.gate.episode = false := by
  decide +kernel

/-- The other rows of R73 to R75: the sixteenth rejected scan, PENDING counting on, a debounce of 1, the first lift. -/
theorem witness_burst_rows :
    let bursting := fun (st : ScanState) (down reject : Nat) (t : Touch) => ({ inForce with
      adc := ⟨.burst, false⟩
      frontEnd := { inForce.frontEnd with
        scan := st, down := down, reject := reject, settings := t, progress := .burstRunning }
      mapper := ⟨100, 100, true, false, 9, 1, 1⟩ } : State)
    let t := policy.touch
    let wide : Burst := { exampleBurst with z2 := ⟨0, 1000, 2000, 3000, 4000⟩ }
    let none : Burst := { exampleBurst with z1 := ⟨0, 0, 0, 0, 0⟩ }
    let slow : Touch := { t with downDebounce := 8 }
    let quick : Touch := { t with downDebounce := 1, upDebounce := 1 }
    let s := bursting .pending 1 15 slow
    let q := bursting .noContact 0 0 quick
    s.Live ∧ burstKind wide t .pending = .rejected ∧ s.frontEnd.reject = 15 ∧ s.ctl.state ≠ .arming ∧
    s.ctl.state ≠ .releasing ∧ burstKind exampleBurst slow .pending = .contact 2012 1500 ∧
    s.frontEnd.down + 1 < slow.downDebounce ∧ s.mapper.tracking = true ∧ s.mapper.strokeOpen = false ∧
    q.Live ∧ burstKind exampleBurst quick .noContact = .contact 2012 1500 ∧ quick.downDebounce ≤ 1 ∧
    q.ctl.state = .opened ∧ q.inputs.length < 32 ∧ burstKind none t .noContact = .noContact ∧
    burstKind none t .contact = .noContact ∧ 2 ≤ t.upDebounce ∧ quick.upDebounce ≤ 1 ∧
    burstKind none quick .contact = .noContact ∧ 0 + 1 < t.upDebounce := by
  decide +kernel

/-- The strokes of a session: a DOWN and a MOVE in SECURE, a void candidate, a CALIBRATE point, ARMING and RELEASING. -/
theorem witness_burst_session :
    let calibration := { pinSession with mode := .calibrate, presentation := .full, least := 3 }
    let touching := fun (st : ScanState) (ctl : Controller) => ({ inSecure with
      adc := ⟨.burst, false⟩
      frontEnd := { inForce.frontEnd with scan := st, down := 1, progress := .burstRunning, reject := 15 }
      mapper := ⟨100, 100, true, st = .contact, 9, 1, 1⟩, ctl := ctl } : State)
    let wide : Burst := { exampleBurst with z2 := ⟨0, 1000, 2000, 3000, 4000⟩ }
    let d := touching .pending inSecure.ctl
    let m := touching .contact inSecure.ctl
    let v := touching .contact { inSecure.ctl with candidate := .void }
    let k := fun n => touching .contact
      { inSecure.ctl with record := some calibration, points := List.replicate n (5, 6), buffer := [] }
    let a := touching .contact { inSecure.ctl with state := .arming }
    let r := touching .contact { inForce.ctl with state := .releasing }
    (∀ s ∈ [d, m, v, k 1, k 2, a, r], s.Live ∧ s.adc.use = .burst ∧ s.adc.supplyWaiting = false ∧
      s.frontEnd.progress = .burstRunning ∧ s.gate.stopped = false ∧ s.gate.episode = false ∧
      s.frontEnd.reject = 15 ∧ s.frontEnd.settings = policy.touch) ∧
    burstKind wide policy.touch .contact = .rejected ∧ burstKind exampleBurst policy.touch .contact = .contact 2012 1500 ∧
    d.mapper.strokeOpen = false ∧ m.mapper.strokeOpen = true ∧ m.ctl.sessionStroke = some m.mapper.stroke ∧
    m.ctl.candidate = .cell 2 ∧ v.ctl.candidate = .void ∧ (k 1).ctl.points.length + 1 ≠ calibration.least ∧
    (k 2).ctl.points.length + 1 = calibration.least ∧ a.ctl.state = .arming ∧ a.ctl.record = some pinSession ∧
    r.ctl.state = .releasing := by
  decide +kernel

/-- A supply request that waits; a DOWN and an update in a CALIBRATE session; strokes without their marks; the drop of a
PENDING in RELEASING and in ARMING. -/
theorem witness_burst_others :
    let calibration := { pinSession with mode := .calibrate, presentation := .full, least := 3 }
    let touching := fun (st : ScanState) (ctl : Controller) => ({ inSecure with
      adc := ⟨.burst, true⟩
      frontEnd := { inForce.frontEnd with scan := st, down := 1, progress := .burstRunning }
      mapper := ⟨100, 100, true, decide (st = .contact), 9, 1, 1⟩, ctl := ctl } : State)
    let none : Burst := { exampleBurst with z1 := ⟨0, 0, 0, 0, 0⟩ }
    let c := { inSecure.ctl with record := some calibration, buffer := [], candidate := .none }
    let d := touching .pending c
    let m := touching .contact c
    let u := touching .contact { inSecure.ctl with sessionStroke := Option.none }
    let o := touching .contact inForce.ctl
    let r := touching .pending { inForce.ctl with state := .releasing }
    let a := touching .pending { inSecure.ctl with state := .arming }
    (∀ s ∈ [d, m, u, o, r, a], s.Live ∧ s.adc.use = .burst ∧ s.adc.supplyWaiting = true ∧
      s.frontEnd.progress = .burstRunning ∧ s.mapper.tracking = true) ∧
    d.frontEnd.settings.downDebounce ≤ d.frontEnd.down + 1 ∧ d.ctl.record = some calibration ∧
    m.mapper.strokeOpen = true ∧ m.ctl.sessionStroke = some m.mapper.stroke ∧
    u.ctl.sessionStroke ≠ some u.mapper.stroke ∧ o.ctl.state = .opened ∧ o.ctl.appStroke ≠ some o.mapper.stroke ∧
    r.ctl.state = .releasing ∧ a.ctl.state = .arming ∧ a.ctl.record = some pinSession ∧
    burstKind none d.frontEnd.settings .pending = .noContact ∧
    burstKind exampleBurst d.frontEnd.settings .pending = .contact 2012 1500 ∧
    burstKind exampleBurst d.frontEnd.settings .contact = .contact 2012 1500 := by
  decide +kernel

theorem witness_positions :
    1 ≤ policy.geometry.w ∧ 1 ≤ policy.geometry.h ∧ (65520 : Nat) ≤ 4095 * 16 := by
  decide +kernel

theorem witness_supply :
    let s := inForce
    let w : State := { inForce with frontEnd := { inForce.frontEnd with progress := .burstWaiting } }
    let v : State := { inSecure with adc := ⟨.supply, true⟩ }
    s.Live ∧ s.adc = ⟨.supply, false⟩ ∧ s.active.supervision.abort + 100 ≤ s.active.supervision.warn ∧
    s.frontEnd.progress ≠ .burstWaiting ∧ w.Live ∧ w.frontEnd.progress = .burstWaiting ∧ v.Live ∧
    v.adc.use = .supply ∧ v.sup.level ≠ .belowAbort ∧ v.inSession ∧ v.ctl.record = some pinSession ∧
    millivolts 2814 < 3300 ∧ 3300 ≤ millivolts 2815 + 1 := by
  decide +kernel

theorem witness_pins :
    (fullReset inForce).inReset = true ∧ inForce.Live := by
  decide +kernel

theorem witness_keys :
    let held := fun (pin : Level) (pressed : Bool) => inForce.setKey .fn ⟨pin, pressed, .running 20⟩
    let marked := (held .high true).setCtl { inForce.ctl with keyMarks := ⟨false, false, false, true⟩ }
    let locked := inLocked.setKey .fn ⟨.low, false, .running 20⟩
    (held .low false).Live ∧ ((held .low false).key .fn).timer.isRunning = true ∧ ((held .low false).key .fn).pin = .low ∧
    inForce.ctl.state = .opened ∧ inForce.inputs.length < 32 ∧ (marked.key .fn).pin = .high ∧
    marked.ctl.keyMarks.get .fn = true ∧ (held .high true).ctl.keyMarks.get .fn = false ∧
    locked.Live ∧ locked.ctl.state ≠ .opened ∧ locked.ctl.state ≠ .secure ∧
    (inSecure.setKey .enter ⟨.low, false, .running 20⟩).Live ∧ inSecure.ctl.state = .secure ∧
    inSecure.ctl.record = some pinSession ∧ inSecure.gate.stopped = false ∧ inSecure.gate.episode = false := by
  decide +kernel

theorem witness_inputQueue :
    let move := plainInput .move
    let up := plainInput .up
    (List.replicate 31 move).length < 32 ∧ (up :: List.replicate 31 move).length = 32 ∧
    up :: List.replicate 31 move = [up] ++ move :: List.replicate 30 move ∧ move.kind = .move ∧ up.kind ≠ .move ∧
    ∀ x ∈ (move :: List.replicate 31 up).drop 1, x.kind ≠ .move := by
  decide +kernel

theorem witness_inputQueue_full :
    let s : State := { inForce.setKey .fn ⟨.low, false, .running 20⟩ with
      inputs := List.replicate 32 (plainInput .focusLost) }
    s.Live ∧ (s.key .fn).timer.isRunning = true ∧ (s.key .fn).pin = .low ∧ s.ctl.state = .opened ∧
    s.inputs.length = 32 := by
  decide +kernel

theorem witness_keyActions :
    let s := inSecure
    let n := s.ctl.buffer.length
    n < pinSession.maxLength ∧ n ≠ 0 ∧ n < pinSession.least ∧ s.ctl.state = .secure ∧ s.ctl.record = some pinSession ∧
    pinSession.mode = .pin ∧ ({ pinSession with least := 3 } : Session).least ≤ n ∧
    ({ pinSession with maxLength := 3 } : Session).maxLength ≤ n ∧
    n + 1 = ({ pinSession with maxLength := 4 } : Session).maxLength ∧ pinSession.autoEnter = true ∧
    inForce.ctl.buffer.length = 0 ∧ (s.active.cell? 9).map Cell.role = some .digit ∧
    (s.active.cell? 10).map Cell.role = some .enter := by
  decide +kernel

theorem witness_keyActions_ends :
    inSecure.gate.stopped = false ∧ ({ pinSession with least := 3 } : Session).least ≤ inSecure.ctl.buffer.length ∧
    (inSecure.setCtl { inSecure.ctl with record := some { pinSession with least := 3 } }).ctl.state = .secure := by
  decide +kernel

theorem witness_sessionEnds :
    let s := inSecure.setCtl { inSecure.ctl with firstKey := .running 30000 }
    let early := inSecure.setCtl { inSecure.ctl with state := .arming }
    s.Live ∧ s.inSession ∧ s.ctl.record = some pinSession ∧ s.ctl.total.isRunning = true ∧
    s.ctl.firstKey.isRunning = true ∧ s.ctl.interKey.isRunning = true ∧ s.sup.silence.isRunning = true ∧
    (s.port .pay).inBreak = false ∧ s.Accepts .pay ∧ s.gate.stopped = false ∧ early.inSession ∧
    early.ctl.state ≠ .secure := by
  decide +kernel

theorem witness_inputFrame :
    let s := inSecure.setGate { inSecure.gate with pending := inSecure.gate.active }
    let p := inSecure.setCtl { inSecure.ctl with state := .presenting }
    let lines := List.replicate 800 480
    s.Live ∧ s.gate.inFrame = true ∧ lines = List.replicate s.gate.layout.h s.gate.layout.w ∧ s.gate.timing = .follow ∧
    s.gate.pending = s.gate.active ∧ p.Live ∧ p.gate.pending ≠ p.gate.active ∧ p.gate.pending.isSecure = true ∧
    p.ctl.state = .presenting ∧ p.ctl.record = some pinSession := by
  decide +kernel

/-- An input frame start in every timing state; a second malformed frame, with a keypad shown and without; the sets
that may become active at the start. -/
theorem witness_inputFrame_more :
    let timed := fun (t : Timing) => inForce.setGate { inForce.gate with timing := t }
    let spoilt := fun (s : State) => s.setGate { s.gate with inFrame := true, malformed := 1 }
    let clear := fun (s : State) => s.setGate { s.gate with pending := OverlaySet.clear }
    let closing := clear (inSecure.setCtl { inForce.ctl with state := .closing })
    let lock := inSecure.setCtl inLocked.ctl
    let locking := lock.setGate { lock.gate with pending := lockSet policy }
    [480] ≠ List.replicate inForce.gate.layout.h inForce.gate.layout.w ∧
    (∀ t ∈ [Timing.follow, .toLocal, .localTiming, .toFollow, .rejoin],
      (timed t).Live ∧ (timed t).gate.timing = t ∧ (timed t).gate.pending = (timed t).gate.active) ∧
    inForce.gate.stopped = true ∧ inForce.gate.inFrame = false ∧ (spoilt inForce).gate.episode = false ∧
    (spoilt inSecure).Live ∧ (spoilt inSecure).ctl.state = .secure ∧ (spoilt inSecure).gate.malformed + 1 = 2 ∧
    (spoilt inSecure).gate.inFrame = true ∧ (spoilt inSecure).gate.episode = false ∧
    (spoilt inSecure).ctl.record = some pinSession ∧ pinSession.presentation = .overlay ∧
    (spoilt inSecure).gate.active.isSecure = true ∧ inSecure.gate.pending ≠ inSecure.gate.active ∧
    inSecure.gate.pending.isSecure = true ∧ closing.Live ∧ closing.gate.pending ≠ closing.gate.active ∧
    closing.gate.pending.presentation = .none ∧ closing.ctl.record = none ∧ locking.Live ∧
    locking.gate.pending ≠ locking.gate.active ∧ locking.gate.pending.presentation = .lock ∧
    locking.ctl.state = .locked ∧ locking.ctl.record = none := by
  decide +kernel

/-- The clear set of an UNLOCK that waits in OPEN, in FOLLOW, and in REJOIN; a second malformed frame in PRESENTING. -/
theorem witness_inputFrame_others :
    let unlocked := fun (t : Timing) => inForce.setGate { inForce.gate with timing := t, active := lockSet policy }
    let early := inSecure.setCtl { inSecure.ctl with state := .presenting, buffer := [], candidate := .none }
    let spoilt := early.setGate { early.gate with active := OverlaySet.clear, malformed := 1 }
    (∀ t ∈ [Timing.follow, .rejoin], (unlocked t).Live ∧ (unlocked t).gate.pending ≠ (unlocked t).gate.active ∧
      (unlocked t).gate.pending.presentation = .none ∧ (unlocked t).ctl.state ≠ .closing ∧
      (unlocked t).ctl.record = none ∧ (unlocked t).gate.watch.isRunning = true) ∧
    spoilt.Live ∧ spoilt.gate.timing = .follow ∧ spoilt.gate.inFrame = true ∧ spoilt.gate.episode = false ∧
    [480] ≠ List.replicate spoilt.gate.layout.h spoilt.gate.layout.w ∧ spoilt.ctl.state = .presenting ∧
    spoilt.ctl.record = some pinSession ∧ pinSession.presentation = .overlay := by
  decide +kernel

/-- The watch runs out in every timing state, with a frame in progress that is well-formed or malformed, with no
session, with a keypad shown, and with one about to be. -/
theorem witness_silence :
    let timed := fun (t : Timing) (stopped : Bool) (s : State) =>
      s.setGate { s.gate with timing := t, stopped := stopped, inFrame := true }
    let full := { pinSession with presentation := .full }
    let early := inSecure.setCtl { inSecure.ctl with state := .presenting, buffer := [], candidate := .none }
    let hidden := early.setGate { early.gate with active := OverlaySet.clear }
    let fullEarly := hidden.setCtl { hidden.ctl with record := some full }
    let closing := inSecure.setCtl { inForce.ctl with state := .closing }
    let cleared := closing.setGate { closing.gate with pending := OverlaySet.clear }
    let unlocked := inLocked.setGate { inLocked.gate with active := OverlaySet.clear }
    (∀ t ∈ [Timing.follow, .toLocal, .localTiming, .toFollow, .rejoin], ∀ b ∈ [true, false],
      (timed t b inForce).Live ∧ (timed t b inForce).gate.watch.isRunning = true ∧
      (timed t b inForce).gate.pending = (timed t b inForce).gate.active ∧ (timed t b inForce).gate.inFrame = true) ∧
    inForce.ctl.record = none ∧ inForce.gate.episode = false ∧
    List.replicate 800 480 = List.replicate inForce.gate.layout.h inForce.gate.layout.w ∧
    [480] ≠ List.replicate inForce.gate.layout.h inForce.gate.layout.w ∧
    inSecure.Live ∧ inSecure.gate.watch.isRunning = true ∧ inSecure.gate.timing = .follow ∧
    inSecure.gate.stopped = false ∧ inSecure.gate.inFrame = true ∧ inSecure.gate.episode = false ∧
    inSecure.ctl.state = .secure ∧ inSecure.ctl.record = some pinSession ∧ pinSession.presentation = .overlay ∧
    inSecure.gate.active.isSecure = true ∧ inSecure.gate.pending.isSecure = true ∧
    hidden.Live ∧ hidden.gate.watch.isRunning = true ∧ hidden.ctl.state = .presenting ∧
    hidden.gate.pending ≠ hidden.gate.active ∧ hidden.gate.pending.isSecure = true ∧
    hidden.ctl.record = some pinSession ∧
    (timed .toLocal false fullEarly).gate.watch.isRunning = true ∧ fullEarly.ctl.record = some full ∧
    full.presentation ≠ .overlay ∧ cleared.Live ∧ cleared.gate.watch.isRunning = true ∧
    cleared.gate.stopped = false ∧ cleared.gate.timing = .follow ∧ cleared.gate.pending ≠ cleared.gate.active ∧
    cleared.gate.pending.presentation = .none ∧ cleared.ctl.state = .closing ∧ cleared.ctl.record = none ∧
    (timed .toLocal false unlocked).gate.pending.presentation = .lock ∧ unlocked.ctl.state = .locked ∧
    unlocked.gate.pending ≠ unlocked.gate.active := by
  decide +kernel

/-- An OVERLAY session in PRESENTING on an output that has not run yet, and one in REJOIN. -/
theorem witness_silence_presenting :
    let early := inSecure.setCtl { inSecure.ctl with state := .presenting, buffer := [], candidate := .none }
    let halted := early.setGate
      { early.gate with active := OverlaySet.clear, stopped := true, inFrame := false }
    let rejoin := early.setGate { early.gate with active := OverlaySet.clear, timing := .rejoin }
    halted.Live ∧ halted.gate.watch.isRunning = true ∧ halted.gate.timing = .follow ∧ halted.gate.stopped = true ∧
    halted.gate.episode = false ∧ halted.ctl.state = .presenting ∧ halted.ctl.record = some pinSession ∧
    rejoin.Live ∧ rejoin.gate.watch.isRunning = true ∧ rejoin.ctl.state = .presenting ∧
    rejoin.gate.episode = false ∧ rejoin.gate.pending ≠ rejoin.gate.active ∧
    rejoin.gate.pending.isSecure = true := by
  decide +kernel

theorem witness_localFrame :
    let l := inLocked.setGate { inLocked.gate with active := OverlaySet.clear }
    let e := inSecure.setGate { inSecure.gate with timing := .localTiming }
    inLocked.Live ∧ inLocked.gate.timing = .localTiming ∧ inLocked.gate.pending = inLocked.gate.active ∧
    l.Live ∧ l.gate.pending ≠ l.gate.active ∧ l.gate.pending.presentation = .lock ∧ l.ctl.state = .locked ∧
    e.Live ∧ e.gate.pending ≠ e.gate.active ∧ e.gate.pending.isSecure = true ∧ e.ctl.state = .secure ∧
    (inLocked.setGate { inLocked.gate with timing := .toFollow }).Live ∧ inForce.gate.timing = .follow := by
  decide +kernel

/-- A FULL session that took TO_FOLLOW back to LOCAL. -/
theorem witness_localFrame_presents :
    let early := inSecure.setCtl { inSecure.ctl with
      state := .presenting, buffer := [], record := some { pinSession with presentation := .full } }
    let s := early.setGate { early.gate with timing := .localTiming, active := OverlaySet.clear }
    s.Live ∧ s.gate.timing = .localTiming ∧ s.gate.pending ≠ s.gate.active ∧ s.gate.pending.isSecure = true ∧
    s.ctl.state = .presenting ∧ s.ctl.record ≠ none := by
  decide +kernel

theorem witness_panel :
    inForce.gate.timing = .follow ∧ inForce.gate.stopped = true ∧ inSecure.gate.timing = .follow ∧
    inSecure.gate.stopped = false ∧ inLocked.gate.timing = .localTiming ∧ 479 < inLocked.gate.layout.w ∧
    799 < inLocked.gate.layout.h ∧ ¬480 < inLocked.gate.layout.w := by
  decide +kernel

theorem witness_pixels :
    let o := secureSet policy pinSession
    let c : Cell := ⟨.enter, 0, 40, 39, 79, ⟨1, 1, 1⟩, ⟨9, 9, 9⟩, none⟩
    o.presentation = .overlay ∧ 39 < policy.layout.w ∧ 79 < policy.layout.h ∧
    o.cells = o.cells.take 10 ++ c :: [] ∧ c.x0 ≤ 39 ∧ 39 ≤ c.x1 ∧ c.y0 ≤ 79 ∧ 79 ≤ c.y1 ∧
    (o.cells.map Cell.glyph).head? = some (some 21) ∧
    ∀ d ∈ o.cells, ¬(d.x0 ≤ 400 ∧ 400 ≤ d.x1 ∧ d.y0 ≤ 79 ∧ 79 ≤ d.y1) := by
  decide +kernel

theorem witness_tamper :
    let at1 := fun (s : State) (i : TamperInput) (pin : Level) (inTrip : Bool) =>
      s.setTamper i { s.tamper i with pin := pin, timer := .running 1, inTrip := inTrip }
    let s := at1 inSecure .a .high false
    s.Live ∧ (s.tamper .a).timer.isRunning = true ∧ (s.tamper .a).pin = .high ∧
    s.active.supervision.sense.get .a = .tripHigh ∧ (s.tamper .a).inTrip = false ∧ s.ctl.state ≠ .locked ∧ s.inSession ∧
    s.ctl.record = some pinSession ∧ s.active.supervision.sense.get .b = .tripChange ∧ (s.tamper .b).normal = .low ∧
    (at1 inForce .b .low false).Live ∧ ((at1 inForce .b .low false).tamper .b).pin = .low ∧
    ((at1 inForce .b .high true).tamper .b).inTrip = true ∧ (at1 inLocked .a .high false).ctl.state = .locked := by
  decide +kernel

/-- A trip in OPEN with a stroke and a key under APP, and one with a mark on a queue that it purges. -/
theorem witness_tamper_opened :
    let s := inForce.setCtl { inForce.ctl with appStroke := some 9, keyMarks := ⟨false, false, false, true⟩ }
    let u := (radHolds s [entry]).setTamper .a { s.tamper .a with pin := .high, timer := .running 1 }
    u.Live ∧ (u.tamper .a).timer.isRunning = true ∧ (u.tamper .a).inTrip = false ∧ u.ctl.state = .opened ∧
    u.departure.length = 3 ∧ ((u.queue .rad).all.any fun e => onAppChannel u.active e && !e.sending) = true := by
  decide +kernel

theorem witness_flags :
    let s := inForce.setBox .app { inForce.box .app with repeatTimer := .running 500, place := .empty }
    (s.box .app).flags.getLsbD Machine.Flag.restarted.bit = true ∧ (s.box .app).flags.getLsbD Machine.Flag.test.bit = false ∧
    s.Live ∧ (s.box .app).repeatTimer.isRunning = true := by
  decide +kernel

/-- A state in SECURE with a key event to come: it meets every invariant, and its step answers a next state. -/
def stepping : State := { inSecure with pending := [.burstEnd exampleBurst, .refillTimerExpiry] }

theorem witness_step_answers : ∃ t, step stepping = .next t := ⟨_, rfl⟩

theorem witness_capacity : stepping.CapacityInv ∧ stepping.BucketInv := by decide +kernel
theorem witness_session : stepping.BufferInv ∧ stepping.SessionInv :=
  ⟨⟨by decide +kernel, by decide +kernel, by
    show _ ∧ _ ∧ _; decide +kernel⟩, by decide +kernel⟩
theorem witness_gate : stepping.GateInv ∧ stepping.LampRight := by decide +kernel
theorem witness_held : stepping.HeldInv := by unfold State.HeldInv; decide +kernel
theorem witness_transmit : stepping.TransmitInv ∧ stepping.BusyInv := by decide +kernel
theorem witness_noticeBoxes : stepping.NoticeInv := by decide +kernel
theorem witness_policy : stepping.PolicyInv ∧ stepping.PanelInv ∧ stepping.RangeInv := by decide +kernel
theorem witness_records : stepping.RecordInv := by
  have h : policy.inRange := by
    refine ⟨by decide +kernel, by decide +kernel, ?_, by decide +kernel, by decide +kernel, by decide +kernel,
      by decide +kernel, by decide +kernel, by decide +kernel, by decide +kernel, by decide +kernel⟩
    have k : ∀ i : Fin 20, ∀ c ∈ policy.cells[i].toList, c.inRange := by decide +kernel
    exact fun i c hc => k i c (Option.mem_toList.2 hc)
  exact ⟨h, h⟩
theorem witness_route : stepping.RouteInv := by
  have k : ∀ d ∈ allDomains, ∀ e ∈ (stepping.queue d).all,
      (d = .rad ∧ e = { entry with held := true }) := by decide +kernel
  intro d hd e he _
  obtain ⟨rfl, rfl⟩ := k d hd e he
  exact ⟨policy.channels[5], by decide +kernel, by decide +kernel, by decide +kernel,
    fun _ => ⟨3, by decide +kernel, by decide, by decide +kernel, by decide +kernel⟩⟩
theorem witness_locked : ({ inLocked with pending := [.localFrameEnd] } : State).LockedInv := by
  unfold State.LockedInv; decide +kernel
theorem witness_hidden :
    (inSecure.setCtl { inSecure.ctl with buffer := [7, 8, 9] }).hidden = inSecure.hidden ∧
    ∃ u v, exec .localFrameEnd inSecure = .next u ∧
      exec .localFrameEnd (inSecure.setCtl { inSecure.ctl with buffer := [7, 8, 9] }) = .next v := by
  exact ⟨by decide +kernel, _, _, rfl, rfl⟩

end Sys2Proof.Tests
end

section
/-! PROOF. The end of every command, `finish` (R12–R14): what one transmitter looks at and acts on is its own link's,
so each link is settled by its own choice and its own stall timer. -/

namespace Sys2Proof.Machine

open Sys2Proof

/-- What the transmitter of link `d` looks at and acts on is the same in `s` and `t`: the link's port, notice box and
delivery queue, the places of the session frames, the policy in force, and on APP the lost mark. -/
structure SameLink (d : Domain) (s t : State) : Prop where
  port : t.port d = s.port d
  box : t.box d = s.box d
  queue : t.queue d = s.queue d
  entryEnd : t.entryEnd = s.entryEnd
  progress : t.progress = s.progress
  inputs : t.inputs = s.inputs
  active : t.active = s.active
  inReset : t.inReset = s.inReset
  lost : d = .app → t.lost = s.lost

namespace SameLink

variable {d e : Domain} {s t u : State}

theorem refl (d : Domain) (s : State) : SameLink d s s := by constructor <;> intros <;> rfl

theorem trans (h : SameLink d s t) (k : SameLink d t u) : SameLink d s u where
  port := k.port.trans h.port
  box := k.box.trans h.box
  queue := k.queue.trans h.queue
  entryEnd := k.entryEnd.trans h.entryEnd
  progress := k.progress.trans h.progress
  inputs := k.inputs.trans h.inputs
  active := k.active.trans h.active
  inReset := k.inReset.trans h.inReset
  lost hd := (k.lost hd).trans (h.lost hd)

theorem setPort_other (h : d ≠ e) (s : State) (p : Port) : SameLink d s (s.setPort e p) := by
  constructor <;> intros <;> first | rfl | simp [State.port_setPort, h]

theorem setBox_other (h : d ≠ e) (s : State) (b : NoticeBox) : SameLink d s (s.setBox e b) := by
  constructor <;> intros <;> first | rfl | simp [State.box_setBox, h]

theorem setQueue_other (h : d ≠ e) (s : State) (q : DeliveryQueue) : SameLink d s (s.setQueue e q) := by
  constructor <;> intros <;> first | rfl | simp [State.queue_setQueue, h]

theorem setPort (h : SameLink d s t) (p : Port) : SameLink d (s.setPort d p) (t.setPort d p) := by
  obtain ⟨_, hbox, hqueue, hend, hprogress, hinputs, hactive, hreset, hlost⟩ := h
  constructor <;> simp_all

theorem setBox (h : SameLink d s t) (b : NoticeBox) : SameLink d (s.setBox d b) (t.setBox d b) := by
  obtain ⟨hport, _, hqueue, hend, hprogress, hinputs, hactive, hreset, hlost⟩ := h
  constructor <;> simp_all

theorem setQueue (h : SameLink d s t) (q : DeliveryQueue) : SameLink d (s.setQueue d q) (t.setQueue d q) := by
  obtain ⟨hport, hbox, _, hend, hprogress, hinputs, hactive, hreset, hlost⟩ := h
  constructor <;> simp_all

theorem setLost (h : SameLink d s t) (b : Bool) :
    SameLink d { s with lost := b } { t with lost := b } where
  port := h.port
  box := h.box
  queue := h.queue
  entryEnd := h.entryEnd
  progress := h.progress
  inputs := h.inputs
  active := h.active
  inReset := h.inReset
  lost _ := rfl

theorem isSending (h : SameLink d s t) (src : Source) : t.isSending d src = s.isSending d src := by
  simp only [State.isSending, h.port]

/-- An operation on each link in turn settles link `d` as its own operation does. -/
theorem foldl {f : Domain → State → State}
    (other : ∀ {d e : Domain} (s : State), d ≠ e → SameLink d s (f e s))
    (own : ∀ {d : Domain} {s t : State}, SameLink d s t → SameLink d (f d s) (f d t)) (d : Domain) (s : State) :
    SameLink d (f d s) (allDomains.foldl (fun s e => f e s) s) := by
  cases d with
  | pay => exact (other _ (by decide)).trans (other _ (by decide))
  | app => exact (own (other _ (by decide))).trans (other _ (by decide))
  | rad => exact own ((other _ (by decide)).trans (other _ (by decide)))

end SameLink

/-! ### One transmission begins -/

theorem SameLink.beginTx {d : Domain} {s t : State} (h : SameLink d s t) (src : Source) (f : Frame) :
    SameLink d (beginTx d src f s) (beginTx d src f t) := by
  unfold Machine.beginTx
  rw [h.port]
  exact h.setPort _

theorem beginTx_other {d e : Domain} (h : d ≠ e) (src : Source) (f : Frame) (s : State) :
    SameLink d s (beginTx e src f s) := SameLink.setPort_other h _ _

theorem beginSessionFrame_app_cons {s : State} {e : InputEvent} {es : List InputEvent} (h : s.inputs = e :: es) :
    beginSessionFrame .app s = some (beginTx .app .input (e.frame s.lost) { s with lost := false }) := by
  simp only [beginSessionFrame]
  split <;> simp_all

theorem beginSessionFrame_app_nil {s : State} (h : s.inputs = []) : beginSessionFrame .app s = none := by
  simp only [beginSessionFrame, h]

theorem SameLink.beginSessionFrame {d : Domain} {s t : State} (h : SameLink d s t) :
    Option.Rel (SameLink d) (beginSessionFrame d s) (beginSessionFrame d t) := by
  cases d with
  | pay =>
    simp only [Machine.beginSessionFrame, h.entryEnd, h.progress]
    split
    · exact .some (h.beginTx _ _)
    · exact .some (h.beginTx _ _)
    · exact .none
  | app =>
    cases hs : s.inputs with
    | nil =>
      rw [beginSessionFrame_app_nil hs, beginSessionFrame_app_nil (h.inputs.trans hs)]
      exact .none
    | cons e es =>
      rw [beginSessionFrame_app_cons hs, beginSessionFrame_app_cons (h.inputs.trans hs), h.lost rfl]
      exact .some ((h.setLost false).beginTx _ _)
  | rad => exact .none

theorem SameLink.beginNotice {d : Domain} {s t : State} (h : SameLink d s t) :
    Option.Rel (SameLink d) (beginNotice d s) (beginNotice d t) := by
  simp only [Machine.beginNotice, h.box]
  split
  · exact .some ((h.setBox _).beginTx _ _)
  · exact .none
  · exact .none

theorem SameLink.beginDelivery {d : Domain} {s t : State} (h : SameLink d s t) :
    Option.Rel (SameLink d) (beginDelivery d s) (beginDelivery d t) := by
  simp only [Machine.beginDelivery, h.queue, h.active]
  split
  · exact .none
  · split
    · exact .none
    · exact .some ((h.setQueue _).beginTx _ _)

theorem beginSessionFrame_other {d e : Domain} {s t : State} (h : d ≠ e) (hb : beginSessionFrame e s = some t) :
    SameLink d s t := by
  cases e with
  | pay =>
    simp only [beginSessionFrame] at hb
    split at hb <;> cases hb <;> exact beginTx_other h _ _ _
  | app =>
    simp only [beginSessionFrame] at hb
    split at hb <;> cases hb
    have cleared : SameLink d s { s with lost := false } := by
      constructor <;> first | (intro hd; exact absurd hd h) | rfl
    exact cleared.trans (beginTx_other h _ _ _)
  | rad => cases hb

theorem beginNotice_other {d e : Domain} {s t : State} (h : d ≠ e) (hb : beginNotice e s = some t) :
    SameLink d s t := by
  unfold beginNotice at hb
  split at hb <;> cases hb
  exact (SameLink.setBox_other h _ _).trans (beginTx_other h _ _ _)

theorem beginDelivery_other {d e : Domain} {s t : State} (h : d ≠ e) (hb : beginDelivery e s = some t) :
    SameLink d s t := by
  unfold beginDelivery at hb
  split at hb
  · cases hb
  · split at hb <;> cases hb
    exact (SameLink.setQueue_other h _ _).trans (beginTx_other h _ _ _)

/-! ### The choices and the stall timers of all links -/

theorem choose_other {d e : Domain} (s : State) (h : d ≠ e) : SameLink d s (choose e s) := by
  rcases choose_cases e s with hc | ⟨-, -, ⟨r, rs, -, hc⟩ | ⟨-, hc | ⟨-, hc⟩ | ⟨-, -, hc⟩⟩⟩
  · rw [hc]; exact SameLink.refl d s
  · rw [hc]; exact beginTx_other h _ _ _
  · exact beginSessionFrame_other h hc
  · exact beginNotice_other h hc
  · exact beginDelivery_other h hc

/-- The first of two choices, taken on both sides. -/
theorem optionRel_orElse {α : Type} {R : α → α → Prop} {a b c e : Option α} (h : Option.Rel R a b)
    (k : Option.Rel R c e) : Option.Rel R (a <|> c) (b <|> e) := by
  cases h with
  | some h => exact .some h
  | none => exact k

theorem SameLink.choose {d : Domain} {s t : State} (h : SameLink d s t) :
    SameLink d (choose d s) (choose d t) := by
  unfold Machine.choose
  simp only [h.port]
  split
  · split
    · exact h.beginTx _ _
    · have begun := optionRel_orElse (optionRel_orElse h.beginSessionFrame h.beginNotice) h.beginDelivery
      revert begun
      generalize ((_ <|> _) <|> _ : Option State) = a
      generalize ((_ <|> _) <|> _ : Option State) = b
      intro begun
      cases begun with
      | some k => exact k
      | none => exact h
  · exact h

/-- What waits for link `d`'s transmitter (R13): a REPLY, on PAY an ENTRY-END or an ENTRY-PROGRESS, on APP an INPUT,
a NOTICE, or an eligible entry. -/
theorem State.hasWaiting_iff (s : State) (d : Domain) :
    s.hasWaiting d = true ↔
      0 < s.waitingCount d .reply (s.port d).replies.length ∨
      d = .pay ∧ (s.entryEnd ≠ none ∧ s.isSending d .entryEnd = false ∨
        0 < s.waitingCount d .progress s.progress.length) ∨
      d = .app ∧ 0 < s.waitingCount d .input s.inputs.length ∨
      (s.box d).place = .waiting ∨ ∃ e ∈ (s.queue d).all, e.eligible = true := by
  cases d <;> simp [State.hasWaiting, or_assoc]

theorem SameLink.waitingCount {d : Domain} {s t : State} (h : SameLink d s t) (src : Source) (n : Nat) :
    t.waitingCount d src n = s.waitingCount d src n := by
  simp only [State.waitingCount, h.isSending]

theorem SameLink.hasWaiting {d : Domain} {s t : State} (h : SameLink d s t) : t.hasWaiting d = s.hasWaiting d := by
  rw [Bool.eq_iff_iff, State.hasWaiting_iff, State.hasWaiting_iff, h.waitingCount, h.waitingCount, h.waitingCount,
    h.isSending, h.port, h.box, h.queue, h.entryEnd, h.progress, h.inputs]

theorem SameLink.judgeStall {d : Domain} {s t : State} (h : SameLink d s t) :
    SameLink d (judgeStall d s) (judgeStall d t) := by
  unfold Machine.judgeStall
  rw [h.port, h.hasWaiting]
  split
  · split
    · exact h
    · exact h.setPort _
  · exact h.setPort _

theorem judgeStall_other {d e : Domain} (s : State) (h : d ≠ e) : SameLink d s (judgeStall e s) := by
  unfold judgeStall
  split
  · split
    · exact SameLink.refl d s
    · exact SameLink.setPort_other h _ _
  · exact SameLink.setPort_other h _ _

/-- At the end of a command link `d` stands as its own choice and its own stall timer leave it. -/
theorem finish_sameLink (d : Domain) (s : State) : SameLink d (judgeStall d (choose d s)) (finish s) :=
  (SameLink.foldl choose_other SameLink.choose d s).judgeStall.trans
    (SameLink.foldl judgeStall_other SameLink.judgeStall d _)

/-- The stall timer that R13 gives link `d`. -/
def stallTimerAt (d : Domain) (s : State) : Timer :=
  if d ≠ .pay ∧ (s.port d).stalled = false ∧ (s.port d).ready = .low ∧ s.hasWaiting d then
    if (s.port d).stallTimer.isRunning then (s.port d).stallTimer else .running stallTime
  else .stopped

theorem judgeStall_eq (d : Domain) (s : State) :
    judgeStall d s = s.setPort d { s.port d with stallTimer := stallTimerAt d s } := by
  have same : s.setPort d (s.port d) = s := by simp [State.setPort, State.port]
  unfold judgeStall stallTimerAt
  split
  · split
    · exact same.symm
    · rfl
  · rfl

theorem stallTimerAt_isRunning (d : Domain) (s : State) :
    (stallTimerAt d s).isRunning = true ↔
      d ≠ .pay ∧ (s.port d).stalled = false ∧ (s.port d).ready = .low ∧ s.hasWaiting d = true := by
  unfold stallTimerAt
  split
  · split <;> simp_all [Timer.isRunning]
  · simp_all [Timer.isRunning]

theorem setStallTimer_isSending (d e : Domain) (s : State) (t : Timer) (src : Source) :
    (s.setPort d { s.port d with stallTimer := t }).isSending e src = s.isSending e src := by
  unfold State.isSending
  rw [State.port_setPort]
  split
  · subst_vars; rfl
  · rfl

theorem setStallTimer_hasWaiting (d : Domain) (s : State) (t : Timer) :
    (s.setPort d { s.port d with stallTimer := t }).hasWaiting d = s.hasWaiting d := by
  rw [Bool.eq_iff_iff, State.hasWaiting_iff, State.hasWaiting_iff]
  simp only [State.waitingCount, setStallTimer_isSending, State.port_setPort_same, State.entryEnd_setPort,
    State.progress_setPort, State.inputs_setPort, State.box_setPort, State.queue_setPort]

theorem finish_port (d : Domain) (s : State) :
    (finish s).port d = { (choose d s).port d with stallTimer := stallTimerAt d (choose d s) } := by
  rw [(finish_sameLink d s).port, judgeStall_eq, State.port_setPort_same]

theorem finish_box (d : Domain) (s : State) : (finish s).box d = (choose d s).box d := by
  rw [(finish_sameLink d s).box, judgeStall_eq, State.box_setPort]

theorem finish_queue (d : Domain) (s : State) : (finish s).queue d = (choose d s).queue d := by
  rw [(finish_sameLink d s).queue, judgeStall_eq, State.queue_setPort]

theorem finish_lost (s : State) : (finish s).lost = (choose .app s).lost := by
  rw [(finish_sameLink .app s).lost rfl, judgeStall_eq, State.lost_setPort]

theorem finish_hasWaiting (d : Domain) (s : State) : (finish s).hasWaiting d = (choose d s).hasWaiting d := by
  rw [(finish_sameLink d s).hasWaiting, judgeStall_eq, setStallTimer_hasWaiting]

/-! ### What a free transmitter begins (R14) -/

theorem beginTx_tx (d : Domain) (src : Source) (f : Frame) (s : State) :
    ((beginTx d src f s).port d).tx = some ⟨src, f⟩ := by
  rw [beginTx, State.port_setPort_same]

theorem beginSessionFrame_tx {d : Domain} {s t : State} (h : beginSessionFrame d s = some t) :
    (t.port d).tx ≠ none := by
  unfold beginSessionFrame at h
  split at h
  · split at h <;> cases h <;> simp [beginTx_tx]
  · split at h <;> cases h
    simp [beginTx_tx]
  · cases h

theorem beginNotice_tx {d : Domain} {s t : State} (h : beginNotice d s = some t) : (t.port d).tx ≠ none := by
  unfold beginNotice at h
  split at h <;> cases h
  simp [beginTx_tx]

theorem beginDelivery_tx {d : Domain} {s t : State} (h : beginDelivery d s = some t) : (t.port d).tx ≠ none := by
  unfold beginDelivery at h
  split at h
  · cases h
  · split at h <;> cases h
    simp [beginTx_tx]

theorem beginSessionFrame_eq_none_iff (d : Domain) (s : State) :
    beginSessionFrame d s = none ↔
      (d = .pay → s.entryEnd = none ∧ s.progress = []) ∧ (d = .app → s.inputs = []) := by
  unfold beginSessionFrame
  cases d with
  | pay => dsimp only; split <;> simp_all
  | app => dsimp only; split <;> simp_all
  | rad => simp

theorem beginNotice_eq_none_iff (d : Domain) (s : State) :
    beginNotice d s = none ↔ (s.box d).place ≠ .waiting := by
  unfold beginNotice
  split <;> simp_all

theorem DeliveryQueue.oldest_eq_none_iff (q : DeliveryQueue) (c : Class) :
    q.oldest c = none ↔ ∀ e ∈ q.entries.get c, e.eligible = false := by
  simp [DeliveryQueue.oldest]

/-- The class that the switch offers from has an entry to offer (R54). -/
theorem DeliveryQueue.oldest_of_choose {q : DeliveryQueue} {w : Nat} {c : Class} {n : Nat}
    (h : q.choose w = some (c, n)) : ∃ e, q.oldest c = some e := by
  unfold DeliveryQueue.choose at h
  split at h
  · cases h
  · cases h; exact ⟨_, ‹_›⟩
  · cases h; exact ⟨_, ‹_›⟩
  · split at h <;> cases h <;> exact ⟨_, ‹_›⟩

theorem DeliveryQueue.choose_eq_none_iff (q : DeliveryQueue) (w : Nat) :
    q.choose w = none ↔ ∀ e ∈ q.all, e.eligible = false := by
  have all : (∀ e ∈ q.all, e.eligible = false) ↔ q.oldest .priority = none ∧ q.oldest .bulk = none := by
    simp only [DeliveryQueue.oldest_eq_none_iff, DeliveryQueue.all, List.mem_append, or_imp, forall_and,
      PerClass.get]
  rw [all]
  unfold DeliveryQueue.choose
  split
  · simp_all
  · simp_all
  · simp_all
  · split <;> simp_all

theorem beginDelivery_eq_none_iff (d : Domain) (s : State) :
    beginDelivery d s = none ↔ ∀ e ∈ (s.queue d).all, e.eligible = false := by
  rw [← DeliveryQueue.choose_eq_none_iff _ (s.active.weights.get d)]
  unfold beginDelivery
  split
  · simp_all
  · rename_i c n h
    obtain ⟨e, he⟩ := DeliveryQueue.oldest_of_choose h
    simp [h, he]

theorem choose_of_busy {d : Domain} {s : State} (h : (s.port d).tx ≠ none ∨ (s.port d).ready = .low) :
    choose d s = s := by
  unfold choose
  rw [if_neg]
  rintro ⟨htx, hready⟩
  rcases h with h | h
  · exact h htx
  · rw [hready] at h; cases h

section Free

variable {d : Domain} {s : State} (free : (s.port d).tx = none) (ready : (s.port d).ready = .high)

include free ready

theorem choose_of_reply {r : Reply} {rs : List Reply} (h : (s.port d).replies = r :: rs) :
    choose d s = beginTx d .reply r.frame s := by
  unfold choose
  rw [if_pos ⟨free, ready⟩, h]

theorem choose_of_noReply (h : (s.port d).replies = []) :
    choose d s = ((beginSessionFrame d s <|> beginNotice d s) <|> beginDelivery d s).getD s := by
  unfold choose
  rw [if_pos ⟨free, ready⟩, h]

theorem choose_of_sessionFrame {t : State} (h : (s.port d).replies = []) (hs : beginSessionFrame d s = some t) :
    choose d s = t := by
  rw [choose_of_noReply free ready h, hs]; rfl

theorem choose_of_notice {t : State} (h : (s.port d).replies = []) (hs : beginSessionFrame d s = none)
    (hn : beginNotice d s = some t) : choose d s = t := by
  rw [choose_of_noReply free ready h, hs, hn]; rfl

theorem choose_of_delivery {t : State} (h : (s.port d).replies = []) (hs : beginSessionFrame d s = none)
    (hn : beginNotice d s = none) (hd : beginDelivery d s = some t) : choose d s = t := by
  rw [choose_of_noReply free ready h, hs, hn, hd]; rfl

theorem choose_of_nothing (h : (s.port d).replies = []) (hs : beginSessionFrame d s = none)
    (hn : beginNotice d s = none) (hd : beginDelivery d s = none) : choose d s = s := by
  rw [choose_of_noReply free ready h, hs, hn, hd]; rfl

end Free

/-! ### No transmitter rests -/

/-- A link where nothing is left to begin has no frame waiting. -/
theorem hasWaiting_eq_false {d : Domain} {s : State} (h : (s.port d).replies = [])
    (hs : beginSessionFrame d s = none) (hn : beginNotice d s = none) (hd : beginDelivery d s = none) :
    s.hasWaiting d = false := by
  rw [beginSessionFrame_eq_none_iff] at hs
  rw [beginNotice_eq_none_iff] at hn
  rw [beginDelivery_eq_none_iff] at hd
  rw [Bool.eq_false_iff, Ne, State.hasWaiting_iff]
  rintro (hw | ⟨rfl, ⟨hw, -⟩ | hw⟩ | ⟨rfl, hw⟩ | hw | ⟨e, he, hw⟩)
  · simp [State.waitingCount, h] at hw
  · exact hw (hs.1 rfl).1
  · simp [State.waitingCount, (hs.1 rfl).2] at hw
  · simp [State.waitingCount, hs.2 rfl] at hw
  · exact hn hw
  · rw [hd e he] at hw; cases hw

/-- A transmitter that is still free after its choice, its ready input asserted, has no frame waiting (R14). -/
theorem choose_leaves_none_waiting {d : Domain} {s : State} (free : ((choose d s).port d).tx = none)
    (ready : ((choose d s).port d).ready = .high) : (choose d s).hasWaiting d = false := by
  by_cases busy : (s.port d).tx ≠ none ∨ (s.port d).ready = .low
  · rw [choose_of_busy busy] at free ready
    rcases busy with h | h
    · exact absurd free h
    · rw [ready] at h; cases h
  · have hfree : (s.port d).tx = none := by by_contra h; exact busy (.inl h)
    have hready : (s.port d).ready = .high := by rw [← (choose_transmit d s).ready d, ready]
    cases hr : (s.port d).replies with
    | cons r rs =>
      rw [choose_of_reply hfree hready hr, beginTx_tx] at free
      cases free
    | nil =>
      cases hs : beginSessionFrame d s with
      | some t =>
        rw [choose_of_sessionFrame hfree hready hr hs] at free
        exact absurd free (beginSessionFrame_tx hs)
      | none =>
        cases hn : beginNotice d s with
        | some t =>
          rw [choose_of_notice hfree hready hr hs hn] at free
          exact absurd free (beginNotice_tx hn)
        | none =>
          cases hd : beginDelivery d s with
          | some t =>
            rw [choose_of_delivery hfree hready hr hs hn hd] at free
            exact absurd free (beginDelivery_tx hd)
          | none =>
            rw [choose_of_nothing hfree hready hr hs hn hd]
            exact hasWaiting_eq_false hr hs hn hd

/-- Whatever the state, the end of a command leaves no transmitter at rest and every stall timer as R13 has it. -/
theorem finish_busy (s : State) : (finish s).BusyInv := by
  intro _ d _
  rw [finish_hasWaiting, finish_port]
  exact ⟨choose_leaves_none_waiting, stallTimerAt_isRunning d (choose d s)⟩

end Sys2Proof.Machine
end

section
/-! PROOF. What a command can do, said once: every operation of the part is a chain of small updates (`Update`), each of
them the replacement of one block or one effect on a queue or a notice box. An invariant is checked on these and then
holds across every operation. -/

namespace Sys2Proof.Machine

open Sys2Proof

/-- One small update. The constructors name what it acts on; where a rule guards the effect, the guard is a
hypothesis. -/
inductive Update : State → State → Prop
  | pending (s : State) (l : List Instr) : Update s { s with pending := l }
  | ctl (s : State) (c : Controller) : Update s (s.setCtl c)
  | gate (s : State) (g : Gate) (l : List GateReport) : Update s { s with gate := g, reports := l }
  | sup (s : State) (u : Supervisor) : Update s (s.setSup u)
  | keys (s : State) (k : PerKey SideKey) : Update s { s with keys := k }
  | acquisition (s : State) (f : FrontEnd) (a : Adc) (m : Mapper) (n : Nat) :
      Update s { s with frontEnd := f, adc := a, mapper := m, arbiterCount := n }
  | staging (s : State) (p : Policy) : Update s { s with staging := p }
  | bars (s : State) (b : Vector Bool 8) : Update s { s with switch := { s.switch with bars := b } }
  | awake (s : State) (t : Timer) :
      Update s { s with inReset := false, switch := { s.switch with refillTimer := t } }
  /-- The buckets refill (R47). -/
  | refilled (s : State) : Update s (refillLevels s)
  /-- A bucket pays (R46). -/
  | spent (s : State) (n v : Nat) (h : v ≤ s.switch.level n) : Update s (setLevel s n v)
  /-- The staging set comes into force, with its bars and its bucket levels (R36, R37). -/
  | committed (s : State) (g : Nat) : Update s
      { s with
        active := s.staging, generation := g
        switch := { s.switch with
          bars := committedBars s.staging, levels := committedLevels s.active s.staging s.switch.levels } }
  /-- An ENTRY-END is placed (R116). -/
  | ended (s : State) (e : EntryEnd) : Update s { s with entryEnd := some e }
  /-- An ENTRY-PROGRESS is queued (R113). -/
  | progress (s : State) (p : Progress) : Update s { s with progress := joinProgress s.progress p }
  /-- An event is queued to APP (R97–R99). -/
  | input (s : State) (e : InputEvent) : Update s (queueInput e s)
  /-- A purge that spares the entry in transmission (R16, R56). -/
  | purged (s : State) (d : Domain) (gone : Entry → Bool) : Update s (removeFrom d (spares gone) s)
  /-- Held marks are set and removed (R51, R52). -/
  | held (s : State) (d : Domain) (f : Entry → Entry) (h : ∀ e, { f e with held := e.held } = e) :
      Update s (s.setQueue d ((s.queue d).mapLists fun es => es.map f))
  /-- Space-wanted marks are set and cleared (R61, R62). -/
  | wanted (s : State) (d : Domain) (w : PerDomain (PerClass Bool)) :
      Update s (s.setQueue d { s.queue d with wanted := w })
  /-- An accepted post joins a queue that has room for it (R45, R50). -/
  | posted (s : State) (d : Domain) (e : Entry) (room : (s.queue d).hasRoom e.cls e.payload.length = true)
      (idle : e.sending = false) : Update s (s.setQueue d ((s.queue d).append e))
  | flag (s : State) (d : Domain) (m : NoticeMode) (f : Flag) : Update s (s.setBox d ((s.box d).setFlag m f))
  | cleared (s : State) (d : Domain) (m : NoticeMode) (w : Word16) :
      Update s (s.setBox d ((s.box d).clearFlags m w))
  | mode (s : State) (d : Domain) (m : NoticeMode) : Update s (s.setBox d ((s.box d).takeMode m))
  | repeated (s : State) (d : Domain) : Update s (s.setBox d (s.box d).repeatExpire)
  /-- The receiver, the ready input and the stall timer of a port move; its frames stay. -/
  | port (s : State) (d : Domain) (rx : Receiver) (inBreak : Bool) (interByte : Timer) (ready : Level)
      (stallTimer : Timer) (stalled : Bool) :
      Update s (s.setPort d ⟨rx, inBreak, interByte, ready, (s.port d).replies, (s.port d).tx, stallTimer, stalled⟩)
  /-- A REPLY takes a free place (R8). -/
  | replied (s : State) (d : Domain) (r : Reply) (h : (s.port d).replies.length < maxReplies) :
      Update s (queueReply d r s)

/-- A chain of updates. -/
abbrev Updates : State → State → Prop := Relation.ReflTransGen Update

theorem Update.updates {s t : State} (h : Update s t) : Updates s t := .single h

namespace Updates

theorem foldl {α : Type} {f : State → α → State} (h : ∀ s a, Updates s (f s a)) (l : List α) (s : State) :
    Updates s (l.foldl f s) := by
  induction l generalizing s with
  | nil => exact .refl
  | cons a l ih => exact (h s a).trans (ih (f s a))

theorem ite {s t u : State} {c : Prop} [Decidable c] (h : Updates s t) (k : Updates s u) :
    Updates s (if c then t else u) := by split <;> assumption

/-- What every update keeps, a chain of them keeps. -/
theorem keeps {inv : State → Prop} (h : ∀ s t, Update s t → inv s → inv t) {s t : State} (k : Updates s t)
    (hs : inv s) : inv t := by
  induction k with
  | refl => exact hs
  | tail _ hu ih => exact h _ _ hu ih

end Updates

/-! ### The notice unit, the supervisor's timer and the switch -/

theorem setFlag_updates (d : Domain) (f : Flag) (s : State) : Updates s (setFlag d f s) := (Update.flag s d _ f).updates

theorem takeNoticeModes_updates (s : State) : Updates s (takeNoticeModes s) :=
  Updates.foldl (fun s d => (Update.mode s d _).updates) _ _

theorem gateDo_updates (f : Gate → Gate × List GateReport) (s : State) : Updates s (gateDo f s) :=
  (Update.gate s _ _).updates

theorem setCtl_updates (s : State) (c : Controller) : Updates s (s.setCtl c) := (Update.ctl s c).updates

theorem setGate_updates (s : State) (g : Gate) : Updates s (s.setGate g) := (Update.gate s g s.reports).updates

theorem setTamper_updates (s : State) (i : TamperInput) (t : Tamper) : Updates s (s.setTamper i t) :=
  (Update.sup s _).updates

theorem setKey_updates (s : State) (k : Key) (v : SideKey) : Updates s (s.setKey k v) := (Update.keys s _).updates

theorem startSilence_updates (s : State) : Updates s (startSilence s) := (Update.sup s _).updates

theorem restartSilence_updates (s : State) : Updates s (restartSilence s) := .ite (startSilence_updates s) .refl

theorem disarmSilence_updates (s : State) : Updates s (disarmSilence s) := (Update.sup s _).updates

theorem judgeSpaceOf_updates (d source : Domain) (s : State) : Updates s (judgeSpaceOf d source s) :=
  Updates.foldl (fun s _ => .ite ((Update.wanted s d _).updates.trans (setFlag_updates _ _ _)) .refl) _ _

theorem judgeSpace_updates (d : Domain) (s : State) : Updates s (judgeSpace d s) :=
  Updates.foldl (fun s source => judgeSpaceOf_updates d source s) _ _

theorem purge_updates (gone : Entry → Bool) (s : State) : Updates s (purge gone s) :=
  Updates.foldl (fun s d => .ite .refl ((Update.purged s d gone).updates.trans (judgeSpace_updates d _))) _ _

/-- Changing the held marks of every entry of every queue. -/
theorem mapEntries_updates {f : Entry → Entry} (h : ∀ e, { f e with held := e.held } = e) (s : State) :
    Updates s (mapEntries f s) :=
  Updates.foldl (fun s d => (Update.held s d f h).updates) _ _

theorem markHeld_updates (s : State) : Updates s (markHeld s) :=
  mapEntries_updates (fun e => by dsimp only; split <;> rfl) s

theorem releaseHeld_updates (s : State) : Updates s (releaseHeld s) :=
  mapEntries_updates (f := fun e => { e with held := false }) (fun _ => rfl) s

theorem remarkHeld_updates (s : State) : Updates s (remarkHeld s) :=
  mapEntries_updates (fun e => by dsimp only; split <;> rfl) s

theorem lockedPurge_updates (s : State) : Updates s (lockedPurge s) := purge_updates _ _

/-! ### The entry controller -/

theorem queueInput_updates (e : InputEvent) (s : State) : Updates s (queueInput e s) := (Update.input s e).updates

theorem pushProgress_updates (e : ProgressEvent) (n : Nat) (s : State) : Updates s (pushProgress e n s) :=
  (Update.progress s _).updates

theorem placeEnd_updates (s : State) (e : EntryEnd) : Updates s { s with entryEnd := some e } :=
  (Update.ended s e).updates

theorem cancelStroke_updates (s : State) : Updates s (cancelStroke s) := by
  unfold cancelStroke
  split
  · exact .refl
  · exact (queueInput_updates _ s).trans (setCtl_updates _ _)

theorem cancelKey_updates (s : State) (k : Key) : Updates s (cancelKey s k) :=
  .ite ((queueInput_updates _ s).trans (setCtl_updates _ _)) .refl

theorem leaveOpen_updates (s : State) : Updates s (leaveOpen s) :=
  (((cancelStroke_updates s).trans (Updates.foldl cancelKey_updates _ _)).trans (queueInput_updates _ _)).trans
    (markHeld_updates _)

theorem enterOpen_updates (s : State) : Updates s (enterOpen s) :=
  (((setCtl_updates s _).trans (releaseHeld_updates _)).trans (queueInput_updates _ _)).trans
    (disarmSilence_updates _)

theorem enterReleasing_updates (s : State) : Updates s (enterReleasing s) :=
  .ite ((setCtl_updates s _).trans (enterOpen_updates _)) (setCtl_updates s _)

theorem removeOverlay_updates (p : SessionPresentation) (s : State) : Updates s (removeOverlay p s) :=
  .ite ((gateDo_updates _ s).trans (gateDo_updates _ _)) (gateDo_updates _ s)

theorem endSecure_updates (o : SessionOutcome) (r : Session) (s : State) : Updates s (endSecure o r s) :=
  ((((setCtl_updates s _).trans (removeOverlay_updates _ _)).trans (placeEnd_updates _ _)).trans
    (setCtl_updates _ _)).trans (disarmSilence_updates _)

theorem endEarly_updates (o : SessionOutcome) (r : Session) (s : State) : Updates s (endEarly o r s) := by
  have h : Updates s (if s.ctl.state = .presenting then
      removeOverlay r.presentation (s.setCtl s.ctl.erased) else s.setCtl s.ctl.erased) :=
    .ite ((setCtl_updates s _).trans (removeOverlay_updates _ _)) (setCtl_updates s _)
  exact ((h.trans (placeEnd_updates _ _)).trans (disarmSilence_updates _)).trans (enterReleasing_updates _)

theorem endSession_updates (o : SessionOutcome) (s : State) : Updates s (endSession o s) := by
  unfold endSession
  split
  · exact .refl
  · split
    · exact endEarly_updates _ _ _
    · exact endEarly_updates _ _ _
    · exact endSecure_updates _ _ _
    all_goals exact .refl

theorem onReport_updates (s : State) (g : GateReport) : Updates s (onReport s g) := by
  unfold onReport
  split
  · split
    · exact (setCtl_updates s _).trans (pushProgress_updates _ _ _)
    · exact .refl
  · exact .ite (enterReleasing_updates s) .refl
  · exact .ite (setCtl_updates s _) .refl
  · split
    · exact .refl
    · exact .ite (endSession_updates _ s) .refl

theorem takeWave_updates (s : State) : Updates s (takeWave s) :=
  (Update.gate s s.gate []).updates.trans (Updates.foldl onReport_updates _ _)

theorem takeReports_updates (s : State) : Updates s (takeReports s) :=
  (takeWave_updates s).trans (takeWave_updates _)

theorem endArming_updates (s : State) : Updates s (endArming s) := by
  unfold endArming
  split
  · exact .refl
  · exact (Updates.ite ((gateDo_updates _ s).trans (gateDo_updates _ _)) (gateDo_updates _ s)).trans
      (setCtl_updates _ _)

theorem noContactReport_updates (s : State) : Updates s (noContactReport s) := by
  unfold noContactReport
  split
  · exact (endArming_updates s).trans (takeReports_updates _)
  · exact enterOpen_updates s
  all_goals exact .refl

theorem beginSession_updates (r : Session) (s : State) : Updates s (beginSession r s) := by
  have h := fun c => (((setCtl_updates s
    { s.ctl with session := nextSession s.ctl.session, record := some r, buffer := [], points := [],
                 candidate := .none }).trans (leaveOpen_updates _)).trans (setCtl_updates _ c)).trans
    (startSilence_updates _)
  exact .ite ((h _).trans ((endArming_updates _).trans (takeReports_updates _))) (h _)

theorem acceptedKey_updates (r : Session) (s : State) : Updates s (acceptedKey r s) := setCtl_updates _ _

theorem setBuffer_updates (ds : List Nat) (s : State) : Updates s (setBuffer ds s) :=
  .ite (setCtl_updates s _) ((setCtl_updates s _).trans (gateDo_updates _ _))

/-- An accepted key that changes the buffer and tells PAY (R111, R112). -/
theorem acceptedBuffer_updates (r : Session) (ds : List Nat) (n : Nat) (s : State) :
    Updates s (pushProgress .accepted n (setBuffer ds (acceptedKey r s))) :=
  ((acceptedKey_updates r s).trans (setBuffer_updates ds _)).trans (pushProgress_updates _ n _)

theorem pressDigit_updates (r : Session) (n : Nat) (s : State) : Updates s (pressDigit r n s) :=
  .ite (.ite ((acceptedBuffer_updates r _ _ s).trans (endSession_updates _ _)) (acceptedBuffer_updates r _ _ s))
    (pushProgress_updates _ _ _)

theorem pressBack_updates (r : Session) (s : State) : Updates s (pressBack r s) :=
  .ite (pushProgress_updates _ _ _) (acceptedBuffer_updates r _ _ s)

theorem pressClear_updates (r : Session) (s : State) : Updates s (pressClear r s) := acceptedBuffer_updates r _ _ s

theorem pressEnter_updates (r : Session) (s : State) : Updates s (pressEnter r s) :=
  .ite ((acceptedKey_updates r s).trans (endSession_updates _ _)) (pushProgress_updates _ _ _)

theorem pressCell_updates (r : Session) (i : Nat) (s : State) : Updates s (pressCell r i s) := by
  unfold pressCell
  split
  · exact .refl
  · split
    · exact pressDigit_updates _ _ _
    · exact pressBack_updates _ _
    · exact pressClear_updates _ _
    · exact pressEnter_updates _ _
    · exact endSession_updates _ _
    all_goals exact .refl

theorem sessionPress_updates (r : Session) (k : Key) (s : State) : Updates s (sessionPress r k s) := by
  unfold sessionPress
  split
  · exact endSession_updates _ _
  · exact pressClear_updates _ _
  · exact pressEnter_updates _ _
  all_goals exact .refl

theorem sessionDown_updates (r : Session) (q : Position) (s : State) : Updates s (sessionDown r q s) := by
  unfold sessionDown
  split
  · exact .refl
  · exact setCtl_updates _ _

theorem sessionUpdate_updates (r : Session) (q : Position) (s : State) : Updates s (sessionUpdate r q s) := by
  unfold sessionUpdate
  split
  · exact .ite .refl ((setCtl_updates s _).trans (pushProgress_updates _ _ _))
  · exact .refl

theorem sessionUp_updates (r : Session) (x y : Nat) (s : State) : Updates s (sessionUp r x y s) := by
  unfold sessionUp
  split
  · have h := fun c => (acceptedKey_updates r s).trans (setCtl_updates _ c)
    exact .ite ((h _).trans (endSession_updates _ _)) (h _)
  · refine .trans ?_ (setCtl_updates _ _)
    split
    · exact pressCell_updates _ _ _
    · exact .refl
    · exact .refl

theorem routeDown_updates (n : Nat) (q : Position) (s : State) : Updates s (routeDown n q s) := by
  unfold routeDown
  split
  · exact (queueInput_updates _ s).trans (setCtl_updates _ _)
  · exact (setCtl_updates s _).trans (sessionDown_updates _ _ _)
  · exact .refl

theorem routeUpdate_updates (n : Nat) (q : Position) (m : Bool) (s : State) : Updates s (routeUpdate n q m s) := by
  unfold routeUpdate
  split
  · exact .ite (queueInput_updates _ s) .refl
  · exact .ite (sessionUpdate_updates _ _ s) .refl
  · exact .refl

theorem endMarks_updates (n : Nat) (s : State) : Updates s (endMarks n s) := setCtl_updates _ _

theorem routeUp_updates (n : Nat) (q : Position) (u : Bool) (x y : Nat) (s : State) :
    Updates s (routeUp n q u x y s) := by
  unfold routeUp
  split
  · exact .ite ((queueInput_updates _ s).trans (endMarks_updates _ _)) (endMarks_updates _ s)
  · exact .ite (((endMarks_updates _ s).trans (sessionUp_updates _ _ _ _)).trans (takeReports_updates _))
      (endMarks_updates _ s)
  · exact endMarks_updates _ s

theorem routePress_updates (k : Key) (s : State) : Updates s (routePress k s) := by
  unfold routePress
  split
  · exact (queueInput_updates _ s).trans (setCtl_updates _ _)
  · exact sessionPress_updates _ _ _
  · exact .refl

theorem routeRelease_updates (k : Key) (s : State) : Updates s (routeRelease k s) :=
  .ite ((queueInput_updates _ s).trans (setCtl_updates _ _)) .refl

theorem placeTamperEnd_updates (s : State) : Updates s (placeTamperEnd s) := by
  unfold placeTamperEnd
  split
  · exact .refl
  · exact .ite (placeEnd_updates s _) .refl

theorem enterLocked_updates (s : State) : Updates s (enterLocked s) := by
  have h := (((placeTamperEnd_updates s).trans (setCtl_updates _ (placeTamperEnd s).ctl.erased)).trans
    (gateDo_updates (fun g => g.write (lockSet s.active)) _)).trans (gateDo_updates Gate.askLocal _)
  exact (((Updates.ite (c := s.ctl.state = .opened) (h.trans (leaveOpen_updates _)) h).trans
    (setCtl_updates _ _)).trans (disarmSilence_updates _)).trans (lockedPurge_updates _)

theorem tamperTrip_updates (s : State) : Updates s (tamperTrip s) :=
  .ite .refl ((enterLocked_updates s).trans (takeReports_updates _))

/-! ### The video gate -/

theorem declareLoss_updates (s : State) : Updates s (declareLoss s) :=
  .ite ((Update.gate s _ _).updates.trans (setFlag_updates _ _ _)) .refl

theorem judgeFrame_updates (lines : List Nat) (s : State) : Updates s (judgeFrame lines s) :=
  .ite (setGate_updates s _) .refl

theorem endInputFrame_updates (lines : List Nat) (s : State) : Updates s (endInputFrame lines s) :=
  .ite ((judgeFrame_updates lines s).trans (declareLoss_updates _)) (judgeFrame_updates lines s)

theorem inputFrameStart_updates (lines : List Nat) (s : State) : Updates s (inputFrameStart lines s) :=
  (((endInputFrame_updates lines s).trans (takeReports_updates _)).trans (setGate_updates _ _)).trans
    (gateDo_updates _ _)

theorem watchOnOutput_updates (s : State) : Updates s (watchOnOutput s) := by
  unfold watchOnOutput
  split
  · exact .ite (declareLoss_updates s)
      (((gateDo_updates _ s).trans (takeReports_updates _)).trans (declareLoss_updates _))
  · exact ((declareLoss_updates s).trans (takeReports_updates _)).trans (gateDo_updates _ _)
  · exact .refl
  · exact .refl
  · exact ((gateDo_updates _ s).trans (takeReports_updates _)).trans (declareLoss_updates _)

theorem silenceExpiry_updates (lines : List Nat) (s : State) : Updates s (silenceExpiry lines s) :=
  .ite (((setGate_updates s _).trans (judgeFrame_updates _ _)).trans (watchOnOutput_updates _)) .refl

/-! ### The touch front end, the side keys, the supervisor -/

theorem frontEnd_updates (s : State) (f : FrontEnd) : Updates s { s with frontEnd := f } :=
  (Update.acquisition s f s.adc s.mapper s.arbiterCount).updates

theorem mapper_updates (s : State) (m : Mapper) : Updates s { s with mapper := m } :=
  (Update.acquisition s s.frontEnd s.adc m s.arbiterCount).updates

theorem adc_updates (s : State) (a : Adc) : Updates s { s with adc := a } :=
  (Update.acquisition s s.frontEnd a s.mapper s.arbiterCount).updates

theorem takeTouch_updates (s : State) (r : TouchReport) : Updates s (takeTouch s r) := by
  cases r with
  | start x y => exact mapper_updates s _
  | track x y =>
    exact .ite (.ite ((mapper_updates s _).trans (routeUpdate_updates _ _ _ _)) (mapper_updates s _)) .refl
  | down x y => exact .ite ((mapper_updates s _).trans (routeDown_updates _ _ _)) .refl
  | up u => exact (mapper_updates s _).trans (routeUp_updates _ _ _ _ _ _)
  | drop => exact mapper_updates s _

theorem endScan_updates (t : Touch) (k : ScanKind) (s : State) : Updates s (endScan t k s) := by
  have h := (frontEnd_updates s { (s.frontEnd.apply t k).1 with progress := .none }).trans
    (Updates.foldl takeTouch_updates (s.frontEnd.apply t k).2 _)
  exact .ite (h.trans (noContactReport_updates _)) h

theorem grantBurst_updates (s : State) : Updates s (grantBurst s) :=
  (Update.acquisition s _ _ s.mapper s.arbiterCount).updates

theorem grantSupply_updates (s : State) : Updates s (grantSupply s) := adc_updates s _

theorem requestSupply_updates (s : State) : Updates s (requestSupply s) :=
  .ite (grantSupply_updates s) (adc_updates s _)

theorem grantNext_updates (s : State) : Updates s (grantNext s) := by
  unfold grantNext
  split
  · exact adc_updates s _
  · exact grantBurst_updates s
  · exact grantSupply_updates s
  · have h := (Update.acquisition s s.frontEnd s.adc s.mapper (s.arbiterCount + 1)).updates
    exact .ite (h.trans (grantBurst_updates _)) (h.trans (grantSupply_updates _))

theorem requestBurst_updates (s : State) : Updates s (requestBurst s) :=
  .ite (grantBurst_updates s) (frontEnd_updates s _)

theorem panelTick_updates (s : State) : Updates s (panelTick s) := .ite (frontEnd_updates s _) .refl

theorem beginScan_updates (plate : Word16) (s : State) : Updates s (beginScan plate s) :=
  .ite ((frontEnd_updates s _).trans (requestBurst_updates _))
    ((frontEnd_updates s _).trans (endScan_updates _ _ _))

theorem scanExpiry_updates (plate : Word16) (s : State) : Updates s (scanExpiry plate s) :=
  .ite (.ite ((frontEnd_updates s _).trans (beginScan_updates _ _)) (frontEnd_updates s _)) .refl

theorem burstDone_updates (codes : Burst) (s : State) : Updates s (burstDone codes s) :=
  .ite (((frontEnd_updates s _).trans (grantNext_updates _)).trans (endScan_updates _ _ _)) .refl

theorem startFrontEnd_updates (s : State) : Updates s (startFrontEnd s) :=
  .ite ((frontEnd_updates s _).trans (noContactReport_updates _)) .refl

theorem debounceExpiry_updates (k : Key) (s : State) : Updates s (debounceExpiry k s) :=
  .ite
    (.ite ((setKey_updates s k _).trans (routePress_updates _ _))
      ((setKey_updates s k _).trans (routeRelease_updates _ _))) .refl

theorem judgeTamper_updates (i : TamperInput) (s : State) : Updates s (judgeTamper i s) := by
  have trips : ∀ s, Updates s (trip i s) := fun s =>
    .ite (setTamper_updates s i _)
      (((setTamper_updates s i _).trans (setFlag_updates _ _ _)).trans (tamperTrip_updates _))
  exact .ite ((setTamper_updates s i _).trans (trips _)) (setTamper_updates s i _)

theorem filterExpiry_updates (i : TamperInput) (s : State) : Updates s (filterExpiry i s) :=
  .ite ((setTamper_updates s i _).trans (judgeTamper_updates _ _)) .refl

theorem warnSupply_updates (s : State) : Updates s (warnSupply s) :=
  (setFlag_updates _ _ s).trans (setFlag_updates _ _ _)

theorem lowSupply_updates (s : State) : Updates s (lowSupply s) :=
  ((setFlag_updates _ _ s).trans (endSession_updates _ _)).trans (takeReports_updates _)

theorem supplyMove_updates (old new : SupplyLevel) (s : State) : Updates s (supplyMove old new s) := by
  unfold supplyMove
  split
  · exact warnSupply_updates s
  · exact lowSupply_updates s
  · exact (warnSupply_updates s).trans (lowSupply_updates _)
  · exact .refl

theorem supplyDone_updates (code : AdcCode) (s : State) : Updates s (supplyDone code s) :=
  .ite (((grantNext_updates s).trans (Update.sup _ _).updates).trans (supplyMove_updates _ _ _)) .refl

theorem endFullReset_updates (s : State) : Updates s (endFullReset s) := by
  have blocks := (((Update.awake s (.running refillTime)).updates.trans
    (Update.keys _ ⟨s.keys.cancel.awake s.active.debounce, s.keys.clear.awake s.active.debounce,
      s.keys.enter.awake s.active.debounce, s.keys.fn.awake s.active.debounce⟩).updates).trans
    (setGate_updates _ { s.gate with watch := .running watchTime })).trans
    (Update.sup _ { s.sup with
      tamper := ⟨s.sup.tamper.a.awake, s.sup.tamper.b.awake⟩, requestTimer := .running supplyTime }).updates
  exact (blocks.trans (requestSupply_updates _)).trans (Updates.foldl (fun s d => setFlag_updates d _ s) _ _)

/-! ### The owners of requests -/

/-- The checks of R41 pass only when the destination queue has room (R50). -/
theorem hasRoom_of_postChecks {s : State} {d : Domain} {slot n : Nat} {c : Channel}
    (h : postChecks s d slot c n = none) : (s.queue (c.other d)).hasRoom c.cls n = true := by
  unfold postChecks at h
  iterate 9 (split at h; · cases h)
  simp_all

theorem acceptPost_updates {s : State} {d : Domain} {slot : Nat} {c : Channel} {payload : List Byte}
    (channel : Nat) (h : postChecks s d slot c payload.length = none) :
    Updates s (acceptPost s d slot channel c payload) := by
  have room := hasRoom_of_postChecks h
  unfold acceptPost
  dsimp only
  split
  · exact (Update.spent s slot _ (Nat.sub_le _ _)).updates.trans (Update.posted _ _ _ room rfl).updates
  · exact (Update.posted s _ _ room rfl).updates

theorem runPost_updates (d : Domain) (slot : Byte) (body : List Byte) (s : State) :
    Updates s (runPost d slot body s).1 := by
  unfold runPost
  dsimp only
  split
  · exact .refl
  · split
    · exact .refl
    · split
      · exact .refl
      · split
        · exact acceptPost_updates _ ‹_›
        · exact (Update.wanted s _ _).updates
        · exact .refl

theorem runLoad_updates (body : List Byte) (s : State) : Updates s (runLoad body s).1 := by
  unfold runLoad
  dsimp only
  split
  · exact .refl
  · split
    · exact .refl
    · exact (Update.staging s _).updates

/-- The tables, bars and levels of a commit, before the notices and the purge that follow (R36, R37). -/
def tablesInForce (s : State) : State :=
  { s with
    active := s.staging, generation := nextGeneration s.generation
    switch := { s.switch with
      bars := committedBars s.staging, levels := committedLevels s.active s.staging s.switch.levels } }

/-- The notices of a commit (R36, R166). -/
def commitNotices (s : State) : State :=
  setFlag .rad .policyChange (setFlag .app .slotChange (takeNoticeModes s))

theorem commitSwitch_commitTables (s : State) :
    commitSwitch s.active (commitTables s) =
      remarkHeld (purge (unfit s.active s.staging) (commitNotices (tablesInForce s))) := rfl

theorem acceptCommit_updates (s : State) : Updates s (acceptCommit s) := by
  have tables : Updates s (commitSwitch s.active (commitTables s)) := by
    rw [commitSwitch_commitTables]
    exact ((((((Update.committed s _).updates.trans (takeNoticeModes_updates _)).trans (setFlag_updates _ _ _)).trans
      (setFlag_updates _ _ _)).trans (purge_updates _ _)).trans (remarkHeld_updates _))
  have started : Updates s (if s.generation = 0 then startFrontEnd (commitSwitch s.active (commitTables s))
      else commitSwitch s.active (commitTables s)) :=
    .ite (tables.trans (startFrontEnd_updates _)) tables
  exact (((started.trans (setGate_updates _ _)).trans (Update.sup _ _).updates).trans
    (judgeTamper_updates _ _)).trans (judgeTamper_updates _ _)

theorem runCommit_updates (body : List Byte) (s : State) : Updates s (runCommit body s).1 := by
  unfold runCommit
  split
  · exact .refl
  · split
    · exact .refl
    · split
      · exact .refl
      · exact acceptCommit_updates s

theorem runEntryBegin_updates (body : List Byte) (s : State) : Updates s (runEntryBegin body s).1 := by
  unfold runEntryBegin
  split
  · exact .refl
  · split
    · exact .refl
    · split
      · exact .refl
      · exact beginSession_updates _ s

theorem runEntryAbort_updates (s : State) : Updates s (runEntryAbort s).1 := by
  unfold runEntryAbort
  split
  · exact (endSession_updates _ s).trans (takeReports_updates _)
  · exact .refl

theorem setBar_updates (s : State) (n : Nat) (v : Bool) : Updates s (setBar s n v) := (Update.bars s _).updates

theorem runSlotBar_updates (body : List Byte) (s : State) : Updates s (runSlotBar body s).1 := by
  unfold runSlotBar
  dsimp only
  split
  · exact .refl
  · split
    · exact ((setBar_updates s _ _).trans (purge_updates _ _)).trans (setFlag_updates _ _ _)
    · exact (setBar_updates s _ _).trans (setFlag_updates _ _ _)

theorem acceptUnlock_updates (s : State) : Updates s (acceptUnlock s) :=
  ((((Update.sup s _).updates.trans (gateDo_updates _ _)).trans (gateDo_updates _ _)).trans (setCtl_updates _ _)).trans
    ((enterReleasing_updates _).trans (takeReports_updates _))

theorem runUnlock_updates (s : State) : Updates s (runUnlock s).1 := by
  unfold runUnlock
  split
  · exact .refl
  · split
    · exact .refl
    · split
      · exact .refl
      · exact acceptUnlock_updates s

theorem ownerOf_updates (d : Domain) (f : Frame) (s : State) : Updates s (ownerOf d f s).1 := by
  unfold ownerOf
  split
  · exact .refl
  · exact runPost_updates _ _ _ _
  · rw [runStatus_owner]
  · exact (Update.cleared s d _ _).updates
  · exact setFlag_updates _ _ _
  · exact runLoad_updates _ _
  · exact (Update.staging s _).updates
  · exact runCommit_updates _ _
  · exact runEntryBegin_updates _ _
  · exact runEntryAbort_updates _
  · exact runSlotBar_updates _ _
  · exact runUnlock_updates _
  · exact .refl

end Sys2Proof.Machine
end

section
/-! PROOF. What a command answers, said once (`exec_cases`): nothing new, the full reset, a pin's level during a reset,
or the end of a command (`finish`) after an opening and a chain of updates. An invariant that each of these keeps, every
step keeps (`keptByStep_of`). -/

namespace Sys2Proof.Machine

open Sys2Proof

/-! ### The frame of a command -/

/-- With no report of the gate waiting the controller takes none (log entry 14). -/
theorem takeReports_of_none {s : State} (h : s.reports = []) : takeReports s = s := by
  have wave : takeWave s = s := by
    obtain ⟨⟩ := s
    subst h
    rfl
  rw [takeReports, wave, wave]

theorem act_of_running {s : State} (h : s.inReset = false) (f : State → State) :
    act s f = .next (finish (takeReports (f s))) := by
  rw [act, h]; rfl

theorem act_of_reset {s : State} (h : s.inReset = true) (f : State → State) : act s f = .next s := by
  rw [act, if_pos h]

/-- A command of a running part whose effect reports nothing of the gate ends after that effect. -/
theorem act_of_noReports {s : State} {f : State → State} (h : s.inReset = false) (hf : (f s).reports = []) :
    act s f = .next (finish (f s)) := by
  rw [act_of_running h, takeReports_of_none hf]

theorem actPin_of_running {s : State} (h : s.inReset = false) (pin f : State → State) :
    actPin s pin f = act s f := by
  rw [actPin, h]; rfl

theorem actPin_of_reset {s : State} (h : s.inReset = true) (pin f : State → State) :
    actPin s pin f = .next (pin s) := by
  rw [actPin, if_pos h]

/-- A request command is its whole frame arriving for the owner of the frame's kind (R4, R9). -/
theorem exec_request {c : Instr} {d : Domain} {f : Frame} (h : requestOf c = some (d, f)) (s : State) :
    exec c s = act s (wholeFrame d f (ownerOf d f)) := by
  cases c <;> cases h <;> rfl

/-! ### The end of a command where nothing waits -/

theorem finish_of_settled {s : State} (hc : ∀ d, choose d s = s) (hj : ∀ d, judgeStall d s = s) : finish s = s := by
  simp only [finish, allDomains, List.foldl_cons, List.foldl_nil, hc, hj]

theorem State.setPort_port (s : State) (d : Domain) : s.setPort d (s.port d) = s := by
  simp [State.setPort, State.port]

theorem fullReset_port (d : Domain) (s : State) : (fullReset s).port d = Port.reset (s.port d).ready := by
  cases d <;> rfl

theorem fullReset_box (d : Domain) (s : State) : (fullReset s).box d = NoticeBox.blank := by cases d <;> rfl

theorem fullReset_queue (d : Domain) (s : State) :
    (fullReset s).queue d = ⟨⟨[], []⟩, 0, PerDomain.all ⟨false, false⟩⟩ := by cases d <;> rfl

/-- After a full reset no transmitter has anything to begin. -/
theorem choose_fullReset (d : Domain) (s : State) : choose d (fullReset s) = fullReset s := by
  rcases hready : ((fullReset s).port d).ready
  · exact choose_of_busy (.inr hready)
  · refine choose_of_nothing (by rw [fullReset_port]; rfl) hready (by rw [fullReset_port]; rfl) ?_ ?_ ?_
    · rw [beginSessionFrame_eq_none_iff]; exact ⟨fun _ => ⟨rfl, rfl⟩, fun _ => rfl⟩
    · rw [beginNotice_eq_none_iff, fullReset_box]; decide
    · rw [beginDelivery_eq_none_iff, fullReset_queue]; intro e he; cases he

theorem hasWaiting_fullReset (d : Domain) (s : State) : (fullReset s).hasWaiting d = false := by
  refine hasWaiting_eq_false (by rw [fullReset_port]; rfl) ?_ ?_ ?_
  · rw [beginSessionFrame_eq_none_iff]; exact ⟨fun _ => ⟨rfl, rfl⟩, fun _ => rfl⟩
  · rw [beginNotice_eq_none_iff, fullReset_box]; decide
  · rw [beginDelivery_eq_none_iff, fullReset_queue]; intro e he; cases he

theorem finish_fullReset (s : State) : finish (fullReset s) = fullReset s := by
  refine finish_of_settled (fun d => choose_fullReset d s) fun d => ?_
  have stopped : stallTimerAt d (fullReset s) = .stopped := by
    rw [stallTimerAt, if_neg]
    rintro ⟨-, -, -, hw⟩
    rw [hasWaiting_fullReset] at hw
    cases hw
  rw [judgeStall_eq, stopped]
  have same : { (fullReset s).port d with stallTimer := Timer.stopped } = (fullReset s).port d := by
    rw [fullReset_port]; rfl
  rw [same, State.setPort_port]

/-! ### The answers of all commands -/

/-- A link reset of `d` before the end of a session (R6, R60, R168). -/
def linkCleared (d : Domain) (s : State) : State :=
  noticeLinkReset d (switchLinkReset d (portLinkReset d s))

/-- Link `d`'s frame in transmission is over. -/
def txOver (d : Domain) (s : State) : State := s.setPort d { s.port d with tx := none }

/-- What a command does outright, before its chain of updates: nothing, a completed frame leaves its place (R15), or a
link reset (R6). -/
inductive Opening : State → State → Prop
  | none (s : State) : Opening s s
  | reply (s : State) (d : Domain) (h : s.isSending d .reply = true) :
      Opening s ((txOver d s).setPort d { (txOver d s).port d with replies := (s.port d).replies.tail })
  | entryEnd (s : State) (h : s.isSending .pay .entryEnd = true) :
      Opening s { txOver .pay s with entryEnd := .none }
  | progress (s : State) (h : s.isSending .pay .progress = true) :
      Opening s { txOver .pay s with progress := s.progress.drop 1 }
  | input (s : State) (h : s.isSending .app .input = true) :
      Opening s { txOver .app s with inputs := s.inputs.drop 1 }
  | notice (s : State) (d : Domain) (h : s.isSending d .notice = true) : Opening s (noticeDone d (txOver d s))
  | delivery (s : State) (d : Domain) (h : s.isSending d .delivery = true) :
      Opening s (removeFrom d (fun e => e.sending) (txOver d s))
  | linkReset (s : State) (d : Domain) : Opening s (linkCleared d s)

/-- A state that command `c` can leave from `s`. -/
def Answers (s t : State) : Prop :=
  t = s ∨ t = fullReset s ∨ (s.inReset = true ∧ t.inReset = true ∧ Updates s t) ∨
    ∃ v u, Opening s v ∧ Updates v u ∧ t = finish u

theorem Answers.of_act {s t v : State} {f : State → State} (h : act s f = .next t) (hv : Opening s v)
    (hu : Updates v (f s)) : Answers s t := by
  cases hr : s.inReset with
  | true => rw [act_of_reset hr] at h; cases h; exact .inl rfl
  | false =>
    rw [act_of_running hr] at h
    cases h
    exact .inr (.inr (.inr ⟨v, _, hv, hu.trans (takeReports_updates _), rfl⟩))

/-- A command that is a chain of updates from the start. -/
theorem Answers.of_updates {s t : State} {f : State → State} (h : act s f = .next t) (hu : Updates s (f s)) :
    Answers s t := .of_act h (.none s) hu

theorem Answers.of_actPin {s t : State} {pin f : State → State} (h : actPin s pin f = .next t)
    (hpin : (pin s).inReset = s.inReset) (hp : Updates s (pin s)) (hf : Updates s (f s)) : Answers s t := by
  cases hr : s.inReset with
  | true =>
    rw [actPin_of_reset hr] at h
    cases h
    exact .inr (.inr (.inl ⟨hr, hpin.trans hr, hp⟩))
  | false =>
    rw [actPin_of_running hr] at h
    exact .of_updates h hf

/-! ### The operations of the ports -/

theorem setReceiver_updates (d : Domain) (r : Receiver) (s : State) : Updates s (setReceiver d r s) :=
  (Update.port s d _ _ _ _ _ _).updates

theorem validFrame_updates (d : Domain) (f : Frame) (s : State) : Updates s (validFrame d f (ownerOf d f) s) := by
  have told : Updates s (if d = .pay then restartSilence s else s) := .ite (restartSilence_updates s) .refl
  unfold validFrame
  dsimp only
  revert told
  generalize (if d = .pay then restartSilence s else s) = s1
  intro told
  split
  · exact told.trans (setFlag_updates _ _ _)
  · rename_i room
    rw [Nat.not_le] at room
    refine told.trans ?_
    unfold execute
    split
    · exact (Update.replied s1 d _ room).updates
    · have ports := (ownerOf_owner d f s1).ports
      refine (ownerOf_updates d f s1).trans (Update.replied _ d _ ?_).updates
      rw [State.port, ports]
      exact room

theorem wholeFrame_updates (d : Domain) (f : Frame) (s : State) : Updates s (wholeFrame d f (ownerOf d f) s) :=
  .ite .refl ((setReceiver_updates d _ s).trans (validFrame_updates d f _))

theorem receive_updates (d : Domain) (r : Receiver × RxEvent) (s : State) : Updates s (receive d r s) := by
  refine .ite .refl ((setReceiver_updates d r.1 s).trans ?_)
  unfold rxEvent
  split
  · exact .refl
  · exact setFlag_updates _ _ _
  · exact validFrame_updates _ _ _

theorem discardPartial_updates (d : Domain) (s : State) : Updates s (discardPartial d s) :=
  .ite ((setReceiver_updates d _ s).trans (setFlag_updates _ _ _)) .refl

/-- A completion whose place is left as `v`, with `u` what follows (R15). -/
theorem Answers.of_complete {s t v : State} {d : Domain} {src : Source} {f : State → State}
    (h : act s (complete d src f) = .next t) (hv : s.isSending d src = true → Opening s v)
    (hu : Updates v (f (txOver d s))) : Answers s t := by
  cases hs : s.isSending d src with
  | true =>
    refine .of_act h (hv hs) ?_
    rw [complete, if_pos hs]
    exact hu
  | false =>
    refine .of_updates h ?_
    rw [complete, hs]
    exact .refl

theorem replyDone_txOver (d : Domain) (s : State) :
    replyDone d (txOver d s) = fullReset s ∨
      replyDone d (txOver d s) =
        (txOver d s).setPort d { (txOver d s).port d with replies := (s.port d).replies.tail } := by
  have replies : ((txOver d s).port d).replies = (s.port d).replies := by rw [txOver, State.port_setPort_same]
  unfold replyDone
  split
  · rename_i hr
    right
    rw [replies] at hr
    have same : { (txOver d s).port d with replies := (s.port d).replies.tail } = (txOver d s).port d := by
      rw [hr, List.tail_nil, ← hr, ← replies]
    rw [same, State.setPort_port]
  · rename_i r rs hr
    rw [replies] at hr
    rw [hr, List.tail_cons]
    split
    · left; cases d <;> rfl
    · right; rfl

theorem execReplyComplete_answers {s t : State} {d : Domain} (h : execReplyComplete d s = .next t) :
    Answers s t := by
  rcases replyDone_txOver d s with hr | hr
  · cases hreset : s.inReset with
    | true => rw [execReplyComplete, act_of_reset hreset] at h; cases h; exact .inl rfl
    | false =>
      rw [execReplyComplete, act_of_running hreset, complete] at h
      cases h
      split
      · right; left
        rw [show s.setPort d { s.port d with tx := none } = txOver d s from rfl, hr, takeReports_of_none rfl,
          finish_fullReset]
      · exact .inr (.inr (.inr ⟨s, _, .none s, takeReports_updates s, rfl⟩))
  · exact .of_complete h (fun hs => .reply s d hs) (by rw [hr])

theorem linkReset_updates (d : Domain) (s : State) : Updates (linkCleared d s) (linkReset d s) :=
  .ite ((restartSilence_updates _).trans (endSession_updates _ _)) .refl

theorem execSerialBreak_answers {s t : State} {d : Domain} (h : execSerialBreak d s = .next t) : Answers s t := by
  cases hb : (s.port d).inBreak with
  | true => exact .of_updates h (by rw [hb]; exact .refl)
  | false => exact .of_act h (.linkReset s d) (by rw [hb]; exact linkReset_updates d s)

/-- What a command can answer. -/
theorem exec_cases {c : Instr} {s t : State} (h : exec c s = .next t) : Answers s t := by
  cases hc : requestOf c with
  | some df =>
    rw [exec_request hc] at h
    exact .of_updates h (wholeFrame_updates _ _ s)
  | none =>
    cases c with
    | lineError d =>
      change execLineError d s = _ at h
      exact .of_updates h (.ite .refl (discardPartial_updates d s))
    | serialBreak d => exact execSerialBreak_answers h
    | breakEnd d =>
      change execBreakEnd d s = _ at h
      exact .of_updates h (.ite ((Update.port s d (s.port d).rx false (s.port d).interByte (s.port d).ready
        (s.port d).stallTimer (s.port d).stalled).updates.trans (setReceiver_updates d _ _)) .refl)
    | interByteTimeout d =>
      change execInterByteTimeout d s = _ at h
      exact .of_updates h (.ite (discardPartial_updates d s) .refl)
    | lengthOver512 d kind tag slot length =>
      change execLengthOver512 d kind tag slot length s = _ at h
      exact .of_updates h (receive_updates d _ s)
    | frameCheckFail d kind tag slot body check =>
      change execFrameCheckFail d kind tag slot body check s = _ at h
      exact .of_updates h (receive_updates d _ s)
    | readyAsserted d =>
      change execReadyAsserted d s = _ at h
      exact .of_actPin h rfl
        (Update.port s d _ _ _ .high _ _).updates (Update.port s d _ _ _ .high _ false).updates
    | readyDeasserted d =>
      change execReadyDeasserted d s = _ at h
      exact .of_actPin h rfl (Update.port s d _ _ _ .low _ _).updates (Update.port s d _ _ _ .low _ _).updates
    | stallTimerExpiry d =>
      change execStallTimerExpiry d s = _ at h
      exact .of_updates h (.ite ((Update.port s d _ _ _ _ .stopped true).updates.trans
        (setFlag_updates _ _ _)) .refl)
    | replyComplete d => exact execReplyComplete_answers h
    | entryEndComplete =>
      change execEntryEndComplete s = _ at h
      exact .of_complete h (.entryEnd s) .refl
    | entryProgressComplete =>
      change execEntryProgressComplete s = _ at h
      exact .of_complete h (.progress s) .refl
    | inputComplete =>
      change execInputComplete s = _ at h
      exact .of_complete h (.input s) .refl
    | noticeComplete d =>
      change execNoticeComplete d s = _ at h
      exact .of_complete h (.notice s d) .refl
    | deliveryComplete d =>
      change execDeliveryComplete d s = _ at h
      exact .of_complete h (.delivery s d) (judgeSpace_updates d _)
    | fullReset => cases h; exact .inr (.inl rfl)
    | fullResetEnd =>
      cases h
      split
      · exact .inr (.inr (.inr ⟨s, _, .none s, endFullReset_updates s, rfl⟩))
      · exact .inl rfl
    | refillTimerExpiry =>
      change execRefillTimerExpiry s = _ at h
      exact .of_updates h (.ite (Update.refilled s).updates .refl)
    | scanTimerExpiry plate =>
      change execScanTimerExpiry plate s = _ at h
      exact .of_updates h (scanExpiry_updates plate s)
    | burstEnd codes =>
      change execBurstEnd codes s = _ at h
      exact .of_updates h (burstDone_updates codes s)
    | supplyRequestTimerExpiry =>
      change execSupplyRequestTimerExpiry s = _ at h
      exact .of_updates h (.ite (requestSupply_updates s) .refl)
    | supplyConversionEnd code =>
      change execSupplyConversionEnd code s = _ at h
      exact .of_updates h (supplyDone_updates code s)
    | keyInputChange k l =>
      change execKeyInputChange k l s = _ at h
      exact .of_actPin h rfl (setKey_updates s k _) (setKey_updates s k _)
    | keyDebounceExpiry k =>
      change execKeyDebounceExpiry k s = _ at h
      exact .of_updates h (debounceExpiry_updates k s)
    | totalTimerExpiry =>
      change execTotalTimerExpiry s = _ at h
      exact .of_updates h (.ite (endSession_updates _ s) .refl)
    | firstKeyTimerExpiry =>
      change execFirstKeyTimerExpiry s = _ at h
      exact .of_updates h (.ite (endSession_updates _ s) .refl)
    | interKeyTimerExpiry =>
      change execInterKeyTimerExpiry s = _ at h
      exact .of_updates h (.ite (endSession_updates _ s) .refl)
    | inputFrameStart lines =>
      change execInputFrameStart lines s = _ at h
      exact .of_updates h (inputFrameStart_updates lines s)
    | silenceWatchExpiry lines =>
      change execSilenceWatchExpiry lines s = _ at h
      exact .of_updates h (silenceExpiry_updates lines s)
    | localFrameEnd =>
      change execLocalFrameEnd s = _ at h
      exact .of_updates h (gateDo_updates _ s)
    | tamperPinChange i l =>
      change execTamperPinChange i l s = _ at h
      exact .of_actPin h rfl (setTamper_updates s i _) (setTamper_updates s i _)
    | tamperFilterExpiry i =>
      change execTamperFilterExpiry i s = _ at h
      exact .of_updates h (filterExpiry_updates i s)
    | paySilenceExpiry =>
      change execPaySilenceExpiry s = _ at h
      exact .of_updates h (.ite ((disarmSilence_updates s).trans (endSession_updates _ _)) .refl)
    | repeatTimerExpiry d =>
      change execRepeatTimerExpiry d s = _ at h
      exact .of_updates h (Update.repeated s d).updates
    | receivedByte d b =>
      change execReceivedByte d b s = _ at h
      exact .of_updates h (receive_updates d _ s)
    | _ => cases hc

/-- What a step can answer: the panel's tick, or a command from the front of the queue. -/
theorem step_cases {s t : State} (h : step s = .next t) :
    t = panelTick s ∨ ∃ rest, Answers { s with pending := rest } t := by
  unfold step at h
  split at h
  · cases h; exact .inl rfl
  · exact .inr ⟨_, exec_cases h⟩

/-- An invariant that every update, every opening, the end of a command and the full reset keep, every step keeps. -/
theorem keptByStep_of {inv : State → Prop} (update : ∀ s t, Update s t → inv s → inv t)
    (opening : ∀ s t, Opening s t → inv s → inv t) (finish : ∀ s, inv s → inv (finish s))
    (reset : ∀ s, inv s → inv (fullReset s)) : KeptByStep inv := by
  intro s t hs h
  rcases step_cases h with rfl | ⟨rest, ht⟩
  · exact (panelTick_updates s).keeps update hs
  · have hr := update s _ (.pending s rest) hs
    rcases ht with rfl | rfl | ⟨-, -, hu⟩ | ⟨v, u, hv, hu, rfl⟩
    · exact hr
    · exact reset _ hr
    · exact hu.keeps update hr
    · exact finish u (hu.keeps update (opening _ v hv hr))

end Sys2Proof.Machine
end

section
/-! PROOF. O57: no transmitter rests, and the stall timers are as R13 has them (R12–R14). -/

namespace Sys2Proof.Machine

open Sys2Proof

theorem fullReset_busy (s : State) : (fullReset s).BusyInv := fun h => by cases h

/-- Every command ends in a reset, in its own state, or in `finish`, which settles every link. -/
theorem busyInv_keptByStep : KeptByStep State.BusyInv := by
  intro s t hs h
  rcases step_cases h with rfl | ⟨rest, rfl | rfl | ⟨-, hreset, -⟩ | ⟨v, u, -, -, rfl⟩⟩
  · rw [panelTick_panel]; exact hs
  · exact hs
  · exact fullReset_busy _
  · intro running; rw [hreset] at running; cases running
  · exact finish_busy u

end Sys2Proof.Machine

open Sys2Proof Sys2Proof.Machine

/-- Settles O57: whatever a command did, its end leaves no transmitter at rest and judges every stall timer afresh. -/
theorem noTransmitterRests : Obligations.NoTransmitterRests := busyInv_keptByStep
end

section
/-! PROOF. Judging the space-wanted marks (R62) and the link reset (R6, R60, R168), field by field. -/

namespace Sys2Proof.Machine

open Sys2Proof

/-! ### Setting a flag -/

@[simp] theorem judgeRepeat_flags (m : NoticeMode) (b : NoticeBox) : (judgeRepeat m b).flags = b.flags := by
  unfold judgeRepeat; split
  · split <;> rfl
  · rfl

@[simp] theorem judgeRepeat_place (m : NoticeMode) (b : NoticeBox) : (judgeRepeat m b).place = b.place := by
  unfold judgeRepeat; split
  · split <;> rfl
  · rfl

@[simp] theorem riseOnPlace_flags (b : NoticeBox) : (riseOnPlace b).flags = b.flags := by
  unfold riseOnPlace; split <;> rfl

theorem hasFlag_or_mask (w : Word16) (f : Flag) : hasFlag (w ||| f.mask) f = true := by
  have small : f.bit < 16 := by cases f <;> decide
  simp [hasFlag, Flag.mask, small]

theorem NoticeBox.hasFlag_setFlag (b : NoticeBox) (m : NoticeMode) (f : Flag) :
    hasFlag (b.setFlag m f).flags f = true := by
  unfold NoticeBox.setFlag
  split
  · assumption
  · simp [hasFlag_or_mask]

/-- A flag that is set stays as it is when it is set again (R160). -/
theorem NoticeBox.setFlag_setFlag (b : NoticeBox) (m : NoticeMode) (f : Flag) :
    (b.setFlag m f).setFlag m f = b.setFlag m f := by
  conv_lhs => rw [NoticeBox.setFlag, if_pos (b.hasFlag_setFlag m f)]

theorem setFlag_box (d e : Domain) (f : Flag) (s : State) :
    (setFlag d f s).box e = if e = d then (s.box d).setFlag (s.noticeMode d) f else s.box e :=
  State.box_setBox _ _ _ _

theorem State.setBox_setBox (s : State) (d : Domain) (b c : NoticeBox) : (s.setBox d b).setBox d c = s.setBox d c := by
  simp [State.setBox]

theorem setFlag_setFlag (d : Domain) (f : Flag) (s : State) : setFlag d f (setFlag d f s) = setFlag d f s := by
  unfold setFlag
  rw [State.box_setBox_same, State.setBox_setBox]
  exact congrArg (s.setBox d) (NoticeBox.setFlag_setFlag _ _ _)

/-! ### Judging the marks on a queue (R62) -/

/-- The judging of one mark: that of a domain for a class. -/
def judgeMark (d : Domain) (s : State) (m : Domain × Class) : State :=
  if (s.queue d).meets m.1 m.2 then
    setFlag m.1 .queueSpace (s.setQueue d ((s.queue d).setWanted m.1 m.2 false))
  else s

/-- The marks that can stand on a queue, in the order in which the switch judges them. -/
def allMarks : List (Domain × Class) := allDomains.flatMap fun d => allClasses.map fun c => (d, c)

theorem mem_allMarks (d : Domain) (c : Class) : (d, c) ∈ allMarks := by
  simp [allMarks]

theorem DeliveryQueue.setWanted_wanted (q : DeliveryQueue) (src x : Domain) (c k : Class) (v : Bool) :
    ((q.setWanted src c v).wanted.get x).get k =
      if x = src ∧ k = c then v else (q.wanted.get x).get k := by
  simp only [DeliveryQueue.setWanted, PerDomain.get_set]
  by_cases hx : x = src
  · subst hx; simp [PerClass.get_set]
  · simp [hx]

theorem judgeMark_queue_other {d e : Domain} (h : e ≠ d) (s : State) (m : Domain × Class) :
    (judgeMark d s m).queue e = s.queue e := by
  unfold judgeMark
  split
  · exact (State.queue_setQueue s d e _).trans (if_neg h)
  · rfl

theorem judgeMark_queue (d : Domain) (s : State) (m : Domain × Class) :
    (judgeMark d s m).queue d =
      if (s.queue d).meets m.1 m.2 then (s.queue d).setWanted m.1 m.2 false else s.queue d := by
  unfold judgeMark
  split
  · exact State.queue_setQueue_same s d _
  · rfl

theorem judgeMark_entries (d : Domain) (s : State) (m : Domain × Class) :
    ((judgeMark d s m).queue d).entries = (s.queue d).entries := by
  rw [judgeMark_queue]; split <;> rfl

theorem judgeMark_run (d : Domain) (s : State) (m : Domain × Class) :
    ((judgeMark d s m).queue d).run = (s.queue d).run := by
  rw [judgeMark_queue]; split <;> rfl

theorem judgeMark_roomAgain (d : Domain) (s : State) (m : Domain × Class) (c : Class) :
    ((judgeMark d s m).queue d).roomAgain c = (s.queue d).roomAgain c := by
  rw [judgeMark_queue]; split <;> rfl

theorem judgeMark_wanted (d : Domain) (s : State) (m : Domain × Class) (x : Domain) (k : Class) :
    (((judgeMark d s m).queue d).wanted.get x).get k =
      (((s.queue d).wanted.get x).get k && !(decide ((x, k) = m) && (s.queue d).roomAgain k)) := by
  obtain ⟨src, c⟩ := m
  rw [judgeMark_queue]
  by_cases same : (x, k) = (src, c)
  · cases same
    cases hm : (s.queue d).meets x k
    · simp only [DeliveryQueue.meets] at hm
      cases hw : ((s.queue d).wanted.get x).get k <;> simp_all
    · have room : (s.queue d).roomAgain k = true := by simp_all [DeliveryQueue.meets]
      simp [DeliveryQueue.setWanted_wanted, room]
  · have other : ¬(x = src ∧ k = c) := fun h => same (by rw [h.1, h.2])
    split <;> simp [DeliveryQueue.setWanted_wanted, same, other]

theorem judgeMark_meets (d : Domain) (s : State) (m : Domain × Class) (x : Domain) (k : Class) :
    ((judgeMark d s m).queue d).meets x k = ((s.queue d).meets x k && !decide ((x, k) = m)) := by
  unfold DeliveryQueue.meets
  rw [judgeMark_roomAgain, judgeMark_wanted]
  cases (s.queue d).roomAgain k <;> simp

theorem judgeMark_box (d : Domain) (s : State) (m : Domain × Class) (e : Domain) :
    (judgeMark d s m).box e =
      if e = m.1 ∧ (s.queue d).meets m.1 m.2 = true then (s.box e).setFlag (s.noticeMode e) .queueSpace
      else s.box e := by
  unfold judgeMark
  split
  · rename_i hm
    refine (setFlag_box _ _ _ _).trans ?_
    by_cases he : e = m.1
    · subst he; simp [hm]; rfl
    · simp [he]
  · simp_all

/-- From `s` to `t` at most the delivery queues and the notice boxes changed. -/
def QueuesOnly (s t : State) : Prop :=
  ∃ q n, t = { s with switch := { s.switch with queues := q }, notices := n }

namespace QueuesOnly

theorem refl (s : State) : QueuesOnly s s := ⟨s.switch.queues, s.notices, rfl⟩

theorem trans {s t u : State} (h : QueuesOnly s t) (k : QueuesOnly t u) : QueuesOnly s u := by
  obtain ⟨_, _, rfl⟩ := h
  obtain ⟨q, n, rfl⟩ := k
  exact ⟨q, n, rfl⟩

theorem ite {s t u : State} {c : Prop} [Decidable c] (h : QueuesOnly s t) (k : QueuesOnly s u) :
    QueuesOnly s (if c then t else u) := by split <;> assumption

theorem foldl {α : Type} {f : State → α → State} (h : ∀ s a, QueuesOnly s (f s a)) (l : List α) (s : State) :
    QueuesOnly s (l.foldl f s) := by
  induction l generalizing s with
  | nil => exact refl s
  | cons a l ih => exact (h s a).trans (ih (f s a))

theorem setQueue (s : State) (d : Domain) (q : DeliveryQueue) : QueuesOnly s (s.setQueue d q) := ⟨_, _, rfl⟩

theorem setBox (s : State) (d : Domain) (b : NoticeBox) : QueuesOnly s (s.setBox d b) := ⟨_, _, rfl⟩

theorem active {s t : State} (h : QueuesOnly s t) : t.active = s.active := by
  obtain ⟨_, _, rfl⟩ := h; rfl

end QueuesOnly

theorem judgeMark_queuesOnly (d : Domain) (s : State) (m : Domain × Class) : QueuesOnly s (judgeMark d s m) :=
  .ite ((QueuesOnly.setQueue s d _).trans (QueuesOnly.setBox _ _ _)) (.refl s)

/-- The marks of the list `l` on link `d`'s queue have been judged. -/
structure MarksJudged (d : Domain) (l : List (Domain × Class)) (s t : State) : Prop where
  entries : (t.queue d).entries = (s.queue d).entries
  run : (t.queue d).run = (s.queue d).run
  wanted : ∀ x k, ((t.queue d).wanted.get x).get k =
    (((s.queue d).wanted.get x).get k && !(decide ((x, k) ∈ l) && (s.queue d).roomAgain k))
  other : ∀ e, e ≠ d → t.queue e = s.queue e
  met : ∀ e k, (e, k) ∈ l → (s.queue d).meets e k = true →
    t.box e = (s.box e).setFlag (s.noticeMode e) .queueSpace
  unmet : ∀ e, (∀ k, (e, k) ∈ l → (s.queue d).meets e k = false) → t.box e = s.box e
  rest : QueuesOnly s t

theorem marksJudged (d : Domain) (l : List (Domain × Class)) (s : State) :
    MarksJudged d l s (l.foldl (judgeMark d) s) := by
  induction l generalizing s with
  | nil => exact ⟨rfl, rfl, by simp, fun _ _ => rfl, by simp, fun _ _ => rfl, .refl s⟩
  | cons m l ih =>
    have first := judgeMark_queuesOnly d s m
    have mode : ∀ e, (judgeMark d s m).noticeMode e = s.noticeMode e := fun e => by
      rw [State.noticeMode, first.active]; rfl
    obtain ⟨hentries, hrun, hwanted, hother, hmet, hunmet, hrest⟩ := ih (judgeMark d s m)
    rw [List.foldl_cons]
    refine ⟨hentries.trans (judgeMark_entries d s m), hrun.trans (judgeMark_run d s m), fun x k => ?_,
      fun e he => (hother e he).trans (judgeMark_queue_other he s m), fun e k hk hmeets => ?_,
      fun e hnone => ?_, first.trans hrest⟩
    · refine (hwanted x k).trans ?_
      rw [judgeMark_wanted, judgeMark_roomAgain]
      cases (s.queue d).roomAgain k <;> simp [Bool.and_assoc]
    · by_cases again : ∃ k', (e, k') ∈ l ∧ ((judgeMark d s m).queue d).meets e k' = true
      · obtain ⟨k', hk', hmeets'⟩ := again
        rw [hmet e k' hk' hmeets', mode, judgeMark_box]
        split
        · rw [NoticeBox.setFlag_setFlag]
        · rfl
      · simp only [not_exists, not_and, Bool.not_eq_true] at again
        have here : (e, k) = m := by
          rcases List.mem_cons.1 hk with h | h
          · exact h
          · have later := again k h
            rw [judgeMark_meets, hmeets] at later
            simpa using later
        rw [hunmet e again, judgeMark_box, ← here, if_pos ⟨rfl, hmeets⟩]
    · have notHere : ¬(e = m.1 ∧ (s.queue d).meets m.1 m.2 = true) := by
        rintro ⟨rfl, hm⟩
        rw [hnone m.2 List.mem_cons_self] at hm
        cases hm
      rw [hunmet e fun k hk => ?_, judgeMark_box, if_neg notHere]
      rw [judgeMark_meets, hnone k (List.mem_cons_of_mem m hk), Bool.false_and]

theorem judgeSpace_marksJudged (d : Domain) (s : State) : MarksJudged d allMarks s (judgeSpace d s) :=
  marksJudged d allMarks s

/-! ### The switch's part of a link reset (R60) -/

theorem clearMarksOf_queue (d e : Domain) (s : State) :
    (clearMarksOf d s).queue e =
      { s.queue e with wanted := (s.queue e).wanted.set d ⟨false, false⟩ } := by
  cases e <;> rfl

theorem clearMarksOf_queuesOnly (d : Domain) (s : State) : QueuesOnly s (clearMarksOf d s) :=
  QueuesOnly.foldl (fun s e => QueuesOnly.setQueue s e _) _ _

theorem clearMarksOf_box (d e : Domain) (s : State) : (clearMarksOf d s).box e = s.box e := rfl

theorem clearMarksOf_wanted (d e x : Domain) (c : Class) (s : State) :
    (((clearMarksOf d s).queue e).wanted.get x).get c =
      (((s.queue e).wanted.get x).get c && !decide (x = d)) := by
  rw [clearMarksOf_queue]
  by_cases h : x = d
  · subst h; cases c <;> simp [PerClass.get]
  · simp [h]

/-- Link `d`'s queue once every entry has been removed. -/
theorem removeAll_queue (d : Domain) (s : State) :
    (removeFrom d (fun _ => true) s).queue d = { s.queue d with entries := ⟨[], []⟩ } := by
  simp [removeFrom, DeliveryQueue.mapLists]

theorem removeFrom_queue_other {d e : Domain} (h : e ≠ d) (gone : Entry → Bool) (s : State) :
    (removeFrom d gone s).queue e = s.queue e := by
  rw [removeFrom, State.queue_setQueue, if_neg h]

theorem roomAgain_of_empty {q : DeliveryQueue} (h : q.entries = ⟨[], []⟩) (c : Class) : q.roomAgain c = true := by
  cases c <;> simp [DeliveryQueue.roomAgain, h, PerClass.get, payloadBytes]

/-- What the switch's part of a link reset of `d` leaves (R60): the purge takes the whole queue, and where it took an
entry every mark on that queue is met. -/
structure SwitchReset (d : Domain) (s t : State) : Prop where
  entries : (t.queue d).entries = ⟨[], []⟩
  run : (t.queue d).run = 0
  wanted : ∀ e x c, ((t.queue e).wanted.get x).get c =
    (((s.queue e).wanted.get x).get c && !decide (x = d) &&
      !(decide (e = d) && decide ((s.queue d).all ≠ [])))
  other : ∀ e, e ≠ d → (t.queue e).entries = (s.queue e).entries ∧ (t.queue e).run = (s.queue e).run
  box : ∀ e, e ≠ d → t.box e =
    if (s.queue d).all ≠ [] ∧
        (((s.queue d).wanted.get e).priority = true ∨ ((s.queue d).wanted.get e).bulk = true) then
      (s.box e).setFlag (s.noticeMode e) .queueSpace
    else s.box e
  rest : QueuesOnly s t

/-- Setting the run count of link `d`'s queue. -/
theorem SwitchReset.ofRun {d : Domain} {s t : State} (hentries : (t.queue d).entries = ⟨[], []⟩)
    (hwanted : ∀ e x c, ((t.queue e).wanted.get x).get c =
      (((s.queue e).wanted.get x).get c && !decide (x = d) &&
        !(decide (e = d) && decide ((s.queue d).all ≠ []))))
    (hother : ∀ e, e ≠ d → (t.queue e).entries = (s.queue e).entries ∧ (t.queue e).run = (s.queue e).run)
    (hbox : ∀ e, e ≠ d → t.box e =
      if (s.queue d).all ≠ [] ∧
          (((s.queue d).wanted.get e).priority = true ∨ ((s.queue d).wanted.get e).bulk = true) then
        (s.box e).setFlag (s.noticeMode e) .queueSpace
      else s.box e)
    (hrest : QueuesOnly s t) : SwitchReset d s (t.setQueue d { t.queue d with run := 0 }) := by
  refine ⟨by rw [State.queue_setQueue_same]; exact hentries, by rw [State.queue_setQueue_same], fun e x c => ?_,
    fun e he => ?_, hbox, hrest.trans (.setQueue t d _)⟩
  · rw [← hwanted, State.queue_setQueue]
    split
    · subst_vars; rfl
    · rfl
  · rw [State.queue_setQueue, if_neg he]
    exact hother e he

theorem switchLinkReset_reset (d : Domain) (s : State) : SwitchReset d s (switchLinkReset d s) := by
  have cleared := clearMarksOf_queue d
  have count : countIn d (fun _ => true) (clearMarksOf d s) = (s.queue d).all.length := by
    simp [countIn, cleared, DeliveryQueue.all]
  unfold switchLinkReset purgeQueue
  rw [count]
  by_cases purged : (s.queue d).all = []
  · rw [if_pos (by simp [purged])]
    refine .ofRun ?_ (fun e x c => ?_) (fun e _ => ?_) (fun e _ => ?_) (clearMarksOf_queuesOnly d s)
    · rw [cleared]
      simp only [DeliveryQueue.all, List.append_eq_nil_iff] at purged
      exact PerClass.mk.injEq .. ▸ purged
    · rw [clearMarksOf_wanted]; simp [purged]
    · rw [cleared]; exact ⟨rfl, rfl⟩
    · rw [clearMarksOf_box]; simp [purged]
  · rw [if_neg (by simp [purged])]
    obtain ⟨hentries, hrun, hwanted, hother, hmet, hunmet, hrest⟩ :=
      judgeSpace_marksJudged d (removeFrom d (fun _ => true) (clearMarksOf d s))
    rw [removeAll_queue] at hentries hwanted hmet hunmet
    have room : ∀ c, ({ (clearMarksOf d s).queue d with entries := ⟨[], []⟩ } : DeliveryQueue).roomAgain c = true :=
      roomAgain_of_empty rfl
    have meets : ∀ x c, x ≠ d → ({ (clearMarksOf d s).queue d with entries := ⟨[], []⟩ } : DeliveryQueue).meets x c =
        ((s.queue d).wanted.get x).get c := fun x c hx => by
      rw [DeliveryQueue.meets, room, Bool.true_and, clearMarksOf_wanted]; simp [hx]
    refine .ofRun hentries (fun e x c => ?_) (fun e he => ?_) (fun e he => ?_)
      (((clearMarksOf_queuesOnly d s).trans (.setQueue _ d _)).trans hrest)
    · by_cases he : e = d
      · subst he
        rw [hwanted, room]
        simp [mem_allMarks, purged]
      · rw [hother e he, removeFrom_queue_other he, clearMarksOf_wanted]
        simp [he]
    · rw [hother e he, removeFrom_queue_other he, cleared]
      exact ⟨rfl, rfl⟩
    · have boxes : (removeFrom d (fun _ => true) (clearMarksOf d s)).box e = s.box e := by
        rw [removeFrom, State.box_setQueue, clearMarksOf_box]
      have mode : (removeFrom d (fun _ => true) (clearMarksOf d s)).noticeMode e = s.noticeMode e := by
        rw [State.noticeMode, removeFrom, State.active_setQueue, (clearMarksOf_queuesOnly d s).active]; rfl
      split
      · rename_i wanted
        have hmet := hmet e
        rw [boxes, mode] at hmet
        rcases wanted.2 with h | h
        · exact hmet .priority (mem_allMarks _ _) ((meets e _ he).trans h)
        · exact hmet .bulk (mem_allMarks _ _) ((meets e _ he).trans h)
      · rename_i unwanted
        refine (hunmet e fun k _ => ?_).trans boxes
        rw [meets e k he, Bool.eq_false_iff]
        intro h
        refine unwanted ⟨purged, ?_⟩
        cases k
        · exact .inl h
        · exact .inr h

end Sys2Proof.Machine
end

section
/-! PROOF. The link reset of one link (R6, R7, R60, R168), and what the end of a session leaves alone (R115, R119). -/

namespace Sys2Proof.Machine

open Sys2Proof

/-! ### A link reset before the end of a session -/

/-- The notice box of a link that has been reset (R168, R165). -/
theorem blank_setFlag_restarted (m : NoticeMode) :
    NoticeBox.blank.setFlag m .restarted =
      ⟨0x0001, .waiting, false,
        if m.report = .repeated ∧ m.clear = .onClear then .running 500 else .stopped⟩ := by
  obtain ⟨report, clear⟩ := m
  cases report <;> cases clear <;> decide

theorem noticeLinkReset_box (d e : Domain) (s : State) :
    (noticeLinkReset d s).box e =
      if e = d then NoticeBox.blank.setFlag (s.noticeMode d) .restarted else s.box e := by
  unfold noticeLinkReset
  rw [setFlag_box, State.box_setBox_same, State.box_setBox]
  split <;> rfl

theorem noticeLinkReset_queue (d e : Domain) (s : State) : (noticeLinkReset d s).queue e = s.queue e := rfl

theorem noticeLinkReset_queuesOnly (d : Domain) (s : State) : QueuesOnly s (noticeLinkReset d s) :=
  (QueuesOnly.setBox s d _).trans (QueuesOnly.setBox _ d _)

theorem portLinkReset_eq (d : Domain) (s : State) :
    portLinkReset d s =
      { s with
        ports := s.ports.set d { Port.reset (s.port d).ready with inBreak := true }
        progress := if d = .pay then [] else s.progress
        inputs := if d = .app then [] else s.inputs
        lost := if d = .app then false else s.lost } := by
  cases d <;> rfl

theorem portLinkReset_queue (d e : Domain) (s : State) : (portLinkReset d s).queue e = s.queue e := by
  cases d <;> rfl

theorem portLinkReset_box (d e : Domain) (s : State) : (portLinkReset d s).box e = s.box e := by
  cases d <;> rfl

theorem portLinkReset_noticeMode (d e : Domain) (s : State) : (portLinkReset d s).noticeMode e = s.noticeMode e := by
  cases d <;> rfl

/-- The switch after `linkCleared` (R60). -/
theorem linkCleared_reset (d : Domain) (s : State) :
    SwitchReset d (portLinkReset d s) (switchLinkReset d (portLinkReset d s)) :=
  switchLinkReset_reset d (portLinkReset d s)

theorem linkCleared_queuesOnly (d : Domain) (s : State) : QueuesOnly (portLinkReset d s) (linkCleared d s) :=
  (linkCleared_reset d s).rest.trans (noticeLinkReset_queuesOnly d _)

theorem linkCleared_box_same (d : Domain) (s : State) :
    (linkCleared d s).box d = NoticeBox.blank.setFlag (s.noticeMode d) .restarted := by
  have mode : (switchLinkReset d (portLinkReset d s)).noticeMode d = s.noticeMode d := by
    rw [State.noticeMode, (linkCleared_reset d s).rest.active]
    exact portLinkReset_noticeMode d d s
  rw [linkCleared, noticeLinkReset_box, if_pos rfl, mode]

theorem linkCleared_box_other {d e : Domain} (h : e ≠ d) (s : State) :
    (linkCleared d s).box e =
      if (s.queue d).all ≠ [] ∧
          (((s.queue d).wanted.get e).priority = true ∨ ((s.queue d).wanted.get e).bulk = true) then
        (s.box e).setFlag (s.noticeMode e) .queueSpace
      else s.box e := by
  rw [linkCleared, noticeLinkReset_box, if_neg h, (linkCleared_reset d s).box e h, portLinkReset_queue,
    portLinkReset_box, portLinkReset_noticeMode]

theorem linkCleared_queue (d e : Domain) (s : State) :
    (linkCleared d s).queue e = (switchLinkReset d (portLinkReset d s)).queue e := noticeLinkReset_queue _ _ _

/-- The delivery queues after a link reset of `d` (R60). -/
theorem linkCleared_entries (d : Domain) (s : State) : ((linkCleared d s).queue d).entries = ⟨[], []⟩ := by
  rw [linkCleared_queue]; exact (linkCleared_reset d s).entries

theorem linkCleared_run (d : Domain) (s : State) : ((linkCleared d s).queue d).run = 0 := by
  rw [linkCleared_queue]; exact (linkCleared_reset d s).run

theorem linkCleared_wanted (d e x : Domain) (c : Class) (s : State) :
    (((linkCleared d s).queue e).wanted.get x).get c =
      (((s.queue e).wanted.get x).get c && !decide (x = d) &&
        !(decide (e = d) && decide ((s.queue d).all ≠ []))) := by
  rw [linkCleared_queue, (linkCleared_reset d s).wanted, portLinkReset_queue, portLinkReset_queue]

theorem linkCleared_other {d e : Domain} (h : e ≠ d) (s : State) :
    ((linkCleared d s).queue e).entries = (s.queue e).entries ∧ ((linkCleared d s).queue e).run = (s.queue e).run := by
  rw [linkCleared_queue, ← portLinkReset_queue d e s]
  exact (linkCleared_reset d s).other e h

theorem linkCleared_ports (d : Domain) (s : State) :
    (linkCleared d s).ports = s.ports.set d ⟨.hunt, true, .stopped, (s.port d).ready, [], none, .stopped, false⟩ := by
  obtain ⟨q, n, h⟩ := linkCleared_queuesOnly d s
  rw [h, portLinkReset_eq]
  rfl

theorem linkCleared_port (d e : Domain) (s : State) :
    (linkCleared d s).port e =
      if e = d then ⟨.hunt, true, .stopped, (s.port d).ready, [], none, .stopped, false⟩ else s.port e := by
  rw [State.port, linkCleared_ports, PerDomain.get_set]; rfl

/-- What a link reset changes, the end of the session apart: the port and the frames of its link, the delivery queues
and the notice boxes. -/
theorem linkCleared_eq (d : Domain) (s : State) :
    linkCleared d s =
      { s with
        ports := (linkCleared d s).ports
        progress := if d = .pay then [] else s.progress
        inputs := if d = .app then [] else s.inputs
        lost := if d = .app then false else s.lost
        switch := { s.switch with queues := (linkCleared d s).switch.queues }
        notices := (linkCleared d s).notices } := by
  obtain ⟨q, n, h⟩ := linkCleared_queuesOnly d s
  rw [h, portLinkReset_eq]

/-! ### What the end of a session leaves alone -/

/-- From `s` to `t` a session may have ended: the controller, the gate, the ENTRY-END, the input queue and the silence
timer may have changed, and where the controller has entered OPEN no entry is held (R52). -/
structure EndOnly (s t : State) : Prop where
  only : SessionOnly s t
  progress : t.progress = s.progress
  notices : t.notices = s.notices
  queue : ∀ e, t.queue e = if t.ctl.state = .opened then (s.queue e).unheld else s.queue e

/-- From `s` to `t` only the controller, the gate, the ENTRY-END and the silence timer may have changed. -/
structure Undisturbed (s t : State) : Prop where
  only : SessionOnly s t
  progress : t.progress = s.progress
  notices : t.notices = s.notices
  queues : t.switch.queues = s.switch.queues

namespace Undisturbed

theorem refl (s : State) : Undisturbed s s := ⟨.refl s, rfl, rfl, rfl⟩

theorem trans {s t u : State} (h : Undisturbed s t) (k : Undisturbed t u) : Undisturbed s u :=
  ⟨h.only.trans k.only, k.progress.trans h.progress, k.notices.trans h.notices, k.queues.trans h.queues⟩

theorem endOnly {s t u : State} (h : Undisturbed s t) (k : EndOnly t u) : EndOnly s u := by
  refine ⟨h.only.trans k.only, k.progress.trans h.progress, k.notices.trans h.notices, fun e => ?_⟩
  have same : t.queue e = s.queue e := by rw [State.queue, h.queues]; rfl
  rw [k.queue e, same]

theorem endOnly_of_not_opened {s t : State} (h : Undisturbed s t) (k : t.ctl.state ≠ .opened) : EndOnly s t :=
  h.endOnly ⟨.refl t, rfl, rfl, fun _ => (if_neg k).symm⟩

theorem setCtl (s : State) (c : Controller) : Undisturbed s (s.setCtl c) := ⟨setCtl_only s c, rfl, rfl, rfl⟩

theorem gateDo (s : State) (f : Gate → Gate × List GateReport) : Undisturbed s (gateDo f s) :=
  ⟨gateDo_only f s, rfl, rfl, rfl⟩

theorem entryEnd (s : State) (e : Option EntryEnd) : Undisturbed s { s with entryEnd := e } :=
  ⟨entryEnd_only s e, rfl, rfl, rfl⟩

theorem disarm (s : State) : Undisturbed s (disarmSilence s) := ⟨disarmSilence_only s, rfl, rfl, rfl⟩

theorem reports (s : State) (l : List GateReport) : Undisturbed s { s with reports := l } :=
  ⟨reports_only s l, rfl, rfl, rfl⟩

theorem removeOverlay (s : State) (p : SessionPresentation) : Undisturbed s (removeOverlay p s) := by
  unfold Machine.removeOverlay
  dsimp only
  split
  · exact (gateDo s _).trans (gateDo _ _)
  · exact gateDo s _

end Undisturbed

theorem releaseHeld_eq (s : State) :
    releaseHeld s = { s with switch := { s.switch with
      queues := ⟨(s.queue .pay).unheld, (s.queue .app).unheld, (s.queue .rad).unheld⟩ } } := by
  simp only [releaseHeld, mapEntries, allDomains, List.foldl_cons, List.foldl_nil, State.setQueue, State.queue,
    PerDomain.set, PerDomain.get, DeliveryQueue.unheld]

theorem queueInput_eq_told (e : InputEvent) (s : State) : queueInput e s = s.told e := by
  have full : (!decide (s.inputs.length < maxInputs)) = decide (32 ≤ s.inputs.length) := by
    rw [Bool.eq_iff_iff, Bool.not_eq_true', decide_eq_false_iff_not, decide_eq_true_eq]
    exact Nat.not_lt
  rw [queueInput, full]; rfl

/-- Entering OPEN (R118, R52, R95). -/
theorem enterOpen_eq_openedAgain (s : State) : enterOpen s = s.openedAgain := by
  rw [enterOpen, releaseHeld_eq, queueInput_eq_told]
  rfl

/-- Entering RELEASING (R118). -/
theorem enterReleasing_eq_released (s : State) : enterReleasing s = s.released := by
  have free : (s.setCtl { s.ctl with state := .releasing }).glassFree =
      decide (s.frontEnd.scan = .noContact ∨ s.frontEnd.scan = .idle) := rfl
  simp only [enterReleasing, enterOpen_eq_openedAgain, State.released, free, decide_eq_true_eq]
  rfl

/-- Entering OPEN lifts every held mark (R52). -/
theorem openedAgain_endOnly (s : State) : EndOnly s s.openedAgain := by
  refine ⟨?_, rfl, rfl, fun e => ?_⟩
  · rw [← enterOpen_eq_openedAgain]; exact enterOpen_only s
  · rw [if_pos (State.openedAgain_state s)]
    cases e <;> rfl

theorem enterReleasing_endOnly (s : State) : EndOnly s (enterReleasing s) := by
  rw [enterReleasing_eq_released]
  unfold State.released
  split
  · exact openedAgain_endOnly s
  · exact (Undisturbed.setCtl s { s.ctl with state := .releasing }).endOnly_of_not_opened fun h => by cases h

theorem enterReleasing_reports (s : State) : (enterReleasing s).reports = s.reports := by
  rw [enterReleasing_eq_released]
  unfold State.released
  split <;> rfl

theorem enterReleasing_state_ne (s : State) : (enterReleasing s).ctl.state ≠ .closing := by
  rw [enterReleasing_eq_released]
  unfold State.released
  split
  · rw [State.openedAgain_state]; decide
  · exact fun h => by cases h

/-! ### The reports that the end of a session brings -/

/-- No report, or the report that the clear set is active. -/
def AtMostClear (l : List GateReport) : Prop := l = [] ∨ l = [.setActive .clear]

theorem write_clear_reports (g : Gate) : AtMostClear (g.write OverlaySet.clear).2 := by
  unfold Gate.write
  dsimp only
  split
  · exact .inr rfl
  · split
    · rename_i h; exact absurd h.2 (by decide)
    · exact .inl rfl

theorem askFollow_noReports (g : Gate) : g.askFollow.2 = [] := by
  unfold Gate.askFollow
  split <;> rfl

theorem removeOverlay_reports {s : State} (h : s.reports = []) (p : SessionPresentation) :
    AtMostClear (removeOverlay p s).reports := by
  have written : AtMostClear (writeSet OverlaySet.clear s).reports := by
    simpa [writeSet, gateDo, h] using write_clear_reports s.gate
  unfold removeOverlay
  dsimp only
  split
  · simpa [askFollow, gateDo, askFollow_noReports] using written
  · exact written

theorem takeReports_of_clear {s : State} (h : s.reports = [.setActive .clear]) :
    takeReports s =
      if s.ctl.state = .closing then enterReleasing { s with reports := [] } else { s with reports := [] } := by
  have wave : takeWave s =
      if s.ctl.state = .closing then enterReleasing { s with reports := [] } else { s with reports := [] } := by
    rw [takeWave, h]; rfl
  have done : (takeWave s).reports = [] := by
    rw [wave]; split
    · exact enterReleasing_reports _
    · rfl
  have second : takeWave (takeWave s) = takeWave s := by
    generalize takeWave s = u at done
    obtain ⟨⟩ := u
    subst done
    rfl
  rw [takeReports, second, wave]

theorem takeReports_endOnly {s u : State} (h : EndOnly s u) (hr : AtMostClear u.reports)
    (closing : u.ctl.state = .closing → Undisturbed s u) :
    EndOnly s (takeReports u) ∧ (takeReports u).reports = [] := by
  rcases hr with hr | hr
  · rw [takeReports_of_none hr]; exact ⟨h, hr⟩
  · rw [takeReports_of_clear hr]
    split
    · rename_i hc
      exact ⟨((closing hc).trans (.reports u [])).endOnly (enterReleasing_endOnly _), enterReleasing_reports _⟩
    · exact ⟨⟨h.only.trans (reports_only u []), h.progress, h.notices, h.queue⟩, rfl⟩

theorem endSecure_endOnly {s : State} (h : s.reports = []) (o : SessionOutcome) (r : Session) :
    EndOnly s (takeReports (endSecure o r s)) ∧ (takeReports (endSecure o r s)).reports = [] := by
  have undisturbed : Undisturbed s (endSecure o r s) :=
    ((((Undisturbed.setCtl s _).trans (.removeOverlay _ _)).trans (.entryEnd _ _)).trans (.setCtl _ _)).trans
      (.disarm _)
  exact takeReports_endOnly (undisturbed.endOnly_of_not_opened fun k => by cases k)
    (removeOverlay_reports (s := s.setCtl s.ctl.erased) h r.presentation) fun _ => undisturbed

theorem endEarly_endOnly {s : State} (h : s.reports = []) (o : SessionOutcome) (r : Session) :
    EndOnly s (takeReports (endEarly o r s)) ∧ (takeReports (endEarly o r s)).reports = [] := by
  have cleared : Undisturbed s (if s.ctl.state = .presenting then
        removeOverlay r.presentation (s.setCtl s.ctl.erased) else s.setCtl s.ctl.erased) ∧
      AtMostClear (if s.ctl.state = .presenting then
        removeOverlay r.presentation (s.setCtl s.ctl.erased) else s.setCtl s.ctl.erased).reports := by
    split
    · exact ⟨(Undisturbed.setCtl s _).trans (.removeOverlay _ _), removeOverlay_reports (s := s.setCtl s.ctl.erased) h _⟩
    · exact ⟨.setCtl s _, .inl h⟩
  obtain ⟨undisturbed, reports⟩ := cleared
  refine takeReports_endOnly
    (((undisturbed.trans (.entryEnd _ _)).trans (.disarm _)).endOnly (enterReleasing_endOnly _)) ?_
    fun k => absurd k (enterReleasing_state_ne _)
  rw [endEarly, enterReleasing_reports]
  exact reports

/-- A session that ends, whatever its outcome, leaves the rest of the part alone, and no report waits. -/
theorem endSession_endOnly {s : State} (h : s.reports = []) (hs : s.inSession) (o : SessionOutcome) :
    EndOnly s (takeReports (endSession o s)) ∧ (takeReports (endSession o s)).reports = [] := by
  have live : s.ctl.state ≠ .opened := by
    rcases hs with k | k | k <;> rw [k] <;> decide
  have none : EndOnly s (takeReports s) ∧ (takeReports s).reports = [] := by
    rw [takeReports_of_none h]
    exact ⟨(Undisturbed.refl s).endOnly_of_not_opened live, h⟩
  unfold endSession
  split
  · exact none
  · split
    · exact endEarly_endOnly h _ _
    · exact endEarly_endOnly h _ _
    · exact endSecure_endOnly h _ _
    all_goals exact none

theorem endSession_of_noSession {s : State} (hs : ¬s.inSession) (o : SessionOutcome) : endSession o s = s := by
  unfold endSession
  split
  · rfl
  · split <;> first | rfl | (rename_i h; exact absurd h (by simp_all [State.inSession]))

/-! ### The frame of a session's commands -/

theorem besideSession_of_only {s t : State} (h : SessionOnly s t) (hr : t.reports = s.reports) :
    t.besideSession = s.besideSession := by
  obtain ⟨hpending, hreset, hports, hstaging, hactive, hgeneration, hfront, hadc, hmapper, hkeys, harbiter, hbars,
    hlevels, hrefill, hrequest, hmeasurement, hlevel, htamper⟩ := h
  simp only [State.besideSession, hpending, hreset, hports, hstaging, hactive, hgeneration, hfront, hadc, hmapper,
    hkeys, harbiter, hbars, hlevels, hrefill, hrequest, hmeasurement, hlevel, htamper, hr]

end Sys2Proof.Machine
end

section
/-! PROOF. O10: a serial break resets its link (R1, R6, R7, R60–R62, R101, R123, R165, R168). -/

namespace Sys2Proof.Machine

open Sys2Proof

theorem linkCleared_ctl (d : Domain) (s : State) : (linkCleared d s).ctl = s.ctl := by rw [linkCleared_eq]

theorem linkCleared_reports (d : Domain) (s : State) : (linkCleared d s).reports = s.reports := by
  rw [linkCleared_eq]

theorem linkCleared_only (d : Domain) (s : State) (p : PerDomain Port) (hp : p = s.ports) :
    SessionOnly s { linkCleared d s with ports := p } := by
  subst hp
  rw [linkCleared_eq]
  constructor <;> rfl

theorem restartSilence_undisturbed (s : State) : Undisturbed s (restartSilence s) := by
  unfold restartSilence
  split
  · exact ⟨startSilence_only s, rfl, rfl, rfl⟩
  · exact .refl s

theorem restartSilence_ctl (s : State) : (restartSilence s).ctl = s.ctl := by
  unfold restartSilence; split <;> rfl

theorem restartSilence_reports (s : State) : (restartSilence s).reports = s.reports := by
  unfold restartSilence; split <;> rfl

theorem restartSilence_eq_setSup (s : State) : restartSilence s = s.setSup (restartSilence s).sup := by
  unfold restartSilence; split <;> rfl

theorem restartSilence_of_stopped {s : State} (h : s.sup.silence = .stopped) : restartSilence s = s := by
  rw [restartSilence, h]; rfl

/-- How a link reset of `d` is left at the end of the command, `v` being the link reset before the session's end. -/
structure LinkSettled (d : Domain) (s v u : State) : Prop where
  only : SessionOnly v u
  progress : u.progress = v.progress
  notices : u.notices = v.notices
  queue : ∀ e, u.queue e =
    if d = .pay ∧ s.inSession ∧ u.ctl.state = .opened then (v.queue e).unheld else v.queue e

/-- Off PAY no session ends. -/
theorem takeReports_linkReset_of_ne_pay {d : Domain} (h : d ≠ .pay) {s : State} (hr : s.reports = []) :
    takeReports (linkReset d s) = linkCleared d s := by
  have reset : linkReset d s = linkCleared d s := if_neg h
  rw [reset, takeReports_of_none ((linkCleared_reports d s).trans hr)]

theorem linkReset_pay (s : State) :
    linkReset .pay s = endSession .linkReset (restartSilence (linkCleared .pay s)) := by
  rw [linkReset, if_pos rfl]; rfl

/-- On PAY, outside a session, the silence timer is told and nothing more (R123, R157). -/
theorem takeReports_linkReset_of_noSession {s : State} (hr : s.reports = []) (hs : ¬s.inSession) :
    takeReports (linkReset .pay s) = restartSilence (linkCleared .pay s) := by
  have noSession : ¬(restartSilence (linkCleared .pay s)).inSession := by
    rw [State.inSession, restartSilence_ctl, linkCleared_ctl]; exact hs
  rw [linkReset_pay, endSession_of_noSession noSession,
    takeReports_of_none ((restartSilence_reports _).trans ((linkCleared_reports _ s).trans hr))]

theorem linkReset_settled (d : Domain) {s : State} (hr : s.reports = []) :
    LinkSettled d s (linkCleared d s) (takeReports (linkReset d s)) ∧ (takeReports (linkReset d s)).reports = [] := by
  have reports := (linkCleared_reports d s).trans hr
  by_cases hd : d = .pay
  · subst hd
    by_cases hs : s.inSession
    · have told := restartSilence_undisturbed (linkCleared .pay s)
      have session : (restartSilence (linkCleared .pay s)).inSession := by
        rw [State.inSession, restartSilence_ctl, linkCleared_ctl]; exact hs
      obtain ⟨ends, none⟩ := endSession_endOnly ((restartSilence_reports _).trans reports) session .linkReset
      obtain ⟨honly, hprogress, hnotices, hqueue⟩ := told.endOnly ends
      rw [linkReset_pay]
      exact ⟨⟨honly, hprogress, hnotices, fun e => by simpa [hs] using hqueue e⟩, none⟩
    · rw [takeReports_linkReset_of_noSession hr hs]
      obtain ⟨honly, hprogress, hnotices, hqueues⟩ := restartSilence_undisturbed (linkCleared .pay s)
      refine ⟨⟨honly, hprogress, hnotices, fun e => ?_⟩, (restartSilence_reports _).trans reports⟩
      rw [if_neg (fun h => hs h.2.1), State.queue, hqueues]; rfl
  · rw [takeReports_linkReset_of_ne_pay hd hr]
    exact ⟨⟨.refl _, rfl, rfl, fun e => by rw [if_neg (fun h => hd h.1)]⟩, reports⟩

theorem DeliveryQueue.unheld_of_empty {q : DeliveryQueue} (h : q.entries = ⟨[], []⟩) :
    q.unheld.entries = ⟨[], []⟩ := by
  simp [DeliveryQueue.unheld, DeliveryQueue.mapLists, h]

theorem DeliveryQueue.unheld_entries_congr {q r : DeliveryQueue} (h : q.entries = r.entries) :
    q.unheld.entries = r.unheld.entries := by
  simp [DeliveryQueue.unheld, DeliveryQueue.mapLists, h]

namespace LinkSettled

variable {d : Domain} {s u : State} (h : LinkSettled d s (linkCleared d s) u)

include h

theorem port_ports : u.ports = s.ports.set d ⟨.hunt, true, .stopped, (s.port d).ready, [], none, .stopped, false⟩ := by
  rw [h.only.ports, linkCleared_ports]

theorem progress_eq : u.progress = if d = .pay then [] else s.progress := by
  rw [h.progress, linkCleared_eq]

theorem run (e : Domain) : (u.queue e).run = ((linkCleared d s).queue e).run := by
  rw [h.queue e]; split <;> rfl

theorem wanted (e : Domain) : (u.queue e).wanted = ((linkCleared d s).queue e).wanted := by
  rw [h.queue e]; split <;> rfl

theorem entries_same : (u.queue d).entries = ⟨[], []⟩ := by
  rw [h.queue d]
  split
  · exact DeliveryQueue.unheld_of_empty (linkCleared_entries d s)
  · exact linkCleared_entries d s

theorem entries_other {e : Domain} (he : e ≠ d) : (u.queue e).entries =
    (if d = .pay ∧ s.inSession ∧ u.ctl.state = .opened then (s.queue e).unheld else s.queue e).entries := by
  rw [h.queue e]
  split
  · exact DeliveryQueue.unheld_entries_congr (linkCleared_other he s).1
  · exact (linkCleared_other he s).1

theorem box (e : Domain) : u.box e = (linkCleared d s).box e := by
  rw [State.box, h.notices]; rfl

theorem besideSession (hr : u.reports = s.reports) :
    ({ u with ports := s.ports } : State).besideSession = s.besideSession := by
  have only : SessionOnly { linkCleared d s with ports := s.ports } { u with ports := s.ports } := by
    obtain ⟨⟩ := h.only
    constructor <;> first | assumption | rfl
  exact besideSession_of_only ((linkCleared_only d s s.ports rfl).trans only) hr

end LinkSettled

theorem execSerialBreak_eq {d : Domain} {s : State} (h : s.Receives d) :
    execSerialBreak d s = .next (finish (takeReports (linkReset d s))) := by
  obtain ⟨⟨hreset, -⟩, hbreak⟩ := h
  rw [execSerialBreak, act_of_running hreset, hbreak]
  rfl

end Sys2Proof.Machine

open Sys2Proof Sys2Proof.Machine

/-- Settles O10: the link reset field by field (`linkCleared`), and what the end of a PAY session leaves alone
(`endSession_endOnly`). -/
theorem serialBreakResetsItsLink : Obligations.SerialBreakResetsItsLink := by
  intro d s hs m purged
  have hr : s.reports = [] := hs.1.2
  obtain ⟨settled, none⟩ := linkReset_settled d hr
  refine ⟨takeReports (linkReset d s), execSerialBreak_eq hs, settled.port_ports, settled.progress_eq,
    fun hd => ?_, fun hd => ?_, settled.entries_same, by rw [settled.run, linkCleared_run], fun e src c => ?_,
    ?_, fun e he => ⟨?_, ?_, settled.entries_other he⟩, settled.besideSession (none.trans hr.symm), fun hd => ?_,
    fun hd hsession => ?_⟩
  · subst hd
    rw [takeReports_linkReset_of_ne_pay (by decide) hr, linkCleared_eq]
    exact ⟨rfl, rfl⟩
  · subst hd
    rw [takeReports_linkReset_of_ne_pay (by decide) hr, linkCleared_eq]
    exact ⟨rfl, rfl⟩
  · rw [settled.wanted, linkCleared_wanted]
  · rw [settled.box, linkCleared_box_same, blank_setFlag_restarted]
    rfl
  · rw [settled.box, linkCleared_box_other he]
    simp only [purged, decide_eq_true_eq]
    rfl
  · rw [settled.run, (linkCleared_other he s).2]
  · rw [takeReports_linkReset_of_ne_pay hd hr, linkCleared_eq]
    exact ⟨rfl, rfl, rfl, rfl⟩
  · subst hd
    rw [takeReports_linkReset_of_noSession hr hsession]
    refine ⟨(restartSilence_ctl _).trans (linkCleared_ctl _ s), ?_, ?_, ?_, ?_, ?sup⟩
    case sup =>
      intro silent
      have stopped : (linkCleared .pay s).sup.silence = .stopped := by rw [linkCleared_eq]; exact silent
      rw [restartSilence_of_stopped stopped, linkCleared_eq]
    all_goals rw [restartSilence_eq_setSup, linkCleared_eq]; rfl
end

section
/-! PROOF. O56: each frame in transmission stands at its place (R8, R14–R16, R97, R162). The invariant is one statement
for each link; `PlacesKept` says what keeps it. -/

namespace Sys2Proof.Machine

open Sys2Proof

/-- Whether a NOTICE place is SENDING (R161). -/
abbrev Place.Sends (p : Place) : Prop := p ≠ .empty ∧ p ≠ .waiting

/-- How many entries of a queue are marked as in transmission. -/
def DeliveryQueue.sendingCount (q : DeliveryQueue) : Nat := q.all.countP fun e => e.sending

/-- The frame in transmission on link `d` stands at its place (`State.TransmitInv`). -/
def State.TransmitAt (s : State) (d : Domain) : Prop :=
  (s.isSending d .reply = true → (s.port d).replies ≠ []) ∧
  (s.isSending d .entryEnd = true → d = .pay ∧ s.entryEnd ≠ none) ∧
  (s.isSending d .progress = true → d = .pay ∧ s.progress ≠ []) ∧
  (s.isSending d .input = true → d = .app ∧ s.inputs ≠ []) ∧
  (s.isSending d .notice = true ↔ (s.box d).place.Sends) ∧
  (s.queue d).sendingCount = if s.isSending d .delivery = true then 1 else 0

theorem transmitInv_iff (s : State) : s.TransmitInv ↔ ∀ d, s.TransmitAt d :=
  ⟨fun h d => h d (mem_allDomains d), fun h d _ => h d⟩

/-- From `s` to `t` link `d` goes on with its transmission, and no place that a frame in transmission can stand at is
lost. -/
structure PlacesKept (d : Domain) (s t : State) : Prop where
  tx : (t.port d).tx = (s.port d).tx
  replies : (s.port d).replies ≠ [] → (t.port d).replies ≠ []
  entryEnd : d = .pay → s.entryEnd ≠ none → t.entryEnd ≠ none
  progress : d = .pay → s.progress ≠ [] → t.progress ≠ []
  inputs : d = .app → s.inputs ≠ [] → t.inputs ≠ []
  place : (t.box d).place.Sends ↔ (s.box d).place.Sends
  sending : (t.queue d).sendingCount = (s.queue d).sendingCount

namespace PlacesKept

variable {d : Domain} {s t : State}

theorem transmitAt (h : PlacesKept d s t) (hs : s.TransmitAt d) : t.TransmitAt d := by
  have same : ∀ src, t.isSending d src = s.isSending d src := fun src => by
    rw [State.isSending, h.tx]; rfl
  obtain ⟨hreply, hend, hprogress, hinput, hnotice, hdelivery⟩ := hs
  unfold State.TransmitAt
  simp only [same, h.place, h.sending]
  refine ⟨fun k => h.replies (hreply k), fun k => ?_, fun k => ?_, fun k => ?_, hnotice, hdelivery⟩
  · obtain ⟨hd, hne⟩ := hend k
    exact ⟨hd, h.entryEnd hd hne⟩
  · obtain ⟨hd, hne⟩ := hprogress k
    exact ⟨hd, h.progress hd hne⟩
  · obtain ⟨hd, hne⟩ := hinput k
    exact ⟨hd, h.inputs hd hne⟩

/-- What changes none of the places. -/
theorem of_eq (hports : t.ports = s.ports) (hend : t.entryEnd = s.entryEnd) (hprogress : t.progress = s.progress)
    (hinputs : t.inputs = s.inputs) (hnotices : t.notices = s.notices)
    (hqueues : t.switch.queues = s.switch.queues) : PlacesKept d s t := by
  constructor <;> simp only [State.port, State.box, State.queue, hports, hend, hprogress, hinputs, hnotices, hqueues,
    imp_self, implies_true]

theorem of_sameLink (h : SameLink d s t) : PlacesKept d s t where
  tx := by rw [h.port]
  replies := by rw [h.port]; exact id
  entryEnd _ := by rw [h.entryEnd]; exact id
  progress _ := by rw [h.progress]; exact id
  inputs _ := by rw [h.inputs]; exact id
  place := by rw [h.box]
  sending := by rw [h.queue]

theorem setBox {e : Domain} {b : NoticeBox} (h : b.place.Sends ↔ (s.box e).place.Sends) :
    PlacesKept d s (s.setBox e b) where
  tx := rfl
  replies := id
  entryEnd _ := id
  progress _ := id
  inputs _ := id
  place := by
    rw [State.box_setBox]
    split
    · subst_vars; exact h
    · exact Iff.rfl
  sending := rfl

theorem setQueue {e : Domain} {q : DeliveryQueue} (h : q.sendingCount = (s.queue e).sendingCount) :
    PlacesKept d s (s.setQueue e q) where
  tx := rfl
  replies := id
  entryEnd _ := id
  progress _ := id
  inputs _ := id
  place := Iff.rfl
  sending := by
    rw [State.queue_setQueue]
    split
    · subst_vars; exact h
    · rfl

theorem setPort {e : Domain} {p : Port} (htx : p.tx = (s.port e).tx)
    (hreplies : (s.port e).replies ≠ [] → p.replies ≠ []) : PlacesKept d s (s.setPort e p) where
  tx := by
    rw [State.port_setPort]
    split
    · subst_vars; exact htx
    · rfl
  replies := by
    rw [State.port_setPort]
    split
    · subst_vars; exact hreplies
    · exact id
  entryEnd _ := id
  progress _ := id
  inputs _ := id
  place := Iff.rfl
  sending := rfl

end PlacesKept

/-! ### The notice boxes and the queues -/

theorem riseOnPlace_sends (b : NoticeBox) : (riseOnPlace b).place.Sends ↔ b.place.Sends := by
  unfold riseOnPlace
  split <;> simp_all [Place.Sends]

theorem setFlag_sends (b : NoticeBox) (m : NoticeMode) (f : Flag) :
    (b.setFlag m f).place.Sends ↔ b.place.Sends := by
  unfold NoticeBox.setFlag
  split
  · rfl
  · rw [judgeRepeat_place]; exact riseOnPlace_sends _

theorem clearFlags_sends (b : NoticeBox) (m : NoticeMode) (w : Word16) :
    (b.clearFlags m w).place.Sends ↔ b.place.Sends := by
  unfold NoticeBox.clearFlags
  dsimp only
  split
  · cases b.place <;> simp [Place.Sends]
  · rw [judgeRepeat_place]

theorem takeMode_sends (b : NoticeBox) (m : NoticeMode) : (b.takeMode m).place.Sends ↔ b.place.Sends := by
  unfold NoticeBox.takeMode
  rw [judgeRepeat_place]
  split
  · rename_i h; simp [Place.Sends, h.2.2]
  · rfl

theorem repeatExpire_sends (b : NoticeBox) : b.repeatExpire.place.Sends ↔ b.place.Sends := by
  unfold NoticeBox.repeatExpire
  split
  · cases b.place <;> simp [Place.Sends]
  · rfl

theorem DeliveryQueue.sendingCount_eq (q : DeliveryQueue) :
    q.sendingCount = q.entries.priority.countP (fun e => e.sending) + q.entries.bulk.countP fun e => e.sending := by
  rw [DeliveryQueue.sendingCount, DeliveryQueue.all, List.countP_append]

/-- A purge that spares the entry in transmission keeps its mark (R16). -/
theorem sendingCount_filter_spares (q : DeliveryQueue) (gone : Entry → Bool) :
    (q.mapLists fun es => es.filter fun e => !spares gone e).sendingCount = q.sendingCount := by
  have kept : ∀ es : List Entry,
      (es.filter fun e => !spares gone e).countP (fun e => e.sending) = es.countP fun e => e.sending := fun es => by
    rw [List.countP_filter]
    exact List.countP_congr fun e _ => by cases h : e.sending <;> simp [spares, h]
  simp only [DeliveryQueue.sendingCount_eq, DeliveryQueue.mapLists, kept]

theorem sendingCount_mapHeld (q : DeliveryQueue) {f : Entry → Entry} (h : ∀ e, { f e with held := e.held } = e) :
    (q.mapLists fun es => es.map f).sendingCount = q.sendingCount := by
  have sending : ∀ e, (f e).sending = e.sending := fun e => by
    have same := congrArg Entry.sending (h e)
    exact same
  simp only [DeliveryQueue.sendingCount_eq, DeliveryQueue.mapLists, List.countP_map, Function.comp_def, sending]

theorem sendingCount_append (q : DeliveryQueue) {e : Entry} (h : e.sending = false) :
    (q.append e).sendingCount = q.sendingCount := by
  simp only [DeliveryQueue.sendingCount_eq, DeliveryQueue.append]
  cases e.cls <;> simp [PerClass.set, PerClass.get, h]

theorem joinProgress_ne_nil (ps : List Progress) (p : Progress) : joinProgress ps p ≠ [] := by
  unfold joinProgress; split <;> simp

theorem joinInput_ne_nil {es : List InputEvent} (h : es ≠ []) (b : Bool) (e : InputEvent) : joinInput b es e ≠ [] := by
  unfold joinInput
  split
  · simp
  · split
    · exact h
    · split <;> simp

/-- Every small update keeps every place. -/
theorem Update.placesKept {s t : State} (h : Update s t) (d : Domain) : PlacesKept d s t := by
  cases h with
  | ended e => exact { PlacesKept.of_eq (s := s) (t := s) rfl rfl rfl rfl rfl rfl with
      entryEnd := fun _ _ => by simp }
  | progress p => exact { PlacesKept.of_eq (s := s) (t := s) rfl rfl rfl rfl rfl rfl with
      progress := fun _ _ => joinProgress_ne_nil _ _ }
  | input e => exact { PlacesKept.of_eq (s := s) (t := s) rfl rfl rfl rfl rfl rfl with
      inputs := fun _ h => joinInput_ne_nil h _ _ }
  | purged e gone => exact .setQueue (sendingCount_filter_spares _ gone)
  | held e f hf => exact .setQueue (sendingCount_mapHeld _ hf)
  | wanted e w => exact .setQueue rfl
  | posted e en room idle => exact .setQueue (sendingCount_append _ idle)
  | flag e m f => exact .setBox (setFlag_sends _ m f)
  | cleared e m w => exact .setBox (clearFlags_sends _ m w)
  | mode e m => exact .setBox (takeMode_sends _ m)
  | repeated e => exact .setBox (repeatExpire_sends _)
  | port e => exact .setPort rfl id
  | replied e r => exact .setPort rfl fun _ => by simp
  | _ => exact .of_eq rfl rfl rfl rfl rfl rfl

/-! ### A transmitter's choice -/

/-- A link without a transmission, where no place is marked for one. -/
theorem transmitAt_of_free {d : Domain} {s : State} (htx : (s.port d).tx = none) (hplace : ¬(s.box d).place.Sends)
    (hcount : (s.queue d).sendingCount = 0) : s.TransmitAt d := by
  have free : ∀ src, s.isSending d src = false := fun src => by rw [State.isSending, htx]; rfl
  simp only [State.TransmitAt, free, Bool.false_eq_true, false_imp_iff, hplace, hcount, if_false, and_true]

/-- Where nothing is in transmission no place is marked. -/
theorem State.TransmitAt.free {d : Domain} {s : State} (h : s.TransmitAt d) (htx : (s.port d).tx = none) :
    ¬(s.box d).place.Sends ∧ (s.queue d).sendingCount = 0 := by
  obtain ⟨-, -, -, -, hnotice, hdelivery⟩ := h
  have free : ∀ src, s.isSending d src = false := fun src => by rw [State.isSending, htx]; rfl
  simp only [free, Bool.false_eq_true, false_iff, if_false] at hnotice hdelivery
  exact ⟨hnotice, hdelivery⟩

theorem isSending_of_tx {d : Domain} {s : State} {x : Transmission} (h : (s.port d).tx = some x) (src : Source) :
    s.isSending d src = decide (x.source = src) := by
  rw [State.isSending, h]; rfl

/-- A frame whose transmission has just begun stands at its place when the places of link `d` are those of its
source. -/
theorem beginTx_transmitAt {d : Domain} {u : State} {src : Source} (f : Frame)
    (hreply : src = .reply → (u.port d).replies ≠ []) (hend : src = .entryEnd → d = .pay ∧ u.entryEnd ≠ none)
    (hprogress : src = .progress → d = .pay ∧ u.progress ≠ []) (hinput : src = .input → d = .app ∧ u.inputs ≠ [])
    (hnotice : src = .notice ↔ (u.box d).place.Sends)
    (hdelivery : (u.queue d).sendingCount = if src = .delivery then 1 else 0) :
    (beginTx d src f u).TransmitAt d := by
  unfold State.TransmitAt
  simp only [isSending_of_tx (beginTx_tx d src f u), decide_eq_true_eq]
  simp only [beginTx, State.port_setPort_same, State.entryEnd_setPort, State.progress_setPort, State.inputs_setPort,
    State.box_setPort, State.queue_setPort]
  exact ⟨hreply, hend, hprogress, hinput, hnotice, hdelivery⟩

theorem beginSessionFrame_transmitAt {d : Domain} {s t : State} (hplace : ¬(s.box d).place.Sends)
    (hcount : (s.queue d).sendingCount = 0) (h : beginSessionFrame d s = some t) : t.TransmitAt d := by
  cases d with
  | pay =>
    simp only [beginSessionFrame] at h
    split at h <;> cases h
    · exact beginTx_transmitAt _ (by simp) (by simp_all) (by simp) (by simp) (iff_of_false (by decide) hplace)
        (by simpa)
    · exact beginTx_transmitAt _ (by simp) (by simp) (by simp_all) (by simp) (iff_of_false (by decide) hplace) (by simpa)
  | app =>
    simp only [beginSessionFrame] at h
    split at h <;> cases h
    exact beginTx_transmitAt _ (by simp) (by simp) (by simp) (by simp_all) (iff_of_false (by decide) hplace) (by simpa)
  | rad => cases h

theorem beginNotice_transmitAt {d : Domain} {s t : State} (hcount : (s.queue d).sendingCount = 0)
    (h : beginNotice d s = some t) : t.TransmitAt d := by
  unfold beginNotice at h
  split at h <;> cases h
  exact beginTx_transmitAt _ (by simp) (by simp) (by simp) (by simp) (by simp [Place.Sends]) (by simpa)

/-- The first eligible entry of a list is marked, and no other (R54). -/
theorem countP_markSending {es : List Entry} {e : Entry} (h : es.find? Entry.eligible = some e) :
    (markSending es).countP (fun e => e.sending) = es.countP (fun e => e.sending) + 1 := by
  induction es with
  | nil => cases h
  | cons x xs ih =>
    unfold markSending
    split
    · rename_i hx
      have idle : x.sending = false := by simp_all [Entry.eligible]
      simp [idle]
    · rename_i hx
      rw [List.find?_cons_of_neg hx] at h
      rw [List.countP_cons, List.countP_cons, ih h]
      omega

theorem sendingCount_offer {q : DeliveryQueue} {c : Class} {e : Entry} (h : q.oldest c = some e) (run : Nat) :
    (q.offer c run).sendingCount = q.sendingCount + 1 := by
  have marked := countP_markSending h
  cases c <;>
    simp only [DeliveryQueue.sendingCount_eq, DeliveryQueue.offer, PerClass.set, PerClass.get] at marked ⊢ <;> omega

theorem beginDelivery_transmitAt {d : Domain} {s t : State} (hplace : ¬(s.box d).place.Sends)
    (hcount : (s.queue d).sendingCount = 0) (h : beginDelivery d s = some t) : t.TransmitAt d := by
  unfold beginDelivery at h
  split at h
  · cases h
  · rename_i c run _
    split at h
    · cases h
    · rename_i e he
      cases h
      exact beginTx_transmitAt _ (by simp) (by simp) (by simp) (by simp) (iff_of_false (by decide) hplace)
        (by rw [State.queue_setQueue_same, sendingCount_offer he, hcount]; rfl)

/-- A choice puts the frame that it begins at its place, and otherwise leaves the link as it was. -/
theorem choose_transmitAt {d : Domain} {s : State} (h : s.TransmitAt d) : (choose d s).TransmitAt d := by
  rcases choose_cases d s with hc | ⟨htx, -, hc⟩
  · rw [hc]; exact h
  · obtain ⟨hplace, hcount⟩ := h.free htx
    rcases hc with ⟨r, rs, hr, hc⟩ | ⟨-, hc | ⟨-, hc⟩ | ⟨-, -, hc⟩⟩
    · rw [hc]
      exact beginTx_transmitAt _ (by simp [hr]) (by simp) (by simp) (by simp) (iff_of_false (by decide) hplace)
        (by simpa)
    · exact beginSessionFrame_transmitAt hplace hcount hc
    · exact beginNotice_transmitAt hcount hc
    · exact beginDelivery_transmitAt hplace hcount hc

theorem finish_transmitInv {s : State} (h : s.TransmitInv) : (finish s).TransmitInv := by
  rw [transmitInv_iff] at h ⊢
  intro d
  refine (PlacesKept.of_sameLink (finish_sameLink d s)).transmitAt ?_
  rw [judgeStall_eq]
  exact PlacesKept.transmitAt (.setPort rfl id) (choose_transmitAt (h d))

/-! ### Completions and resets -/

theorem fullReset_transmitInv (s : State) : (fullReset s).TransmitInv := by
  rw [transmitInv_iff]
  intro d
  refine transmitAt_of_free (by rw [fullReset_port]; rfl) ?_ (by rw [fullReset_queue]; rfl)
  rw [fullReset_box]
  exact fun h => h.1 rfl

/-- A frame of one source is not of another. -/
theorem isSending_other {d : Domain} {s : State} {src other : Source} (h : s.isSending d src = true)
    (ne : other ≠ src) : s.isSending d other = false := by
  cases htx : (s.port d).tx with
  | none => rw [State.isSending, htx] at h; cases h
  | some x =>
    rw [isSending_of_tx htx, decide_eq_true_eq] at h
    rw [isSending_of_tx htx, h, decide_eq_false_iff_not]
    exact fun k => ne k.symm

theorem txOver_tx (d : Domain) (s : State) : ((txOver d s).port d).tx = none := by
  rw [txOver, State.port_setPort_same]

/-- A frame other than a NOTICE and a DELIVERY marks no place. -/
theorem State.TransmitAt.unmarked {d : Domain} {s : State} {src : Source} (h : s.TransmitAt d)
    (hs : s.isSending d src = true) (hn : src ≠ .notice) (hd : src ≠ .delivery) :
    ¬(s.box d).place.Sends ∧ (s.queue d).sendingCount = 0 := by
  obtain ⟨-, -, -, -, hnotice, hdelivery⟩ := h
  rw [isSending_other hs hn.symm] at hnotice
  rw [isSending_other hs hd.symm] at hdelivery
  exact ⟨fun k => by simpa using hnotice.2 k, by simpa using hdelivery⟩

/-- What a completion of link `d` leaves of another link's places. -/
theorem txOver_placesKept {d e : Domain} (h : e ≠ d) (s : State) : PlacesKept e s (txOver d s) :=
  .of_sameLink (SameLink.setPort_other h _ _)

theorem sendingCount_removeSending (q : DeliveryQueue) :
    (q.mapLists fun es => es.filter fun e => !e.sending).sendingCount = 0 := by
  have none : ∀ es : List Entry, (es.filter fun e => !e.sending).countP (fun e => e.sending) = 0 := fun es => by
    rw [List.countP_eq_zero]
    intro e he
    simpa using (List.mem_filter.1 he).2
  simp only [DeliveryQueue.sendingCount_eq, DeliveryQueue.mapLists, none]

theorem complete_not_sends (b : NoticeBox) (m : NoticeMode) (w : Word16) : ¬(b.complete m w).place.Sends := by
  simp only [NoticeBox.complete, Place.Sends]
  split <;> split <;> simp

theorem noticeDone_transmitAt {d e : Domain} {s : State} (hs : s.isSending d .notice = true) (h : s.TransmitAt e) :
    (noticeDone d (txOver d s)).TransmitAt e := by
  by_cases he : e = d
  · subst he
    have idle : (s.queue e).sendingCount = 0 := by
      obtain ⟨-, -, -, -, -, count⟩ := h
      rwa [isSending_other hs (by decide), if_neg (by decide)] at count
    unfold noticeDone
    split
    · refine transmitAt_of_free (txOver_tx e s) ?_ idle
      rw [State.box_setBox_same]
      exact complete_not_sends _ _ _
    · rename_i hp
      exact transmitAt_of_free (txOver_tx e s) (by rw [hp]; exact fun k => k.1 rfl) idle
    · rename_i hp
      exact transmitAt_of_free (txOver_tx e s) (by rw [hp]; exact fun k => k.2 rfl) idle
  · refine PlacesKept.transmitAt ?_ ((txOver_placesKept he s).transmitAt h)
    unfold noticeDone
    split
    · exact .of_sameLink (SameLink.setBox_other he _ _)
    · exact .of_sameLink (.refl e _)
    · exact .of_sameLink (.refl e _)

theorem removeSending_transmitAt {d e : Domain} {s : State} (hs : s.isSending d .delivery = true)
    (h : s.TransmitAt e) : (removeFrom d (fun e => e.sending) (txOver d s)).TransmitAt e := by
  by_cases he : e = d
  · subst he
    refine transmitAt_of_free (txOver_tx e s) ?_ ?_
    · intro sends
      obtain ⟨-, -, -, -, notice, -⟩ := h
      rw [isSending_other hs (by decide)] at notice
      cases notice.2 sends
    · rw [removeFrom, State.queue_setQueue_same]
      exact sendingCount_removeSending _
  · exact (PlacesKept.of_sameLink (SameLink.setQueue_other he _ _)).transmitAt ((txOver_placesKept he s).transmitAt h)

theorem linkCleared_transmitAt {d e : Domain} {s : State} (h : s.TransmitAt e) : (linkCleared d s).TransmitAt e := by
  have sending : ∀ {q r : DeliveryQueue}, q.entries = r.entries → q.sendingCount = r.sendingCount :=
    fun k => by rw [DeliveryQueue.sendingCount_eq, k, ← DeliveryQueue.sendingCount_eq]
  by_cases he : e = d
  · subst he
    refine transmitAt_of_free (by rw [linkCleared_port, if_pos rfl]) ?_ ?_
    · rw [linkCleared_box_same, blank_setFlag_restarted]
      exact fun k => k.2 rfl
    · rw [DeliveryQueue.sendingCount_eq, linkCleared_entries]; rfl
  · refine PlacesKept.transmitAt ⟨?_, ?_, fun _ => ?_, fun hd => ?_, fun hd => ?_, ?_, ?_⟩ h
    · rw [linkCleared_port, if_neg he]
    · rw [linkCleared_port, if_neg he]; exact id
    · rw [linkCleared_eq]; exact id
    · rw [linkCleared_eq]; simp only [if_neg fun k : d = .pay => he (hd.trans k.symm)]; exact id
    · rw [linkCleared_eq]; simp only [if_neg fun k : d = .app => he (hd.trans k.symm)]; exact id
    · rw [linkCleared_box_other he]
      split
      · exact setFlag_sends _ _ _
      · rfl
    · exact sending (linkCleared_other he s).1

/-- A completion of a REPLY, an ENTRY-END, an ENTRY-PROGRESS or an INPUT, `t` having the link freed and no more places
changed than that source's. -/
theorem completed_transmitInv {d : Domain} {src : Source} {s t : State} (hs : s.isSending d src = true)
    (hn : src ≠ .notice) (hd : src ≠ .delivery) (htx : (t.port d).tx = none) (hbox : t.box d = s.box d)
    (hqueue : t.queue d = s.queue d) (hother : ∀ e, e ≠ d → PlacesKept e s t) (h : s.TransmitInv) :
    t.TransmitInv := by
  rw [transmitInv_iff] at h ⊢
  intro e
  by_cases he : e = d
  · subst he
    obtain ⟨hplace, hcount⟩ := (h e).unmarked hs hn hd
    exact transmitAt_of_free htx (by rwa [hbox]) (by rwa [hqueue])
  · exact (hother e he).transmitAt (h e)

theorem opening_transmitInv {s t : State} (h : Opening s t) (hs : s.TransmitInv) : t.TransmitInv := by
  cases h with
  | none => exact hs
  | reply d k =>
    refine completed_transmitInv k (by decide) (by decide) ?_ rfl rfl (fun e he => ?_) hs
    · rw [State.port_setPort_same]; exact txOver_tx d s
    · exact .of_sameLink ((SameLink.setPort_other he _ _).trans (SameLink.setPort_other he _ _))
  | entryEnd k =>
    exact completed_transmitInv k (by decide) (by decide) (txOver_tx .pay s) rfl rfl
      (fun e he => { txOver_placesKept he s with entryEnd := fun hd => absurd hd he }) hs
  | progress k =>
    exact completed_transmitInv k (by decide) (by decide) (txOver_tx .pay s) rfl rfl
      (fun e he => { txOver_placesKept he s with progress := fun hd => absurd hd he }) hs
  | input k =>
    exact completed_transmitInv k (by decide) (by decide) (txOver_tx .app s) rfl rfl
      (fun e he => { txOver_placesKept he s with inputs := fun hd => absurd hd he }) hs
  | notice d k =>
    rw [transmitInv_iff] at hs ⊢
    exact fun e => noticeDone_transmitAt k (hs e)
  | delivery d k =>
    rw [transmitInv_iff] at hs ⊢
    exact fun e => removeSending_transmitAt k (hs e)
  | linkReset d =>
    rw [transmitInv_iff] at hs ⊢
    exact fun e => linkCleared_transmitAt (hs e)

theorem update_transmitInv (s t : State) (h : Update s t) (hs : s.TransmitInv) : t.TransmitInv := by
  rw [transmitInv_iff] at hs ⊢
  exact fun d => (h.placesKept d).transmitAt (hs d)

end Sys2Proof.Machine

open Sys2Proof Sys2Proof.Machine

/-- Settles O56: every small update keeps the places (`Update.placesKept`), a completion takes its frame from its place,
and a choice puts the frame that it begins at one. -/
theorem transmissionsStandAtTheirPlaces : Obligations.TransmissionsStandAtTheirPlaces :=
  keptByStep_of update_transmitInv (fun _ _ => opening_transmitInv) (fun _ => finish_transmitInv)
    fun s _ => fullReset_transmitInv s
end

section
/-! PROOF. O50: the queues keep their capacities (R8, R50, R97, R113) and the buckets their depths (R48). -/

namespace Sys2Proof.Machine

open Sys2Proof

/-! ### The limits of a delivery queue (R50) -/

/-- A delivery queue within the limits of R50. -/
def DeliveryQueue.WithinLimits (q : DeliveryQueue) : Prop :=
  q.entries.priority.length + q.entries.bulk.length ≤ 24 ∧
  payloadBytes q.entries.priority + payloadBytes q.entries.bulk ≤ 6144 ∧
  q.entries.bulk.length ≤ 18 ∧ payloadBytes q.entries.bulk ≤ 4608

/-- Each sub-queue of `r` has at most the entries and the bytes of that of `q`. -/
def DeliveryQueue.NoLonger (q r : DeliveryQueue) : Prop :=
  ∀ c, (r.entries.get c).length ≤ (q.entries.get c).length ∧
    payloadBytes (r.entries.get c) ≤ payloadBytes (q.entries.get c)

theorem DeliveryQueue.NoLonger.withinLimits {q r : DeliveryQueue} (h : q.NoLonger r) (hq : q.WithinLimits) :
    r.WithinLimits := by
  obtain ⟨lp, bp⟩ := h .priority
  obtain ⟨lb, bb⟩ := h .bulk
  obtain ⟨entries, bytes, bulkEntries, bulkBytes⟩ := hq
  simp only [PerClass.get] at lp bp lb bb
  refine ⟨?_, ?_, ?_, ?_⟩ <;> omega

theorem payloadBytes_cons (e : Entry) (es : List Entry) :
    payloadBytes (e :: es) = e.payload.length + payloadBytes es := by
  simp [payloadBytes]

theorem payloadBytes_filter_le (es : List Entry) (p : Entry → Bool) : payloadBytes (es.filter p) ≤ payloadBytes es := by
  induction es with
  | nil => exact Nat.le_refl _
  | cons e es ih =>
    rw [List.filter_cons]
    split
    · rw [payloadBytes_cons, payloadBytes_cons]; omega
    · rw [payloadBytes_cons]; omega

theorem payloadBytes_map {f : Entry → Entry} (h : ∀ e, (f e).payload = e.payload) (es : List Entry) :
    payloadBytes (es.map f) = payloadBytes es := by
  simp only [payloadBytes, List.map_map, Function.comp_def, h]

theorem noLonger_filter (q : DeliveryQueue) (p : Entry → Bool) :
    q.NoLonger (q.mapLists fun es => es.filter p) := by
  intro c
  cases c <;> exact ⟨List.length_filter_le _ _, payloadBytes_filter_le _ _⟩

theorem noLonger_map (q : DeliveryQueue) {f : Entry → Entry} (h : ∀ e, (f e).payload = e.payload) :
    q.NoLonger (q.mapLists fun es => es.map f) := by
  intro c
  cases c <;> exact ⟨(List.length_map f).le, (payloadBytes_map h _).le⟩

theorem payloadBytes_append_one (es : List Entry) (e : Entry) :
    payloadBytes (es ++ [e]) = payloadBytes es + e.payload.length := by
  simp [payloadBytes]

/-- What the room of R50 comes to. -/
theorem limits_of_hasRoom {q : DeliveryQueue} {c : Class} {n : Nat} (h : q.hasRoom c n = true) :
    q.entries.priority.length + q.entries.bulk.length + 1 ≤ 24 ∧
      payloadBytes q.entries.priority + payloadBytes q.entries.bulk + n ≤ 6144 ∧
      (c = .bulk → q.entries.bulk.length + 1 ≤ 18 ∧ payloadBytes q.entries.bulk + n ≤ 4608) := by
  have total : payloadBytes (q.entries.priority ++ q.entries.bulk) =
      payloadBytes q.entries.priority + payloadBytes q.entries.bulk := by simp [payloadBytes]
  cases c <;>
    simpa [DeliveryQueue.hasRoom, DeliveryQueue.all, total, maxEntries, maxBytes, maxBulkEntries, maxBulkBytes,
      and_assoc] using h

/-- An entry that R50 has room for leaves the queue within its limits. -/
theorem withinLimits_append {q : DeliveryQueue} {e : Entry} (room : q.hasRoom e.cls e.payload.length = true)
    (h : q.WithinLimits) : (q.append e).WithinLimits := by
  obtain ⟨-, -, bulkEntries, bulkBytes⟩ := h
  obtain ⟨entries, bytes, bulk⟩ := limits_of_hasRoom room
  unfold DeliveryQueue.WithinLimits DeliveryQueue.append
  cases hc : e.cls with
  | priority =>
    simp only [PerClass.set, PerClass.get, List.length_append, List.length_singleton, payloadBytes_append_one]
    refine ⟨?_, ?_, bulkEntries, bulkBytes⟩ <;> omega
  | bulk =>
    obtain ⟨bulkEntries, bulkBytes⟩ := bulk hc
    simp only [PerClass.set, PerClass.get, List.length_append, List.length_singleton, payloadBytes_append_one]
    refine ⟨?_, ?_, bulkEntries, bulkBytes⟩ <;> omega

/-! ### The session frames (R97, R113) -/

theorem joinProgress_length {ps : List Progress} (h : ps.length ≤ 8) (p : Progress) :
    (joinProgress ps p).length ≤ 8 := by
  unfold joinProgress
  split
  · rename_i k
    simp only [maxProgress] at k
    rw [List.length_append, List.length_singleton]; omega
  · rw [List.length_append, List.length_dropLast, List.length_singleton]; omega

theorem dropOldest_length {es : List InputEvent} (h : es ≠ []) : (dropOldest es).length + 1 = es.length := by
  have pos := List.length_pos_iff.2 h
  unfold dropOldest
  split
  · rename_i move
    obtain ⟨e, he, hm⟩ := List.any_eq_true.1 move
    rw [List.length_eraseP_of_mem he hm]; omega
  · rw [List.length_drop]; omega

theorem joinInput_length {es : List InputEvent} (h : es.length ≤ 32) (sending : Bool) (e : InputEvent) :
    (joinInput sending es e).length ≤ 32 := by
  unfold joinInput
  split
  · rename_i k
    simp only [maxInputs] at k
    rw [List.length_append, List.length_singleton]; omega
  · rename_i k
    simp only [maxInputs, Nat.not_lt] at k
    split
    · exact h
    · have full : es.length = 32 := by omega
      split
      · have rest : es.drop 1 ≠ [] := List.ne_nil_of_length_pos (by rw [List.length_drop]; omega)
        have dropped := dropOldest_length rest
        rw [List.length_drop] at dropped
        rw [List.length_append, List.length_append, List.length_take, List.length_singleton]
        omega
      · have dropped := dropOldest_length (List.ne_nil_of_length_pos (by omega : 0 < es.length))
        rw [List.length_append, List.length_singleton]; omega

/-! ### The capacities -/

theorem capacityInv_iff (s : State) :
    s.CapacityInv ↔ s.progress.length ≤ 8 ∧ s.inputs.length ≤ 32 ∧ (∀ d, (s.port d).replies.length ≤ 4) ∧
      ∀ d, (s.queue d).WithinLimits :=
  ⟨fun ⟨hp, hi, h⟩ => ⟨hp, hi, fun d => (h d (mem_allDomains d)).1, fun d => (h d (mem_allDomains d)).2⟩,
    fun ⟨hp, hi, hr, hq⟩ => ⟨hp, hi, fun d _ => ⟨hr d, hq d⟩⟩⟩

/-- From `s` to `t` no queue that is within its capacity leaves it. -/
structure CapacityKept (s t : State) : Prop where
  progress : s.progress.length ≤ 8 → t.progress.length ≤ 8
  inputs : s.inputs.length ≤ 32 → t.inputs.length ≤ 32
  replies : ∀ d, (s.port d).replies.length ≤ 4 → (t.port d).replies.length ≤ 4
  queue : ∀ d, (s.queue d).WithinLimits → (t.queue d).WithinLimits

namespace CapacityKept

variable {s t : State}

theorem capacityInv (h : CapacityKept s t) (hs : s.CapacityInv) : t.CapacityInv := by
  rw [capacityInv_iff] at hs ⊢
  obtain ⟨hprogress, hinputs, hreplies, hqueue⟩ := hs
  exact ⟨h.progress hprogress, h.inputs hinputs, fun d => h.replies d (hreplies d), fun d => h.queue d (hqueue d)⟩

theorem of_eq (hports : t.ports = s.ports) (hprogress : t.progress = s.progress) (hinputs : t.inputs = s.inputs)
    (hqueues : t.switch.queues = s.switch.queues) : CapacityKept s t := by
  constructor <;> simp only [State.port, State.queue, hports, hprogress, hinputs, hqueues, imp_self, implies_true]

theorem setPort (d : Domain) (p : Port) (h : (s.port d).replies.length ≤ 4 → p.replies.length ≤ 4) :
    CapacityKept s (s.setPort d p) := by
  refine ⟨id, id, fun e => ?_, fun _ => id⟩
  rw [State.port_setPort]
  split
  · subst_vars; exact h
  · exact id

theorem setQueue (d : Domain) (q : DeliveryQueue) (h : (s.queue d).WithinLimits → q.WithinLimits) :
    CapacityKept s (s.setQueue d q) := by
  refine ⟨id, id, fun _ => id, fun e => ?_⟩
  rw [State.queue_setQueue]
  split
  · subst_vars; exact h
  · exact id

end CapacityKept

theorem update_capacityKept {s t : State} (h : Update s t) : CapacityKept s t := by
  cases h with
  | progress p => exact ⟨fun k => joinProgress_length k p, id, fun _ => id, fun _ => id⟩
  | input e => exact ⟨id, fun k => joinInput_length k _ e, fun _ => id, fun _ => id⟩
  | purged d gone => exact .setQueue d _ (noLonger_filter _ _).withinLimits
  | held d f hf =>
    have payload : ∀ e, (f e).payload = e.payload := fun e => by
      have same := congrArg Entry.payload (hf e)
      exact same
    exact .setQueue d _ (noLonger_map _ payload).withinLimits
  | wanted d w => exact .setQueue d _ id
  | posted d e room idle => exact .setQueue d _ (withinLimits_append room)
  | port d => exact .setPort d _ id
  | replied d r room =>
    refine .setPort d _ fun _ => ?_
    simp only [maxReplies] at room
    rw [List.length_append, List.length_singleton]; omega
  | _ => exact .of_eq rfl rfl rfl rfl

theorem opening_capacityKept {s t : State} (h : Opening s t) : CapacityKept s t := by
  have freed : ∀ d, CapacityKept s (txOver d s) := fun d => .setPort d _ id
  cases h with
  | none => exact .of_eq rfl rfl rfl rfl
  | reply d =>
    refine ⟨id, id, fun e => ?_, fun _ => id⟩
    rw [State.port_setPort]
    split
    · subst_vars
      rw [List.length_tail]; omega
    · exact (freed d).replies e
  | entryEnd => exact ⟨id, id, (freed .pay).replies, fun _ => id⟩
  | progress =>
    exact ⟨fun k => by rw [List.length_drop]; omega, id, (freed .pay).replies, fun _ => id⟩
  | input =>
    exact ⟨id, fun k => by rw [List.length_drop]; omega, (freed .app).replies, fun _ => id⟩
  | notice d =>
    unfold noticeDone
    split <;> exact ⟨id, id, (freed d).replies, fun _ => id⟩
  | delivery d =>
    refine ⟨id, id, (freed d).replies, fun e => ?_⟩
    rw [removeFrom, State.queue_setQueue]
    split
    · subst_vars; exact (noLonger_filter _ _).withinLimits
    · exact id
  | linkReset d =>
    refine ⟨?_, ?_, fun e => ?_, fun e => ?_⟩
    · rw [linkCleared_eq]; dsimp only; split
      · exact fun _ => Nat.zero_le _
      · exact id
    · rw [linkCleared_eq]; dsimp only; split
      · exact fun _ => Nat.zero_le _
      · exact id
    · rw [linkCleared_port]; split
      · exact fun _ => Nat.zero_le _
      · exact id
    · by_cases he : e = d
      · subst he
        intro _
        simp [DeliveryQueue.WithinLimits, linkCleared_entries, payloadBytes]
      · exact fun k => by rwa [DeliveryQueue.WithinLimits, (linkCleared_other he s).1]

theorem finish_capacityKept (s : State) : CapacityKept s (finish s) := by
  have k := finish_transmit s
  refine ⟨fun h => by rwa [k.progress], fun h => by rwa [k.inputs], fun d h => by rwa [k.replies d], fun d => ?_⟩
  refine DeliveryQueue.NoLonger.withinLimits fun c => ?_
  have same := k.entries d c
  have length := congrArg List.length same
  have bytes := congrArg payloadBytes same
  rw [List.length_map, List.length_map] at length
  rw [payloadBytes_map (f := Entry.unsent) fun _ => rfl, payloadBytes_map (f := Entry.unsent) fun _ => rfl] at bytes
  exact ⟨length.le, bytes.le⟩

theorem fullReset_capacityInv (s : State) : (fullReset s).CapacityInv := by
  rw [capacityInv_iff]
  refine ⟨Nat.zero_le _, Nat.zero_le _, fun d => ?_, fun d => ?_⟩
  · rw [fullReset_port]; exact Nat.zero_le _
  · rw [fullReset_queue]; simp [DeliveryQueue.WithinLimits, payloadBytes]

/-! ### The buckets (R46–R48) -/

theorem refilled_le (slots : Vector Slot 8) (levels : Vector Nat 8) (i : Fin 8) :
    (refilled slots levels)[i] ≤ slots[i].depth := by
  simp only [refilled, Fin.getElem_fin, Vector.getElem_ofFn]
  exact Nat.min_le_left _ _

theorem committedLevels_le {old new : Policy} {levels : Vector Nat 8} (i : Fin 8)
    (h : levels[i] ≤ old.slots[i].depth) : (committedLevels old new levels)[i] ≤ new.slots[i].depth := by
  simp only [committedLevels, Fin.getElem_fin, Vector.getElem_ofFn] at h ⊢
  split
  · rename_i same; rw [same]; exact h
  · exact Nat.min_le_right _ _

theorem setLevel_le (s : State) {n v : Nat} (h : v ≤ s.switch.level n) (i : Fin 8) :
    (setLevel s n v).switch.levels[i] ≤ s.switch.levels[i] := by
  simp only [setLevel, Fin.getElem_fin, Vector.getElem_setIfInBounds]
  split
  · rename_i here
    subst here
    simpa [Switch.level] using h
  · exact Nat.le_refl _

theorem update_bucketInv (s t : State) (h : Update s t) (hs : s.BucketInv) : t.BucketInv := by
  cases h with
  | refilled => exact refilled_le _ _
  | spent n v k => exact fun i => Nat.le_trans (setLevel_le s k i) (hs i)
  | committed g => exact fun i => committedLevels_le i (hs i)
  | _ => exact hs

theorem bucketInv_of_eq {s t : State} (hl : t.switch.levels = s.switch.levels) (ha : t.active = s.active)
    (hs : s.BucketInv) : t.BucketInv := by
  rw [State.BucketInv, hl, ha]; exact hs

theorem opening_bucketInv (s t : State) (h : Opening s t) (hs : s.BucketInv) : t.BucketInv := by
  cases h with
  | notice d =>
    refine bucketInv_of_eq ?_ ?_ hs <;> (unfold noticeDone; split <;> rfl)
  | linkReset d => exact bucketInv_of_eq (by rw [linkCleared_eq]) (by rw [linkCleared_eq]) hs
  | _ => exact hs

theorem finish_bucketInv (s : State) : s.BucketInv → (finish s).BucketInv :=
  bucketInv_of_eq (finish_transmit s).levels (finish_transmit s).active

theorem fullReset_bucketInv (s : State) : (fullReset s).BucketInv := fun i => by
  simp [fullReset, Switch.reset]

end Sys2Proof.Machine

open Sys2Proof Sys2Proof.Machine

/-- Settles O50: a post joins only a queue with room for it (`withinLimits_append`), a REPLY only a free place, a frame of
a session only as its full queue lets it; a bucket pays down, refills to its depth, and is cut to it at a commit. -/
theorem queuesKeepTheirCapacities : Obligations.QueuesKeepTheirCapacities :=
  ⟨keptByStep_of (fun _ _ h => (update_capacityKept h).capacityInv) (fun _ _ h => (opening_capacityKept h).capacityInv)
      (fun s => (finish_capacityKept s).capacityInv) fun s _ => fullReset_capacityInv s,
    keptByStep_of update_bucketInv opening_bucketInv finish_bucketInv fun s _ => fullReset_bucketInv s⟩
end

section
/-! PROOF. O5: the receiver takes exactly the frame that was sent (R2–R4), byte by byte. -/

namespace Sys2Proof.Machine

open Sys2Proof

/-! ### Two-byte fields (R3) -/

theorem byte_toNat (n : Nat) : (byte n).toNat = n % 256 := by
  simp [byte]

/-- The two bytes of a number below 2^16 give it back. -/
theorem twoBytes_toNat {n : Nat} (h : n < 65536) : (byte n).toNat + 256 * (byte (n / 256)).toNat = n := by
  rw [byte_toNat, byte_toNat]; omega

theorem wordOf_wordBytes (w : Word16) : wordOf (byte w.toNat) (byte (w.toNat / 256)) = w := by
  rw [wordOf, twoBytes_toNat w.isLt, BitVec.ofNat_toNat, BitVec.setWidth_eq]

/-! ### A receiver takes a run of bytes -/

theorem Receiver.takeAll_append (r : Receiver) (bs cs : List Byte) :
    r.takeAll (bs ++ cs) =
      (((r.takeAll bs).1.takeAll cs).1, (r.takeAll bs).2 ++ ((r.takeAll bs).1.takeAll cs).2) := by
  induction bs generalizing r with
  | nil => rfl
  | cons b bs ih => simp only [List.cons_append, Receiver.takeAll, ih]

/-- The start byte and the five header bytes of a frame whose length fits (R4). -/
theorem takeAll_header (kind tag slot lo hi : Byte) :
    Receiver.hunt.takeAll [startByte, kind, tag, slot, lo, hi] =
      ((headerDone kind tag slot (lo.toNat + 256 * hi.toNat)).1,
        List.replicate 5 .none ++ [(headerDone kind tag slot (lo.toNat + 256 * hi.toNat)).2]) := rfl

/-- The bytes of a body, up to its last (R4). -/
theorem takeAll_body (kind tag slot : Byte) (length : Nat) (got bs : List Byte) (hbs : bs ≠ [])
    (h : got.length + bs.length = length) :
    (Receiver.body kind tag slot length got).takeAll bs =
      (.check kind tag slot (got ++ bs) none, List.replicate bs.length .none) := by
  induction bs generalizing got with
  | nil => exact absurd rfl hbs
  | cons b bs ih =>
    rw [List.length_cons] at h
    cases bs with
    | nil =>
      have last : ¬got.length + 1 < length := by rw [List.length_nil] at h; omega
      simp only [Receiver.takeAll, Receiver.take, if_neg last]
      rfl
    | cons c cs =>
      have more : got.length + 1 < length := by rw [List.length_cons] at h; omega
      have rest := ih (got ++ [b]) (by simp) (by rw [List.length_append, List.length_singleton]; omega)
      rw [Receiver.takeAll, Receiver.take, if_pos more]
      simp only [rest, List.append_assoc, List.singleton_append, List.length_cons, List.replicate_succ]

/-- The header and the body of a frame leave the receiver waiting for the check field (R4). -/
theorem takeAll_covered {f : Frame} (h : f.body.length ≤ 512) :
    Receiver.hunt.takeAll (startByte :: f.covered) =
      (.check f.kind f.tag f.slot f.body none, List.replicate (f.covered.length + 1) .none) := by
  obtain ⟨kind, tag, slot, body⟩ := f
  have length := twoBytes_toNat (n := body.length) (by dsimp only at h; omega)
  have split : startByte :: Frame.covered ⟨kind, tag, slot, body⟩ =
      [startByte, kind, tag, slot, byte body.length, byte (body.length / 256)] ++ body := rfl
  rw [split, Receiver.takeAll_append, takeAll_header, length, headerDone, if_neg (by simpa [maxBody] using h)]
  by_cases empty : body = []
  · subst empty; rfl
  · rw [if_neg (by simpa using empty)]
    dsimp only
    rw [takeAll_body _ _ _ _ [] body empty (by simp)]
    simp [Frame.covered, twoBytes, List.replicate_succ]

theorem takeAll_check (kind tag slot : Byte) (body : List Byte) (check : Word16) :
    (Receiver.check kind tag slot body none).takeAll (wordBytes check) =
      (.hunt, [.none, checkDone ⟨kind, tag, slot, body⟩ check]) := by
  simp only [wordBytes, twoBytes, Receiver.takeAll, Receiver.take, wordOf_wordBytes]

end Sys2Proof.Machine

open Sys2Proof Sys2Proof.Machine

/-- Settles O5: the header, the body by induction on its bytes, and the check field. -/
theorem receiverTakesExactlyTheFrameSent : Obligations.ReceiverTakesExactlyTheFrameSent := by
  intro f check h
  rw [← List.cons_append, Receiver.takeAll_append, takeAll_covered h, takeAll_check]
  have done : checkDone ⟨f.kind, f.tag, f.slot, f.body⟩ check =
      if check = f.check then RxEvent.frame f else .frameError :=
    if_congr eq_comm rfl rfl
  rw [done, List.replicate_succ' (n := f.covered.length + 1), List.append_assoc]
  rfl
end

section
/-! PROOF. Reception (O6–O9): discarded frames, collected bytes, a frame byte by byte, a break (R1, R4, R5). -/

namespace Sys2Proof.Machine

open Sys2Proof

@[simp] theorem setFlag_reports (d : Domain) (f : Flag) (s : State) : (setFlag d f s).reports = s.reports := rfl

@[simp] theorem setReceiver_reports (d : Domain) (r : Receiver) (s : State) :
    (setReceiver d r s).reports = s.reports := rfl

theorem interByteAfter_eq (r : Receiver) : interByteAfter r = if r = .hunt then .stopped else .running 5 := by
  simp only [interByteAfter, Receiver.inFrame, decide_eq_true_eq, interByteTime]
  split <;> simp_all

theorem setReceiver_hunt (d : Domain) (s : State) :
    setReceiver d .hunt s = s.setPort d { s.port d with rx := .hunt, interByte := .stopped } := rfl

theorem discardPartial_of_inFrame {d : Domain} {s : State} (h : (s.port d).rx ≠ .hunt) :
    discardPartial d s = setFlag d .frameError (setReceiver d .hunt s) := by
  rw [discardPartial, if_pos (by simpa [Receiver.inFrame] using h)]

theorem discardPartial_of_hunt {d : Domain} {s : State} (h : (s.port d).rx = .hunt) : discardPartial d s = s := by
  rw [discardPartial, h]; rfl

theorem receive_of_open {d : Domain} {s : State} (h : (s.port d).inBreak = false) (r : Receiver) (e : RxEvent) :
    receive d (r, e) s = rxEvent d e (setReceiver d r s) := by
  rw [receive, h]; rfl

theorem wholeFrame_of_open {d : Domain} {s : State} (h : (s.port d).inBreak = false) (f : Frame)
    (owner : State → State × Status × List Byte) :
    wholeFrame d f owner s = validFrame d f owner (setReceiver d .hunt s) := by
  rw [wholeFrame, h]; rfl

theorem headerDone_of_long {kind tag slot : Byte} {length : Nat} (h : 512 < length) :
    headerDone kind tag slot length = (.hunt, .frameError) := if_pos h

theorem checkDone_of_wrong {f : Frame} {check : Word16} (h : f.check ≠ check) : checkDone f check = .frameError :=
  if_neg h

/-- What the port receives during a break is nothing (R1). -/
theorem receive_of_break {d : Domain} {s : State} (h : (s.port d).inBreak = true) (r : Receiver × RxEvent) :
    receive d r s = s := if_pos h

theorem wholeFrame_of_break {d : Domain} {s : State} (h : (s.port d).inBreak = true) (f : Frame)
    (owner : State → State × Status × List Byte) : wholeFrame d f owner s = s := if_pos h

/-- A command that changes nothing but for the end of every command. -/
theorem act_idle {s : State} {f : State → State} (h : s.Live) (hf : f s = s) : act s f = .next (finish s) := by
  obtain ⟨hreset, hreports⟩ := h
  rw [act_of_noReports hreset (by rw [hf]; exact hreports), hf]

/-- A command of a live part with the effect `u`. -/
theorem act_eq {s u : State} {f : State → State} (h : s.Live) (hf : f s = u) (hu : u.reports = s.reports) :
    act s f = .next (finish u) := by
  obtain ⟨hreset, hreports⟩ := h
  rw [act_of_noReports hreset (by rw [hf, hu]; exact hreports), hf]

end Sys2Proof.Machine

open Sys2Proof Sys2Proof.Machine

/-- Settles O6: each of the four discards is `setFlag` after `setReceiver`. -/
theorem badFramesAreDiscarded : Obligations.BadFramesAreDiscarded := by
  intro d s ⟨live, noBreak⟩ gone
  have discard : ∀ {f : State → State}, f s = setFlag d .frameError (setReceiver d .hunt s) → act s f = gone :=
    fun hf => act_eq live hf rfl
  refine ⟨fun inFrame => ?_, fun hunt => ?_, fun inFrame running => ?_, fun kind tag slot length long => ?_,
    fun kind tag slot body check wrong => ?_⟩
  · change execLineError d s = gone
    exact discard (by rw [noBreak, discardPartial_of_inFrame inFrame]; rfl)
  · change execLineError d s = _
    exact act_idle live (by rw [noBreak, discardPartial_of_hunt hunt]; rfl)
  · change execInterByteTimeout d s = gone
    exact discard (by rw [running, discardPartial_of_inFrame inFrame]; rfl)
  · change execLengthOver512 d kind tag slot length s = gone
    exact discard (by rw [headerDone_of_long long, receive_of_open noBreak]; rfl)
  · change execFrameCheckFail d kind tag slot body check s = gone
    exact discard (by rw [checkDone_of_wrong wrong, receive_of_open noBreak]; rfl)

/-- Settles O7: `receive` with the two events that end no valid frame. -/
theorem receivedByteIsCollected : Obligations.ReceivedByteIsCollected := by
  intro d b r s ⟨live, noBreak⟩ moved
  have collected : setReceiver d r s = moved := by rw [setReceiver, interByteAfter_eq]
  refine ⟨fun taken => ?_, fun taken => ?_⟩
  · change execReceivedByte d b s = _
    exact act_eq live (by rw [taken, receive_of_open noBreak, collected]; rfl) rfl
  · change execReceivedByte d b s = _
    exact act_eq live (by rw [taken, receive_of_open noBreak, collected]; rfl) rfl

/-- Settles O8: the last byte of a frame hands over what the frame's command does. -/
theorem bytewiseFrameRunsAsItsCommand : Obligations.BytewiseFrameRunsAsItsCommand := by
  intro d b f c s ⟨live, noBreak⟩ taken request
  have same : receive d ((s.port d).rx.take b) s = wholeFrame d f (ownerOf d f) s := by
    rw [taken, receive_of_open noBreak, wholeFrame_of_open noBreak]; rfl
  rw [exec_request request]
  calc exec (.receivedByte d b) s
      = .next (finish (takeReports (receive d ((s.port d).rx.take b) s))) := act_of_running live.1 _
    _ = .next (finish (takeReports (wholeFrame d f (ownerOf d f) s))) := by rw [same]
    _ = act s (wholeFrame d f (ownerOf d f)) := (act_of_running live.1 _).symm

/-- Settles O9: what a break holds off, and how the port stands when the line returns high. -/
theorem breakHoldsTheReceiver : Obligations.BreakHoldsTheReceiver := by
  intro d s live inBreak
  refine ⟨fun b => ?_, ?_, ?_, fun c f request => ?_, ?_⟩
  · change execReceivedByte d b s = _
    exact act_idle live (receive_of_break inBreak _)
  · change execLineError d s = _
    exact act_idle live (if_pos inBreak)
  · change execSerialBreak d s = _
    exact act_idle live (if_pos inBreak)
  · rw [exec_request request]
    exact act_idle live (wholeFrame_of_break inBreak f _)
  · change execBreakEnd d s = _
    refine act_eq live ((if_pos inBreak).trans ?_) rfl
    rw [setReceiver_hunt, State.port_setPort_same]
    simp [State.setPort]
end

section
/-! PROOF. Requests at the port (O11, O12, O15): overrun, the checks of R9, STATUS and RESTART (R8–R10, R17,
R169–R171). -/

namespace Sys2Proof.Machine

open Sys2Proof

/-! ### The arrival of a request (R4, R8) -/

/-- A valid frame's arrival (R4, R157): the receiver in HUNT and, on PAY, the silence timer told. -/
theorem arrived_eq (d : Domain) (s : State) :
    (if d = .pay then restartSilence (setReceiver d .hunt s) else setReceiver d .hunt s) = s.arrived d := by
  unfold State.arrived
  by_cases hd : d = .pay
  · subst hd
    cases running : s.sup.silence.isRunning <;> simp [restartSilence, setReceiver, startSilence, running] <;> rfl
  · simp only [hd, false_and, if_false]
    rfl

theorem arrived_replies (d : Domain) (s : State) : ((s.arrived d).port d).replies = (s.port d).replies := by
  simp [State.arrived, State.port]

/-- A request that finds a free reply place is executed in the state that its arrival leaves (R8). -/
theorem wholeFrame_of_accepts {d : Domain} {s : State} (h : s.Accepts d) (f : Frame)
    (owner : State → State × Status × List Byte) :
    wholeFrame d f owner s = execute d f owner (s.arrived d) := by
  obtain ⟨⟨-, noBreak⟩, room⟩ := h
  rw [wholeFrame_of_open noBreak, validFrame, arrived_eq]
  exact if_neg (by rw [arrived_replies]; exact Nat.not_le.2 room)

theorem wholeFrame_of_full {d : Domain} {s : State} (noBreak : (s.port d).inBreak = false)
    (full : 4 ≤ (s.port d).replies.length) (f : Frame) (owner : State → State × Status × List Byte) :
    wholeFrame d f owner s = setFlag d .overrun (s.arrived d) := by
  rw [wholeFrame_of_open noBreak, validFrame, arrived_eq]
  exact if_pos (by rw [arrived_replies]; exact full)

theorem execute_of_refused {d : Domain} {f : Frame} {st : Status} (h : portCheck d f = some st)
    (owner : State → State × Status × List Byte) (s : State) :
    execute d f owner s = s.answered d f st [] := by
  rw [execute, h]; rfl

theorem execute_of_passed {d : Domain} {f : Frame} (h : portCheck d f = none)
    (owner : State → State × Status × List Byte) (s : State) :
    execute d f owner s = (owner s).1.answered d f (owner s).2.1 (owner s).2.2 := by
  rw [execute, h]; rfl

/-! ### The request kinds (R9) -/

theorem requestKindOf_code (k : RequestKind) : requestKindOf k.code = some k := by cases k <;> rfl

theorem isRequestCode_code (k : RequestKind) : isRequestCode k.code = true := by cases k <;> rfl

/-- A kind code is the code of a request kind or none's (chapter 1, REQUEST BODIES). -/
theorem exists_code_of_isRequestCode {kind : Byte} (h : isRequestCode kind = true) :
    ∃ k : RequestKind, k.code = kind := by
  have given : kind = BitVec.ofNat 8 kind.toNat := by simp
  simp only [isRequestCode, Bool.or_eq_true, decide_eq_true_eq] at h
  generalize kind.toNat = n at given h
  subst given
  rcases h with ⟨lo, hi⟩ | ⟨lo, hi⟩
  · interval_cases n
    · exact ⟨.post, rfl⟩
    · exact ⟨.status, rfl⟩
    · exact ⟨.clear, rfl⟩
    · exact ⟨.noticeTest, rfl⟩
  · interval_cases n
    · exact ⟨.load, rfl⟩
    · exact ⟨.revert, rfl⟩
    · exact ⟨.commit, rfl⟩
    · exact ⟨.entryBegin, rfl⟩
    · exact ⟨.entryAbort, rfl⟩
    · exact ⟨.slotBar, rfl⟩
    · exact ⟨.unlock, rfl⟩
    · exact ⟨.restart, rfl⟩

theorem requestKindOf_of_notRequest {kind : Byte} (h : isRequestCode kind = false) : requestKindOf kind = none := by
  cases hk : requestKindOf kind with
  | none => rfl
  | some k =>
    have code : k.code = kind := by simpa using List.find?_some hk
    rw [← code, isRequestCode_code] at h
    cases h

/-- The kinds up to 0x0F are everyone's, the others PAY's (R9, check 2). -/
theorem permitted_eq (d : Domain) (k : RequestKind) :
    permitted d k = (decide (d = .pay) || decide (k.code.toNat < 0x10)) := by
  cases k <;> simp [permitted, RequestKind.code]

theorem lengthFits_eq (k : RequestKind) (n : Nat) : lengthFits k n = fitsRequest k.code.toNat n := by
  cases k <;> rfl

end Sys2Proof.Machine

open Sys2Proof Sys2Proof.Machine

/-- Settles O11: with four REPLYs queued the frame's arrival and the flag are all. -/
theorem overrunDropsTheRequest : Obligations.OverrunDropsTheRequest := by
  intro c d f s request ⟨live, noBreak⟩ full
  rw [exec_request request]
  exact act_eq live (wholeFrame_of_full noBreak full f _) rfl

/-- Settles O12: the three checks of R9, each with its REPLY. -/
theorem portRefusesByKindPermissionLength : Obligations.PortRefusesByKindPermissionLength := by
  intro c d f s request accepts
  have refuse : ∀ {st : Status}, portCheck d f = some st →
      exec c s = .next (finish ((s.arrived d).answered d f st [])) := fun h => by
    rw [exec_request request]
    exact act_eq accepts.1.1 ((wholeFrame_of_accepts accepts f _).trans (execute_of_refused h _ _)) rfl
  refine ⟨fun notRequest => refuse ?_, fun isRequest notPay high => refuse ?_,
    fun isRequest allowed misfit => refuse ?_⟩
  · rw [portCheck, requestKindOf_of_notRequest notRequest]
  · obtain ⟨k, code⟩ := exists_code_of_isRequestCode isRequest
    rw [← code] at high
    have barred : permitted d k = false := by
      rw [permitted_eq, Bool.or_eq_false_iff, decide_eq_false_iff_not, decide_eq_false_iff_not]
      exact ⟨notPay, Nat.not_lt.2 high⟩
    rw [portCheck, ← code, requestKindOf_code]
    simp [barred]
  · obtain ⟨k, code⟩ := exists_code_of_isRequestCode isRequest
    rw [← code] at allowed misfit
    have passes : permitted d k = true := by
      rw [permitted_eq, Bool.or_eq_true, decide_eq_true_eq, decide_eq_true_eq]; exact allowed
    rw [portCheck, ← code, requestKindOf_code]
    simp [passes, lengthFits_eq, misfit]
end

section
/-! PROOF. O15: STATUS and RESTART only answer (R17, R169–R171). -/

namespace Sys2Proof.Machine

open Sys2Proof

/-- The state byte of a tamper input, bit by bit (R158, R170). -/
theorem tamperByte_eq (t : Tamper) : tamperByte t =
    byte ((if t.filtered = .high then 1 else 0) + (if t.inTrip then 2 else 0) + if t.latch then 4 else 0) := by
  simp only [tamperByte, bitIf, decide_eq_true_eq, Nat.pow_zero, Nat.pow_one, Nat.reducePow]

/-- A byte that holds one flag. -/
theorem byte_bitIf_zero (b : Bool) : byte (bitIf 0 b) = if b then 1 else 0 := by cases b <;> rfl

/-- The output runs on the input but in LOCAL and TO_FOLLOW (R131). -/
theorem not_followsInput_iff (t : Timing) : (!t.followsInput) = true ↔ t = .localTiming ∨ t = .toFollow := by
  cases t <;> simp [Timing.followsInput]

theorem arrived_stalled (d e : Domain) (s : State) : ((s.arrived d).port e).stalled = (s.port e).stalled := by
  rw [State.port, State.arrived, PerDomain.get_set]
  split
  · subst_vars; rfl
  · rfl

theorem arrived_measurement (d : Domain) (s : State) : (s.arrived d).sup.measurement = s.sup.measurement := by
  unfold State.arrived; dsimp only; split <;> rfl

theorem arrived_level (d : Domain) (s : State) : (s.arrived d).sup.level = s.sup.level := by
  unfold State.arrived; dsimp only; split <;> rfl

theorem arrived_tamper (d : Domain) (s : State) : (s.arrived d).sup.tamper = s.sup.tamper := by
  unfold State.arrived; dsimp only; split <;> rfl

/-- The arrival of a frame shows in no summary. -/
theorem paySummary_arrived (d : Domain) (s : State) : paySummary (s.arrived d) = paySummary s := by
  simp only [paySummary, arrived_stalled, arrived_measurement, arrived_level, arrived_tamper]
  rfl

theorem portCheck_status (d : Domain) (tag slot : Byte) :
    portCheck d ⟨0x02, tag, slot, []⟩ = none := by cases d <;> rfl

/-- A STATUS that is executed answers its domain's summary (R169). -/
theorem exec_status_eq {d : Domain} {s : State} (h : s.Accepts d) (tag slot : Byte) :
    exec (.status d tag slot []) s =
      .next (finish ((s.arrived d).answered d ⟨0x02, tag, slot, []⟩ (runStatus d slot (s.arrived d)).2.1
        (runStatus d slot (s.arrived d)).2.2)) := by
  refine act_eq h.1.1 ((wholeFrame_of_accepts h _ _).trans ?_) rfl
  refine (execute_of_passed (portCheck_status d tag slot) _ _).trans ?_
  rw [runStatus_owner]

theorem exec_restart_eq {s : State} (h : s.Accepts .pay) (tag slot : Byte) :
    exec (.restart .pay tag slot []) s =
      .next (finish ((s.arrived .pay).answered .pay ⟨0x17, tag, slot, []⟩ .ok [])) :=
  act_eq h.1.1 ((wholeFrame_of_accepts h _ _).trans (execute_of_passed rfl _ _)) rfl

end Sys2Proof.Machine

open Sys2Proof Sys2Proof.Machine

/-- Settles O15: the summaries byte by byte, and the two requests whose owners change nothing. -/
theorem statusAndRestartOnlyAnswer : Obligations.StatusAndRestartOnlyAnswer := by
  intro d tag slot s accepts queue bits pay app rad answer
  have paySummary_eq : paySummary s = pay := by
    simp only [paySummary, tamperByte_eq, byte_bitIf_zero, not_followsInput_iff]
    simp only [occupancy, bitIf, Nat.pow_one, Nat.reducePow, pay, queue, bits]
  have appSummary_eq : appSummary slot.toNat s = app := by
    simp only [appSummary, byte_bitIf_zero, decide_eq_true_eq, ne_eq, ite_not, occupancy, Switch.level, app, queue]
  refine ⟨rfl, rfl, rfl, fun hd => ?_, fun hd => ?_, fun hd low => ?_, fun hd high => ?_, fun hd => ?_⟩
  · subst hd
    refine (exec_status_eq accepts tag slot).trans ?_
    rw [runStatus, paySummary_arrived, paySummary_eq]
  · subst hd
    exact exec_status_eq accepts tag slot
  · subst hd
    refine (exec_status_eq accepts tag slot).trans ?_
    rw [runStatus, if_neg (Nat.not_le.2 low), ← appSummary_eq]
    rfl
  · subst hd
    refine (exec_status_eq accepts tag slot).trans ?_
    rw [runStatus, if_pos high]
  · subst hd
    exact exec_restart_eq accepts tag slot
end

section
/-! PROOF. The ready inputs, the stall timers and the completions (O26, O29; R8, R12, R13, R15, R17, R97). -/

namespace Sys2Proof.Machine

open Sys2Proof

/-- A frame that completes leaves the transmitter free, and its place is told (R15). -/
theorem complete_of_sending {d : Domain} {src : Source} {s : State} (h : s.isSending d src = true)
    (f : State → State) : complete d src f s = f (txOver d s) := if_pos h

theorem txOver_replies (d : Domain) (s : State) : ((txOver d s).port d).replies = (s.port d).replies := by
  rw [txOver, State.port_setPort_same]

/-- A completed REPLY that is not the OK reply to a RESTART leaves its queue (R15). -/
theorem replyDone_of_plain {d : Domain} {s : State} {r : Reply} {rs : List Reply}
    (h : (s.port d).replies = r :: rs) (plain : r.isRestart = false) :
    replyDone d (txOver d s) = s.setPort d { s.port d with tx := none, replies := rs } := by
  rw [replyDone, txOver_replies, h]
  dsimp only
  rw [plain, txOver, State.port_setPort_same]
  simp [State.setPort]

/-- The completed OK reply to a RESTART resets the part (R17). -/
theorem replyDone_of_restart {d : Domain} {s : State} {r : Reply} {rs : List Reply}
    (h : (s.port d).replies = r :: rs) (restart : r.isRestart = true) :
    replyDone d (txOver d s) = fullReset s := by
  rw [replyDone, txOver_replies, h]
  dsimp only
  rw [restart]
  cases d <;> rfl

end Sys2Proof.Machine

open Sys2Proof Sys2Proof.Machine

/-- Settles O26: the three events, each with its port. -/
theorem readyInputsAndStall : Obligations.ReadyInputsAndStall := by
  intro d s live
  refine ⟨?_, ?_, fun running => ?_⟩
  · change execReadyAsserted d s = _
    rw [execReadyAsserted, actPin_of_running live.1]
    exact act_eq live rfl rfl
  · change execReadyDeasserted d s = _
    rw [execReadyDeasserted, actPin_of_running live.1]
    exact act_eq live rfl rfl
  · change execStallTimerExpiry d s = _
    exact act_eq live (if_pos running) rfl

/-- Settles O29: each completion frees the transmitter and takes its frame; RESTART's reply ends in a full reset, where
no transmitter has anything to begin (`finish_fullReset`). -/
theorem completedFramesLeaveTheirPlaces : Obligations.CompletedFramesLeaveTheirPlaces := by
  intro s live
  refine ⟨fun d r rs sending replies => ⟨fun plain => ?_, fun ok restart => ?_⟩, fun sending => ?_, fun sending => ?_,
    fun sending => ?_⟩
  · change execReplyComplete d s = _
    have notRestart : r.isRestart = false := by
      simp only [Reply.isRestart, decide_eq_false_iff_not, not_and_or]
      exact plain
    exact act_eq live ((complete_of_sending sending _).trans (replyDone_of_plain replies notRestart)) rfl
  · change execReplyComplete d s = .next (fullReset s)
    have isRestart : r.isRestart = true := by
      simp only [Reply.isRestart, decide_eq_true_eq]
      exact ⟨ok, restart⟩
    rw [execReplyComplete, act_of_running live.1, complete_of_sending sending, replyDone_of_restart replies isRestart,
      takeReports_of_none rfl, finish_fullReset]
  · change execEntryEndComplete s = _
    exact act_eq live (complete_of_sending sending _) rfl
  · change execEntryProgressComplete s = _
    exact act_eq live ((complete_of_sending sending _).trans (by rw [List.drop_one]; rfl)) rfl
  · change execInputComplete s = _
    exact act_eq live ((complete_of_sending sending _).trans (by rw [List.drop_one]; rfl)) rfl
end

section
/-! PROOF. O27: the transmitters choose in the order of R14, each frame with the bytes of chapter 1 (R10–R12, R54,
R55, R97, R99, R113, R116, R162). -/

namespace Sys2Proof.Machine

open Sys2Proof

/-! ### What the end of a command leaves alone -/

theorem besideTransmit_queue {q r : DeliveryQueue} (hw : r.wanted = q.wanted)
    (he : ∀ c, (r.entries.get c).map Entry.unsent = (q.entries.get c).map Entry.unsent) :
    r.besideTransmit = q.besideTransmit := by
  have priority := he .priority
  have bulk := he .bulk
  simp only [PerClass.get] at priority bulk
  change DeliveryQueue.mk ⟨r.entries.priority.map Entry.unsent, r.entries.bulk.map Entry.unsent⟩ 0 r.wanted =
    ⟨⟨q.entries.priority.map Entry.unsent, q.entries.bulk.map Entry.unsent⟩, 0, q.wanted⟩
  rw [priority, bulk, hw]

theorem besideTransmit_of_transmit {s t : State} (h : TransmitOnly s t) : t.besideTransmit = s.besideTransmit := by
  have queue : ∀ d, (t.queue d).besideTransmit = (s.queue d).besideTransmit := fun d =>
    besideTransmit_queue (h.wanted d) (h.entries d)
  simp only [State.besideTransmit, h.pending, h.inReset, h.entryEnd, h.progress, h.inputs, h.staging, h.active,
    h.generation, h.bars, h.levels, h.refillTimer, h.frontEnd, h.adc, h.mapper, h.keys, h.ctl, h.gate, h.sup,
    h.reports, h.arbiterCount, h.rx, h.inBreak, h.interByte, h.ready, h.replies, h.stalled, h.flags, h.followUp,
    h.repeatTimer, queue]

/-! ### The bytes of the frames (chapter 1) -/

theorem statusCode_eq (st : Status) : st.code =
    [Status.ok, .badKind, .badLength, .notPermitted, .noPolicy, .noChannel, .notEndpoint, .direction, .slotDenied,
      .slotBarred, .tooLong, .quota, .queueFull, .held, .locked, .busy, .staleGeneration, .invalidPolicy,
      .badParameter, .supplyLow, .tamperActive, .notActive, .noLayout].idxOf st := by
  cases st <;> rfl

theorem domainCode_eq (d : Domain) : domainCode d = [Domain.pay, .app, .rad].idxOf d := by cases d <;> rfl

theorem modeCode_eq (m : Mode) : m.code = [Mode.pin, .calibrate].idxOf m := by cases m <;> rfl

theorem outcomeCode_eq (o : SessionOutcome) : o.code =
    1 + [SessionOutcome.complete, .cancelled, .aborted, .timeoutFirst, .timeoutInter, .timeoutTotal, .videoLost,
      .supplyLow, .paySilent, .linkReset, .tamper].idxOf o := by
  cases o <;> rfl

theorem progressCode_eq (e : ProgressEvent) : e.code =
    1 + [ProgressEvent.presented, .accepted, .void, .full, .empty, .short].idxOf e := by
  cases e <;> rfl

theorem inputCode_eq (k : InputKind) : k.code =
    1 + [InputKind.down, .move, .up, .press, .release, .focusLost, .focusReturned].idxOf k := by
  cases k <;> rfl

theorem keyCode_eq (k : Option Key) :
    keyCode k = [none, some Key.cancel, some .clear, some .enter, some .fn].idxOf k := by
  rcases k with _ | k
  · rfl
  · cases k <;> rfl

/-! ### What a transmitter begins, and what it leaves -/

theorem beginSessionFrame_of_entryEnd {s : State} {e : EntryEnd} (h : s.entryEnd = some e) :
    beginSessionFrame .pay s = some (beginTx .pay .entryEnd e.frame s) := by
  simp only [beginSessionFrame, h]

theorem beginSessionFrame_of_progress {s : State} {p : Progress} {ps : List Progress} (he : s.entryEnd = none)
    (hp : s.progress = p :: ps) : beginSessionFrame .pay s = some (beginTx .pay .progress p.frame s) := by
  simp only [beginSessionFrame, he, hp]

theorem beginNotice_of_waiting {d : Domain} {s : State} (h : (s.box d).place = .waiting) :
    beginNotice d s = some (beginTx d .notice (noticeFrame (s.box d).flags)
      (s.setBox d { s.box d with place := .sending (s.box d).flags })) := by
  simp only [beginNotice, h]

theorem beginDelivery_of_choose {d : Domain} {s : State} {c : Class} {n : Nat} {e : Entry}
    (hc : (s.queue d).choose (s.active.weights.get d) = some (c, n)) (he : (s.queue d).oldest c = some e) :
    beginDelivery d s = some (beginTx d .delivery e.frame (s.setQueue d ((s.queue d).offer c n))) := by
  simp only [beginDelivery, hc, he]

theorem beginTx_box (d e : Domain) (src : Source) (f : Frame) (s : State) : (beginTx d src f s).box e = s.box e := rfl

theorem beginTx_queue (d e : Domain) (src : Source) (f : Frame) (s : State) :
    (beginTx d src f s).queue e = s.queue e := rfl

/-- A session frame touches no notice box and no delivery queue. -/
theorem beginSessionFrame_box_queue {d : Domain} {s t : State} (h : beginSessionFrame d s = some t) (e : Domain) :
    t.box e = s.box e ∧ t.queue e = s.queue e := by
  unfold beginSessionFrame at h
  split at h
  · split at h <;> cases h <;> exact ⟨rfl, rfl⟩
  · split at h <;> cases h
    exact ⟨rfl, rfl⟩
  · cases h

theorem beginNotice_lost {d : Domain} {s t : State} (h : beginNotice d s = some t) : t.lost = s.lost := by
  unfold beginNotice at h
  split at h <;> cases h
  rfl

theorem beginDelivery_lost {d : Domain} {s t : State} (h : beginDelivery d s = some t) : t.lost = s.lost := by
  unfold beginDelivery at h
  split at h
  · cases h
  · split at h <;> cases h
    rfl

/-- The oldest eligible entry of a list that is split at it, and the list once it is marked (R54, R55). -/
theorem markSending_split {older younger : List Entry} {e : Entry} (he : e.eligible = true)
    (ho : ∀ o ∈ older, o.eligible = false) :
    (older ++ e :: younger).find? Entry.eligible = some e ∧
      markSending (older ++ e :: younger) = older ++ { e with sending := true } :: younger := by
  induction older with
  | nil => exact ⟨List.find?_cons_of_pos he, by rw [List.nil_append, markSending, if_pos he]; rfl⟩
  | cons o os ih =>
    obtain ⟨found, marked⟩ := ih fun x hx => ho x (List.mem_cons_of_mem o hx)
    have skip : ¬o.eligible = true := by rw [ho o List.mem_cons_self]; decide
    rw [List.cons_append, List.find?_cons_of_neg skip, markSending, if_neg skip, marked]
    exact ⟨found, rfl⟩

theorem offer_entries_same (q : DeliveryQueue) (c : Class) (n : Nat) :
    (q.offer c n).entries.get c = markSending (q.entries.get c) := by
  simp [DeliveryQueue.offer, PerClass.get_set]

theorem offer_entries_other (q : DeliveryQueue) {c k : Class} (h : k ≠ c) (n : Nat) :
    (q.offer c n).entries.get k = q.entries.get k := by
  simp [DeliveryQueue.offer, PerClass.get_set, h]

theorem eligible_iff (e : Entry) : e.eligible = true ↔ e.held = false ∧ e.sending = false := by
  simp [Entry.eligible]

theorem eligible_eq_false_iff (e : Entry) : e.eligible = false ↔ e.held = true ∨ e.sending = true := by
  cases hh : e.held <;> cases hs : e.sending <;> simp [Entry.eligible, hh, hs]

/-! ### Link `d` at the end of a command -/

theorem finish_tx (d : Domain) (s : State) : ((finish s).port d).tx = ((choose d s).port d).tx := by
  rw [finish_port]

/-- A busy transmitter, or one whose ready input is deasserted, begins nothing (R12). -/
theorem finish_of_busy {d : Domain} {s : State} (h : (s.port d).tx ≠ none ∨ (s.port d).ready = .low) :
    ((finish s).port d).tx = (s.port d).tx ∧ ((finish s).box d).place = (s.box d).place ∧
      (finish s).queue d = s.queue d ∧ (d = .app → (finish s).lost = s.lost) := by
  rw [finish_tx, finish_box, finish_queue, choose_of_busy h]
  exact ⟨rfl, rfl, rfl, fun hd => by rw [finish_lost, choose_of_busy (hd ▸ h)]⟩

/-- A transmitter that began `f` from `src` has it in transmission. -/
theorem finish_tx_of_choose {d : Domain} {s : State} {src : Source} {f : Frame} {u : State}
    (h : choose d s = beginTx d src f u) :
    ((finish s).port d).tx = some ⟨src, f⟩ := by
  rw [finish_tx, h, beginTx_tx]

section Free

variable {d : Domain} {s : State} (free : (s.port d).tx = none) (ready : (s.port d).ready = .high)

include free ready

theorem finish_reply {r : Reply} {rs : List Reply} (h : (s.port d).replies = r :: rs) :
    ((finish s).port d).tx = some ⟨.reply, r.frame⟩ :=
  finish_tx_of_choose (choose_of_reply free ready h)

/-- The notice that waits (R162). -/
theorem finish_notice (hr : (s.port d).replies = []) (hs : beginSessionFrame d s = none)
    (hw : (s.box d).place = .waiting) :
    ((finish s).port d).tx = some ⟨.notice, noticeFrame (s.box d).flags⟩ ∧
      ((finish s).box d).place = .sending (s.box d).flags ∧ (finish s).queue d = s.queue d := by
  have begins := choose_of_notice free ready hr hs (beginNotice_of_waiting hw)
  rw [finish_tx, finish_box, finish_queue, begins, beginTx_tx, beginTx_box, State.box_setBox_same]
  exact ⟨rfl, rfl, rfl⟩

/-- The entry that the switch offers (R54, R55). -/
theorem finish_delivery (hr : (s.port d).replies = []) (hs : beginSessionFrame d s = none)
    (hn : (s.box d).place ≠ .waiting) {c : Class} {n : Nat} {e : Entry}
    (hc : (s.queue d).choose (s.active.weights.get d) = some (c, n)) (he : (s.queue d).oldest c = some e) :
    ((finish s).port d).tx = some ⟨.delivery, e.frame⟩ ∧ (finish s).queue d = (s.queue d).offer c n ∧
      ((finish s).box d).place = (s.box d).place := by
  have begins := choose_of_delivery free ready hr hs ((beginNotice_eq_none_iff d s).2 hn)
    (beginDelivery_of_choose hc he)
  rw [finish_tx, finish_box, finish_queue, begins, beginTx_tx, beginTx_queue, State.queue_setQueue_same]
  exact ⟨rfl, rfl, rfl⟩

/-- Nothing to begin. -/
theorem finish_nothing (hr : (s.port d).replies = []) (hs : beginSessionFrame d s = none)
    (hn : (s.box d).place ≠ .waiting) (hq : ∀ e ∈ (s.queue d).all, e.eligible = false) :
    choose d s = s :=
  choose_of_nothing free ready hr hs ((beginNotice_eq_none_iff d s).2 hn) ((beginDelivery_eq_none_iff d s).2 hq)

/-- Only a NOTICE and a DELIVERY touch the notice box and the delivery queue. -/
theorem choose_box_queue (h : (s.port d).replies ≠ [] ∨ beginSessionFrame d s ≠ none ∨
      (s.box d).place ≠ .waiting ∧ ∀ e ∈ (s.queue d).all, e.eligible = false) :
    (choose d s).box d = s.box d ∧ (choose d s).queue d = s.queue d := by
  cases hr : (s.port d).replies with
  | cons r rs => rw [choose_of_reply free ready hr]; exact ⟨rfl, rfl⟩
  | nil =>
    cases hs : beginSessionFrame d s with
    | some t => rw [choose_of_sessionFrame free ready hr hs]; exact beginSessionFrame_box_queue hs d
    | none =>
      rcases h with h | h | ⟨hn, hq⟩
      · exact absurd hr h
      · exact absurd hs h
      · rw [finish_nothing free ready hr hs hn hq]; exact ⟨rfl, rfl⟩

end Free

/-- Only an INPUT touches the lost mark (R99). -/
theorem choose_lost {s : State} (free : (s.port .app).tx = none) (ready : (s.port .app).ready = .high)
    (h : (s.port .app).replies ≠ [] ∨ s.inputs = []) : (choose .app s).lost = s.lost := by
  cases hr : (s.port .app).replies with
  | cons r rs => rw [choose_of_reply free ready hr]; rfl
  | nil =>
    have hs := beginSessionFrame_app_nil (h.resolve_left fun k => k hr)
    cases hn : beginNotice .app s with
    | some t => rw [choose_of_notice free ready hr hs hn]; exact beginNotice_lost hn
    | none =>
      cases hd : beginDelivery .app s with
      | some t => rw [choose_of_delivery free ready hr hs hn hd]; exact beginDelivery_lost hd
      | none => rw [choose_of_nothing free ready hr hs hn hd]

end Sys2Proof.Machine

open Sys2Proof Sys2Proof.Machine

/-- Settles O27: link `d` at the end of a command is as its own choice leaves it (`finish_sameLink`), and the choice takes
the places in the order of R14. -/
theorem transmittersChooseInOrder : Obligations.TransmittersChooseInOrder := by
  intro d s t pair status domain mode outcome progress input key bit data
  refine ⟨besideTransmit_of_transmit (finish_transmit s), finish_of_busy, fun free ready =>
    ⟨fun r rs hr => ?reply, fun hr hd e he => ?entryEnd, fun hr hd he p ps hp => ?progress,
      fun hr hd e es he => ?input, fun hr hpay happ => ?rest, fun h => ?untouched, fun hd h => ?lost⟩⟩
  case reply =>
    rw [finish_reply free ready hr, Reply.frame, statusCode_eq]
  case entryEnd =>
    subst hd
    rw [finish_tx_of_choose (choose_of_sessionFrame free ready hr (beginSessionFrame_of_entryEnd he)),
      EntryEnd.frame, outcomeCode_eq, modeCode_eq]
    cases e.data <;> rfl
  case progress =>
    subst hd
    rw [finish_tx_of_choose (choose_of_sessionFrame free ready hr (beginSessionFrame_of_progress he hp)),
      Progress.frame, progressCode_eq]
    rfl
  case input =>
    subst hd
    have begins := choose_of_sessionFrame free ready hr (beginSessionFrame_app_cons he)
    refine ⟨?_, by rw [finish_lost, begins]; rfl⟩
    rw [finish_tx_of_choose begins, InputEvent.frame, inputCode_eq, keyCode_eq]
    rfl
  case rest =>
    have hs : beginSessionFrame d s = none := (beginSessionFrame_eq_none_iff d s).2 ⟨hpay, happ⟩
    refine ⟨fun hw => finish_notice free ready hr hs hw, fun hn c n older e younger hc hsplit held sending hold => ?_,
      fun hn hq => ?_⟩
    · obtain ⟨found, marked⟩ := markSending_split (younger := younger) ((eligible_iff e).2 ⟨held, sending⟩)
        fun o ho => (eligible_eq_false_iff o).2 (hold o ho)
      obtain ⟨tx, queue, place⟩ := finish_delivery free ready hr hs hn hc
        (show (s.queue d).oldest c = some e by rw [DeliveryQueue.oldest, hsplit]; exact found)
      rw [tx, queue, Entry.frame, domainCode_eq]
      refine ⟨rfl, rfl, ?_, fun k hk => offer_entries_other _ hk n, place⟩
      rw [offer_entries_same, hsplit, marked]
    · rw [finish_tx, finish_nothing free ready hr hs hn fun e he => (eligible_eq_false_iff e).2 (hq e he), free]
  case untouched =>
    rw [finish_box, finish_queue]
    obtain ⟨box, queue⟩ := choose_box_queue free ready (by
      rw [Ne, Ne, beginSessionFrame_eq_none_iff]
      rcases h with h | ⟨hd, h⟩ | ⟨hd, h⟩ | ⟨hn, hq⟩
      · exact .inl h
      · refine .inr (.inl fun k => ?_)
        obtain ⟨noEnd, noProgress⟩ := k.1 hd
        exact h.elim (absurd noEnd) (absurd noProgress)
      · exact .inr (.inl fun k => h (k.2 hd))
      · exact .inr (.inr ⟨hn, fun e he => (eligible_eq_false_iff e).2 (hq e he)⟩))
    exact ⟨congrArg NoticeBox.place box, queue⟩
  case lost =>
    subst hd
    exact (finish_lost s).trans (choose_lost free ready h)
end

section
/-! PROOF. The full reset and its end (O3, O4; R18, R32, R47, R63, R79, R81, R90, R91, R101, R130, R146, R147, R151, R159,
R167). -/

namespace Sys2Proof.Machine

open Sys2Proof

/-- The output of a reset gate carries nothing (R146). -/
theorem gateReset_voutPins (vin : VideoPins) (k : Nat) (p : Option (Nat × Nat)) :
    (Gate.reset.voutPins vin k p).de = false ∧ (Gate.reset.voutPins vin k p).vsync = false ∧
      (Gate.reset.voutPins vin k p).hsync = false := ⟨rfl, rfl, rfl⟩

theorem fullReset_key (k : Key) (s : State) : (fullReset s).key k = SideKey.reset (s.key k).pin := by
  cases k <;> rfl

theorem fullReset_tamper (i : TamperInput) (s : State) :
    (fullReset s).tamper i = Tamper.reset (s.tamper i).pin (s.tamper i).filtered := by cases i <;> rfl

/-- During a full reset a command other than the resets and the pins does nothing (R18). -/
theorem exec_of_reset {s : State} (h : s.inReset = true) {c : Instr}
    (ready : ∀ d, c ≠ .readyAsserted d ∧ c ≠ .readyDeasserted d) (key : ∀ k l, c ≠ .keyInputChange k l)
    (tamper : ∀ i l, c ≠ .tamperPinChange i l) (reset : c ≠ .fullReset) (resetEnd : c ≠ .fullResetEnd) :
    exec c s = .next s := by
  cases c with
  | readyAsserted d => exact absurd rfl (ready d).1
  | readyDeasserted d => exact absurd rfl (ready d).2
  | keyInputChange k l => exact absurd rfl (key k l)
  | tamperPinChange i l => exact absurd rfl (tamper i l)
  | fullReset => exact absurd rfl reset
  | fullResetEnd => exact absurd rfl resetEnd
  | _ => rw [exec]; exact act_of_reset h _

end Sys2Proof.Machine

open Sys2Proof Sys2Proof.Machine

/-- Settles O3: the reset state block by block, and how little happens until the reset ends. -/
theorem fullResetPutsEveryBlockBack : Obligations.FullResetPutsEveryBlockBack := by
  refine ⟨fun s => ⟨fullReset s, rfl, rfl, rfl, rfl, rfl, rfl, rfl, rfl, rfl, fun d => ?notices, fun i => ?channels,
    fun i => ?slots, fun i => ?cells, fun i => ?glyphs, rfl, rfl, rfl, rfl, fun d => fullReset_port d s,
    fun d => fullReset_queue d s, fun d => fullReset_box d s, rfl, rfl, rfl, rfl, rfl, rfl, rfl, rfl, rfl,
    fun k => fullReset_key k s, rfl, rfl, rfl, rfl, gateReset_voutPins, rfl, rfl, rfl, rfl, fun i => ?tamper⟩,
    fun s h => ⟨fun d => ⟨?readyAsserted, ?readyDeasserted⟩, fun k l => ?key, fun i l => ?pin,
      fun c => exec_of_reset h⟩⟩
  case notices => cases d <;> exact ⟨rfl, rfl⟩
  case channels => simp [fullReset, Policy.default]
  case slots => simp [fullReset, Policy.default, Switch.reset]
  case cells => simp [fullReset, Policy.default]
  case glyphs => simp [fullReset, Policy.default]
  case tamper => rw [fullReset_tamper]; exact ⟨rfl, rfl, rfl, rfl⟩
  all_goals rw [exec]; exact actPin_of_reset h _ _
end

section
/-! PROOF. O4: the end of a full reset starts the part. -/

namespace Sys2Proof.Machine

open Sys2Proof

/-- A side key as the reset ends: an input that differs from the debounced level has its timer running (R90, R91). -/
theorem sideKey_awake_eq (k : SideKey) (debounce : Nat) :
    k.awake debounce = { k with timer :=
      if (k.pin = .low ↔ k.pressed = true) then .stopped
      else if k.timer.isRunning then k.timer else .running debounce } := by
  obtain ⟨pin, pressed, timer⟩ := k
  cases pin <;> cases pressed <;> simp [SideKey.awake, SideKey.input]

theorem requestSupply_of_free {s : State} (h : s.adc.use = .free) : requestSupply s = grantSupply s := if_pos h

/-- The blocks as the reset ends, before RESTARTED is set (R47, R91, R130, R147, R151). -/
def woken (s : State) : State :=
  { s with
    inReset := false
    switch := { s.switch with refillTimer := .running refillTime }
    keys := ⟨s.keys.cancel.awake s.active.debounce, s.keys.clear.awake s.active.debounce,
      s.keys.enter.awake s.active.debounce, s.keys.fn.awake s.active.debounce⟩
    gate := { s.gate with watch := .running watchTime }
    sup := { s.sup with
      tamper := ⟨s.sup.tamper.a.awake, s.sup.tamper.b.awake⟩, requestTimer := .running supplyTime }
    adc := ⟨.supply, false⟩ }

theorem endFullReset_eq {s : State} (h : s.adc.use = .free) :
    endFullReset s = setFlag .rad .restarted (setFlag .app .restarted (setFlag .pay .restarted (woken s))) := by
  simp only [endFullReset, allDomains, List.foldl]
  rw [requestSupply_of_free (by exact h)]
  rfl

theorem exec_fullResetEnd {s : State} (h : s.inReset = true) :
    exec .fullResetEnd s = .next (finish (endFullReset s)) := by
  rw [exec, execFullResetEnd, if_pos h]

/-- The part at the end of a full reset with the pins of log entry 5, before the stall timers are judged. -/
def State.resetUnjudged (s : State) : State :=
  { State.reset with
    ports := ⟨Port.reset .low, Port.reset .low, Port.reset .low⟩
    pending := s.pending
    arbiterCount := s.arbiterCount }

theorem woken_fullReset {s : State} (ready : ∀ d, (s.port d).ready = .low)
    (keys : ∀ k, (s.key k).pin = .high) (tamper : ∀ i, (s.tamper i).pin = .low) :
    woken (fullReset s) = { s.resetUnjudged with notices := PerDomain.all NoticeBox.blank } := by
  have pay : s.ports.pay.ready = .low := ready .pay
  have app : s.ports.app.ready = .low := ready .app
  have rad : s.ports.rad.ready = .low := ready .rad
  have cancel : s.keys.cancel.pin = .high := keys .cancel
  have clear : s.keys.clear.pin = .high := keys .clear
  have enter : s.keys.enter.pin = .high := keys .enter
  have fn : s.keys.fn.pin = .high := keys .fn
  have a : s.sup.tamper.a.pin = .low := tamper .a
  have b : s.sup.tamper.b.pin = .low := tamper .b
  simp only [woken, fullReset, pay, app, rad, cancel, clear, enter, fn, Tamper.reset, Tamper.awake, a, b]
  rfl

/-- Blank notice boxes, in the modes of the default policy, once RESTARTED is set for every domain (R18, R167). -/
theorem restartAll_eq {s : State} (blank : s.notices = PerDomain.all NoticeBox.blank)
    (modes : s.active.notices = PerDomain.all ⟨.edge, .onClear⟩) :
    setFlag .rad .restarted (setFlag .app .restarted (setFlag .pay .restarted s)) =
      { s with notices := PerDomain.all ⟨restartedOnly, .waiting, false, .stopped⟩ } := by
  have box : NoticeBox.blank.setFlag ⟨.edge, .onClear⟩ .restarted = ⟨restartedOnly, .waiting, false, .stopped⟩ := by
    decide
  simp only [setFlag, State.setBox, State.box, State.noticeMode, PerDomain.set, PerDomain.get, blank, modes,
    PerDomain.all, box]

theorem endFullReset_fullReset {s : State} (ready : ∀ d, (s.port d).ready = .low)
    (keys : ∀ k, (s.key k).pin = .high) (tamper : ∀ i, (s.tamper i).pin = .low) :
    endFullReset (fullReset s) = s.resetUnjudged := by
  rw [endFullReset_eq rfl, woken_fullReset ready keys tamper, restartAll_eq rfl rfl]
  rfl

/-- With every ready input deasserted no transmitter begins, and the stall timers of the NOTICEs waiting on APP and RAD
start (R13, R14). -/
theorem finish_resetUnjudged (s : State) :
    finish s.resetUnjudged = { State.reset with pending := s.pending, arbiterCount := s.arbiterCount } := by
  rfl

end Sys2Proof.Machine

open Sys2Proof Sys2Proof.Machine

/-- Settles O4: the blocks wake one by one, and the pins of log 5 leave no more than the stall timers to judge. -/
theorem fullResetEndStartsThePart : Obligations.FullResetEndStartsThePart := by
  refine ⟨fun s reset free => ?_, fun s ready keys tamper => ⟨fullReset s, rfl, ?_⟩⟩
  · intro key tamper awake
    have wakes : woken s = awake := by
      simp only [woken, sideKey_awake_eq]
      rfl
    rw [exec_fullResetEnd reset, endFullReset_eq free, wakes]
  · rw [exec_fullResetEnd rfl, endFullReset_fullReset ready keys tamper, finish_resetUnjudged]
end

section
/-! PROOF. O49: the part right after reset has every invariant. -/

namespace Sys2Proof.Machine

open Sys2Proof

/-- After reset the delivery queues are empty. -/
theorem reset_everyEntry (p : Domain → Entry → Prop) : State.reset.everyEntry p := by
  intro d _ e he
  cases d <;> exact absurd he List.not_mem_nil

theorem reset_bucketInv : State.reset.BucketInv := fullReset_bucketInv State.reset

theorem reset_bufferInv : State.reset.BufferInv :=
  ⟨fun _ => rfl, fun _ h => absurd h List.not_mem_nil, rfl⟩

theorem reset_capacityInv : State.reset.CapacityInv := by decide

/-- After reset the controller is OPEN, no session stands and no secure set is active or pending (R101). -/
theorem reset_sessionInv : State.reset.SessionInv := by decide

theorem reset_gateInv : State.reset.GateInv := by decide

theorem reset_lampRight : State.reset.LampRight := by decide

/-- After reset no frame is in transmission (R18). -/
theorem reset_transmitInv : State.reset.TransmitInv := by decide

/-- After reset RESTARTED waits for every domain, and APP and RAD have their stall timers running (R13, R18). -/
theorem reset_busyInv : State.reset.BusyInv := by decide

theorem reset_noticeInv : State.reset.NoticeInv := by decide

/-- The default policy has no OPEN channel and no cell, and its mapping is not degenerate (R32, R35). -/
theorem default_validate : Policy.default.validate = none := by decide

/-- The tables of the default policy repeat one record (R32). -/
theorem default_inRange : Policy.default.inRange := by
  refine ⟨fun i => ?channel, fun i => ?slot, fun i => ?cell, fun i => ?glyph, by decide⟩
  case channel => simp [Policy.default, Channel.inRange]
  case slot => simp [Policy.default, Slot.inRange]
  case cell => simp [Policy.default]
  case glyph => simp [Policy.default]

theorem reset_policyInv : State.reset.PolicyInv := ⟨default_validate, by decide⟩

theorem reset_panelInv : State.reset.PanelInv := by decide

theorem reset_rangeInv : State.reset.RangeInv := by decide

end Sys2Proof.Machine

open Sys2Proof Sys2Proof.Machine

/-- Settles O49: no queue holds anything, no session stands, and the default policy is valid and in its ranges. -/
theorem resetHasEveryInvariant : Obligations.ResetHasEveryInvariant :=
  ⟨reset_capacityInv, reset_bufferInv, reset_sessionInv, reset_gateInv, reset_lampRight, reset_bucketInv,
    reset_everyEntry _, reset_everyEntry _, fun _ => reset_everyEntry _, reset_transmitInv, reset_busyInv,
    reset_noticeInv, reset_policyInv, reset_panelInv, ⟨default_inRange, default_inRange⟩, reset_rangeInv⟩
end

section
/-! PROOF. O18 and O19: REVERT, the refusals of COMMIT, and the ten checks of validation (R33–R35). -/

namespace Sys2Proof.Machine

open Sys2Proof

/-! ### An executed request (R8–R10) -/

/-- A request that passes the port's checks and whose owner brings no report of the gate. -/
theorem exec_passed {c : Instr} {d : Domain} {f : Frame} {s u : State} {st : Status} {out : List Byte}
    (request : requestOf c = some (d, f)) (accepts : s.Accepts d) (passed : portCheck d f = none)
    (owner : ownerOf d f (s.arrived d) = (u, st, out)) (quiet : u.reports = []) :
    exec c s = .next (finish (u.answered d f st out)) := by
  rw [exec_request request]
  refine act_eq accepts.1.1 ((wholeFrame_of_accepts accepts f _).trans (execute_of_passed passed _ _)) ?_ |>.trans ?_
  · rw [owner]; exact quiet.trans accepts.1.1.2.symm
  · rw [owner]

/-! ### The first index that fails a check (R35) -/

theorem firstIndex_eq_some {n i : Nat} {bad : Nat → Bool} (hi : i < n) (h : bad i = true)
    (before : ∀ j, j < i → bad j = false) : firstIndex n bad = some i := by
  rw [firstIndex, List.find?_range_eq_some]
  exact ⟨h, List.mem_range.2 hi, fun j hj => by rw [before j hj]; rfl⟩

theorem firstIndex_eq_none {n : Nat} {bad : Nat → Bool} (h : ∀ i, i < n → bad i = false) : firstIndex n bad = none := by
  rw [firstIndex, List.find?_range_eq_none]
  exact fun i hi => by rw [h i hi]; rfl

/-- A check over the records in ascending index order (R35): the first index that it names decides, and where it names
none the checks after it do. -/
theorem firstIndex_check {n kind : Nat} {test : Nat → Bool} {bad : Nat → Prop} {later : Option (Nat × Nat)}
    (same : ∀ i, test i = true ↔ bad i) (bounded : ∀ i, bad i → i < n) :
    (∀ i, bad i → (∀ j, j < i → ¬bad j) →
      ((firstIndex n test).map fun i => (kind, i)).or later = some (kind, i)) ∧
    ((∀ i, ¬bad i) → ((firstIndex n test).map fun i => (kind, i)).or later = later) := by
  have passes : ∀ i, ¬bad i → test i = false := fun i h => Bool.eq_false_iff.2 fun k => h ((same i).1 k)
  refine ⟨fun i h before => ?_, fun none => ?_⟩
  · rw [firstIndex_eq_some (bounded i h) ((same i).2 h) fun j hj => passes j (before j hj)]; rfl
  · rw [firstIndex_eq_none fun i _ => passes i (none i)]; rfl

/-- A check on the set as a whole (R35). -/
theorem set_check {c bad : Prop} [Decidable c] {x : Nat × Nat} {later : Option (Nat × Nat)} (same : c ↔ bad) :
    (bad → (if c then some x else none).or later = some x) ∧ (¬bad → (if c then some x else none).or later = later) :=
  ⟨fun h => by rw [if_pos (same.2 h)]; rfl, fun h => by rw [if_neg (mt same.1 h)]; rfl⟩

/-- The ten checks of R35 in one row. -/
theorem validate_eq (p : Policy) : p.validate =
    ((firstIndex 32 (p.badChannel fun c => decide (c.endA = c.endB))).map fun i => (1, i)).or (
    ((firstIndex 32 (p.badChannel fun c => c.touchesApp && decide (c.mask.getD 0 = 0))).map fun i => (1, i)).or (
    (if p.presentCells ≠ [] ∧ (p.countRole .digit ≠ 10 ∨ p.countRole .enter ≠ 1) then some (3, 255) else none).or (
    (([Role.clear, .back, .cancel, .dots, .band].findSome? p.secondOf).map fun i => (3, i)).or (
    ((firstIndex 20 (p.cellIs fun c => !c.fits p.geometry)).map fun i => (3, i)).or (
    ((firstIndex 20 p.overlapsLower).map fun i => (3, i)).or (
    ((firstIndex 20
      (p.cellIs fun c => c.role.isTouch && !c.innerNonempty p.touch.guardMargin)).map fun i => (3, i)).or (
    (if p.mapping.determinant = 0 then some (7, 0) else none).or (
    (if p.touch.cOff < p.touch.cOn then some (6, 0) else none).or
    ((if p.supervision.warn < p.supervision.abort + 100 then some (8, 0) else none).or none))))))))) := by
  simp only [Policy.validate, validateChannels, validateCells, validateRecords, Option.orElse_eq_orElse,
    Option.orElse_eq_or, Option.or_assoc, Option.or_none]

/-! ### The records that the checks look at -/

theorem openChannel_eq_some {p : Policy} {i : Nat} {c : Channel} :
    openChannel p i = some c ↔ p.channels[i]? = some c ∧ c.state = .opened := by
  unfold openChannel
  cases h : p.channels[i]? with
  | none => simp
  | some o =>
    by_cases opened : o.state = .opened
    · simp only [opened, if_true, Option.some_inj]
      exact ⟨fun same => ⟨same, same ▸ opened⟩, fun same => same.1⟩
    · simp only [opened, if_false, Option.some_inj, false_iff, reduceCtorEq]
      rintro ⟨rfl, k⟩
      exact opened k

theorem badChannel_iff {p : Policy} {bad : Channel → Bool} {i : Nat} :
    p.badChannel bad i = true ↔ ∃ c, p.channels[i]? = some c ∧ c.state = .opened ∧ bad c = true := by
  unfold Policy.badChannel
  cases h : openChannel p i with
  | none =>
    refine ⟨fun k => (Bool.false_ne_true k).elim, ?_⟩
    rintro ⟨c, hc, opened, -⟩
    rw [openChannel_eq_some.2 ⟨hc, opened⟩] at h
    cases h
  | some c =>
    obtain ⟨hc, opened⟩ := openChannel_eq_some.1 h
    simp [hc, opened]

theorem cellIs_eq_any (p : Policy) (test : Cell → Bool) (i : Nat) :
    p.cellIs test i = (p.cells[i]?.getD none).any test := by
  unfold Policy.cellIs Policy.cell?
  split <;> simp_all

theorem cellIs_iff {p : Policy} {test : Cell → Bool} {i : Nat} :
    p.cellIs test i = true ↔ ∃ c, p.cells[i]? = some (some c) ∧ test c = true := by
  rw [cellIs_eq_any]
  rcases p.cells[i]? with _ | _ | c <;> simp

theorem index_lt_of_getElem? {α : Type} {n i : Nat} {v : Vector α n} {a : α} (h : v[i]? = some a) : i < n := by
  obtain ⟨hi, -⟩ := Vector.getElem?_eq_some_iff.1 h
  exact hi

theorem isTouch_iff (r : Role) :
    r.isTouch = true ↔ r = .digit ∨ r = .enter ∨ r = .clear ∨ r = .back ∨ r = .cancel := by
  cases r <;> simp [Role.isTouch]

/-- The cells of a policy by their indices. -/
theorem cells_toList (p : Policy) : p.cells.toList = (List.range 20).map fun i => p.cells[i]?.getD none := by
  refine List.ext_getElem (by simp) fun i hi _ => ?_
  have bound : i < 20 := by simpa using hi
  simp [bound]

theorem presentCells_eq (p : Policy) : p.presentCells = (List.range 20).filterMap fun i => p.cells[i]?.getD none := by
  rw [Policy.presentCells, cells_toList, List.filterMap_map]
  rfl

theorem presentCells_ne_nil {p : Policy} :
    p.presentCells ≠ [] ↔ ∃ (i : Nat) (c : Cell), p.cells[i]? = some (some c) := by
  rw [presentCells_eq, Ne, List.filterMap_eq_nil_iff]
  constructor
  · intro h
    by_contra none
    refine h fun i _ => ?_
    rcases hc : p.cells[i]? with _ | _ | c
    · rfl
    · rfl
    · exact absurd ⟨i, c, hc⟩ none
  · rintro ⟨i, c, hc⟩ h
    have absent := h i (List.mem_range.2 (index_lt_of_getElem? hc))
    rw [hc] at absent
    cases absent

/-- The indices of the present cells of a role. -/
def Policy.places (p : Policy) (r : Role) : List Nat :=
  (List.range 20).filter fun i => (p.cells[i]?.getD none).any fun c => decide (c.role = r)

theorem countRole_eq (p : Policy) (r : Role) : p.countRole r = (p.places r).length := by
  rw [Policy.countRole, presentCells_eq, List.countP_filterMap, Policy.places, ← List.countP_eq_length_filter]
  refine List.countP_congr fun i _ => ?_
  rcases p.cells[i]?.getD none with _ | c <;> simp

theorem secondOf_eq (p : Policy) (r : Role) : p.secondOf r = (p.places r)[1]? := by
  simp only [Policy.secondOf, cellIs_eq_any, Policy.places]

/-! ### The checks on rectangles (R35, checks 5 to 7) -/

theorem fits_iff (c : Cell) (g : Geometry) :
    (!c.fits g) = true ↔ ¬(c.x0 ≤ c.x1 ∧ c.x1 < g.w ∧ c.y0 ≤ c.y1 ∧ c.y1 < g.h) := by
  rw [Cell.fits, Bool.not_eq_true', decide_eq_false_iff_not, Nat.succ_le_iff, Nat.succ_le_iff]

/-- Two ranges share a point when the greater of their lower ends is one. -/
theorem exists_shared_iff (a b c d : Nat) :
    (∃ x, (a ≤ x ∧ x ≤ b) ∧ c ≤ x ∧ x ≤ d) ↔ max a c ≤ min b d := by
  constructor
  · rintro ⟨x, h⟩; omega
  · intro h; exact ⟨max a c, by omega⟩

theorem overlaps_iff (a b : Cell) :
    a.overlaps b = true ↔ ∃ x y : Nat,
      (a.x0 ≤ x ∧ x ≤ a.x1 ∧ a.y0 ≤ y ∧ y ≤ a.y1) ∧ (b.x0 ≤ x ∧ x ≤ b.x1 ∧ b.y0 ≤ y ∧ y ≤ b.y1) := by
  rw [Cell.overlaps, decide_eq_true_iff, ← exists_shared_iff, ← exists_shared_iff]
  constructor
  · rintro ⟨⟨x, hx⟩, y, hy⟩; exact ⟨x, y, by omega⟩
  · rintro ⟨x, y, h⟩; exact ⟨⟨x, by omega⟩, y, by omega⟩

theorem overlapsLower_iff (p : Policy) (j : Nat) :
    p.overlapsLower j = true ↔ ∃ b, p.cells[j]? = some (some b) ∧ b.role.isTouch = true ∧
      ∃ i, i < j ∧ ∃ a, p.cells[i]? = some (some a) ∧ a.role.isTouch = true ∧ a.overlaps b = true := by
  simp only [Policy.overlapsLower, cellIs_iff, Bool.and_eq_true, List.any_eq_true, List.mem_range]

theorem innerNonempty_iff (c : Cell) (g : Nat) :
    (c.role.isTouch && !c.innerNonempty g) = true ↔
      c.role.isTouch = true ∧ ¬(c.x0 + g + g ≤ c.x1 ∧ c.y0 + g + g ≤ c.y1) := by
  have twice : ∀ n, n + 2 * g = n + g + g := fun n => by omega
  rw [Bool.and_eq_true, Cell.innerNonempty, Bool.not_eq_true', decide_eq_false_iff_not, twice, twice]

end Sys2Proof.Machine

open Sys2Proof Sys2Proof.Machine

/-- Settles O18: the owner of REVERT, in the state that the frame's arrival leaves. -/
theorem revertCopiesTheActiveSet : Obligations.RevertCopiesTheActiveSet := by
  intro tag slot s accepts
  exact exec_passed rfl accepts rfl rfl accepts.1.1.2

/-- Settles O19: the three refusals of `runCommit` in the state that the frame's arrival leaves, and the ten checks of
`Policy.validate`, each with the records that it names. -/
theorem refusedCommitChangesNothing : Obligations.RefusedCommitChangesNothing := by
  refine ⟨?refusals, ?checks⟩
  case refusals =>
    intro tag slot lo hi s accepts answer expected
    have refuse : ∀ {st out}, runCommit [lo, hi] (s.arrived .pay) = (s.arrived .pay, st, out) → answer st out :=
      fun h => exec_passed rfl accepts rfl h accepts.1.1.2
    have word : wordAt [lo, hi] 0 = expected := by simp [wordAt, fieldAt, byteAt, expected]
    refine ⟨fun stale => refuse ?_, fun current notOpened notLocked => refuse ?_,
      fun kind index current idle invalid => refuse ?_⟩
    · exact if_pos (by rw [word]; exact stale)
    · rw [runCommit, if_neg (by rw [word]; exact not_not.2 current)]
      exact if_pos ⟨notOpened, notLocked⟩
    · rw [runCommit, if_neg (by rw [word]; exact not_not.2 current), if_neg (fun k => idle.elim k.1 k.2),
        show (s.arrived .pay).staging.validate = _ from invalid]
  case checks =>
    intro p channel cell touch places at1 at2 at3 excess at5 at6 g at7 at8 at9 at10 first none'
    have channelIff : ∀ (bad : Channel → Prop) (test : Channel → Bool), (∀ c, test c = true ↔ bad c) →
        ∀ i, p.badChannel test i = true ↔ channel bad i := fun bad test same i => by
      simp only [badChannel_iff, same, channel]
    have cellIff : ∀ (bad : Cell → Prop) (test : Cell → Bool), (∀ c, test c = true ↔ bad c) →
        ∀ i, p.cellIs test i = true ↔ cell bad i := fun bad test same i => by
      simp only [cellIs_iff, same, cell]
    have channelLt : ∀ bad i, channel bad i → i < 32 := fun _ _ ⟨_, h, _⟩ => index_lt_of_getElem? h
    have cellLt : ∀ bad i, cell bad i → i < 20 := fun _ _ ⟨_, h, _⟩ => index_lt_of_getElem? h
    have overlapLt : ∀ j, at6 j → j < 20 := fun j ⟨_, _, _, _, _, b, hb, _⟩ => index_lt_of_getElem? hb
    have check1 := channelIff (fun c => c.endA = c.endB) _ fun c => decide_eq_true_iff
    have check2 := channelIff (fun c => (c.endA = .app ∨ c.endB = .app) ∧ c.mask.getD 0 = 0)
      (fun c => c.touchesApp && decide (c.mask.getD 0 = 0)) fun c => by simp [Channel.touchesApp]
    have check3 : (p.presentCells ≠ [] ∧ (p.countRole .digit ≠ 10 ∨ p.countRole .enter ≠ 1)) ↔ at3 := by
      simp only [presentCells_ne_nil, countRole_eq, at3, cell, and_true]
      rfl
    have check4 : [Role.clear, .back, .cancel, .dots, .band].findSome? p.secondOf = excess := by
      simp only [funext (secondOf_eq p), excess]
      rfl
    have check5 := cellIff _ _ fun c => fits_iff c p.geometry
    have check6 : ∀ j, p.overlapsLower j = true ↔ at6 j := fun j => by
      simp only [overlapsLower_iff, at6, cell, touch, isTouch_iff, overlaps_iff]
      constructor
      · rintro ⟨b, hb, tb, i, hi, a, ha, ta, shared⟩; exact ⟨i, hi, a, ha, ta, b, hb, tb, shared⟩
      · rintro ⟨i, hi, a, ha, ta, b, hb, tb, shared⟩; exact ⟨b, hb, tb, i, hi, a, ha, ta, shared⟩
    have check7 := cellIff (fun c => touch c ∧ ¬(c.x0 + g + g ≤ c.x1 ∧ c.y0 + g + g ≤ c.y1))
      (fun c => c.role.isTouch && !c.innerNonempty g) fun c => by rw [innerNonempty_iff, isTouch_iff]
    refine ⟨fun i h before => (validate_eq p).trans ((firstIndex_check check1 (channelLt _)).1 i h before),
      fun n1 => ?_⟩
    have v1 := (validate_eq p).trans ((firstIndex_check check1 (channelLt _)).2 n1)
    refine ⟨fun i h before => v1.trans ((firstIndex_check check2 (channelLt _)).1 i h before), fun n2 => ?_⟩
    have v2 := v1.trans ((firstIndex_check check2 (channelLt _)).2 n2)
    refine ⟨fun h => v2.trans ((set_check check3).1 h), fun n3 => ?_⟩
    have v3 := v2.trans ((set_check check3).2 n3)
    rw [check4] at v3
    refine ⟨fun i h => by rw [v3, h]; rfl, fun n4 => ?_⟩
    have v4 := v3.trans (by rw [n4])
    refine ⟨fun i h before => v4.trans ((firstIndex_check check5 (cellLt _)).1 i h before), fun n5 => ?_⟩
    have v5 := v4.trans ((firstIndex_check check5 (cellLt _)).2 n5)
    refine ⟨fun i h before => v5.trans ((firstIndex_check check6 overlapLt).1 i h before), fun n6 => ?_⟩
    have v6 := v5.trans ((firstIndex_check check6 overlapLt).2 n6)
    refine ⟨fun i h before => v6.trans ((firstIndex_check check7 (cellLt _)).1 i h before), fun n7 => ?_⟩
    have v7 := v6.trans ((firstIndex_check check7 (cellLt _)).2 n7)
    refine ⟨fun h => v7.trans ((set_check Iff.rfl).1 h), fun n8 => ?_⟩
    have v8 := v7.trans ((set_check Iff.rfl).2 n8)
    refine ⟨fun h => v8.trans ((set_check Iff.rfl).1 h), fun n9 => ?_⟩
    have v9 := v8.trans ((set_check Iff.rfl).2 n9)
    exact ⟨fun h => v9.trans ((set_check Iff.rfl).1 h), fun n10 => v9.trans ((set_check Iff.rfl).2 n10)⟩
end

section
/-! PROOF. O41: the key actions (R111–R113), and the end of a session in SECURE on a running output (R115, R116). -/

namespace Sys2Proof.Machine

open Sys2Proof

/-! ### Accepted keys (R111, R112) -/

theorem Gate.write_pending (g : Gate) (o : OverlaySet) : (g.write o).1.pending = o := by
  unfold Gate.write
  dsimp only
  split
  · rfl
  · split <;> rfl

/-- An accepted key leaves the buffer `ds`, tells PAY its length, stops the first-key timer and starts the inter-key
timer; a new length brings a new secure set. -/
theorem accepted_fields (r : Session) (ds : List Nat) (s : State) :
    let u := pushProgress .accepted ds.length (setBuffer ds (acceptedKey r s))
    u.ctl = { s.ctl with buffer := ds, firstKey := .stopped, interKey := .running (1000 * r.interKey) } ∧
    u.progress = joinProgress s.progress ⟨s.ctl.session, .accepted, ds.length⟩ ∧
    (ds.length ≠ s.ctl.buffer.length → u.gate.pending = { s.gate.pending with dots := ds.length }) ∧
    (ds.length = s.ctl.buffer.length → u.gate = s.gate) ∧ u.entryEnd = s.entryEnd := by
  unfold setBuffer
  dsimp only
  by_cases same : ds.length = s.ctl.buffer.length
  · rw [if_pos (show _ = (acceptedKey r s).ctl.buffer.length from same)]
    exact ⟨rfl, rfl, fun h => absurd same h, fun _ => rfl, rfl⟩
  · rw [if_neg (show ¬_ = (acceptedKey r s).ctl.buffer.length from same)]
    exact ⟨rfl, rfl, fun _ => Gate.write_pending _ _, fun h => absurd h same, rfl⟩

theorem pressDigit_of_room {r : Session} {digit : Nat} {s : State} (room : s.ctl.buffer.length < r.maxLength) :
    pressDigit r digit s =
      let s1 := pushProgress .accepted (s.ctl.buffer ++ [digit]).length
        (setBuffer (s.ctl.buffer ++ [digit]) (acceptedKey r s))
      if s.ctl.buffer.length + 1 = r.maxLength ∧ r.autoEnter then endSession .complete s1 else s1 := by
  rw [List.length_append]
  exact if_pos room

theorem pressBack_of_digits {r : Session} {s : State} (h : s.ctl.buffer.length ≠ 0) :
    pressBack r s = pushProgress .accepted s.ctl.buffer.dropLast.length
      (setBuffer s.ctl.buffer.dropLast (acceptedKey r s)) := by
  rw [List.length_dropLast]
  exact if_neg h

/-! ### The end of a session in SECURE (R115, R116) -/

theorem endSession_of_secure {s : State} {r : Session} (secure : s.ctl.state = .secure) (record : s.ctl.record = some r)
    (o : SessionOutcome) : endSession o s = endSecure o r s := by
  rw [endSession, record]
  dsimp only
  rw [secure]

theorem removeOverlay_undisturbed (p : SessionPresentation) (s : State) :
    (removeOverlay p s).ctl = s.ctl ∧ (removeOverlay p s).inputs = s.inputs ∧ (removeOverlay p s).lost = s.lost := by
  unfold removeOverlay
  dsimp only
  split <;> exact ⟨rfl, rfl, rfl⟩

theorem endSecure_ctl (o : SessionOutcome) (r : Session) (s : State) :
    (endSecure o r s).ctl = { s.ctl.erased with state := .closing } := by
  have kept := (removeOverlay_undisturbed r.presentation (s.setCtl s.ctl.erased)).1
  exact congrArg (fun c : Controller => { c with state := .closing }) kept

theorem endSecure_entryEnd (o : SessionOutcome) (r : Session) (s : State) :
    (endSecure o r s).entryEnd = some ⟨s.ctl.session, o, r.mode,
      if r.mode = .pin then s.ctl.buffer.length else s.ctl.points.length,
      if o = .complete then (if r.mode = .pin then .digits s.ctl.buffer else .points s.ctl.points) else .absent⟩ := by
  have placed : (endSecure o r s).entryEnd = some (buildEnd o s.ctl r) := rfl
  rw [placed, buildEnd]
  cases mode : r.mode <;> rfl

/-- A running output writes the clear set without taking it at once, and reports nothing (R139, R141). -/
theorem write_clear_of_running {g : Gate} (running : g.stopped = false) :
    g.write OverlaySet.clear = ({ g with pending := OverlaySet.clear }, []) := by
  unfold Gate.write
  dsimp only
  rw [running, if_neg (fun h => Bool.false_ne_true h.2.1), if_neg]
  rintro ⟨-, h⟩
  cases h

theorem askFollow_gate (g : Gate) : g.askFollow = ({ g with timing :=
    if g.timing = .toLocal then .follow else if g.timing = .localTiming then .toFollow else g.timing }, []) := by
  obtain ⟨timing⟩ := g
  cases timing <;> rfl

theorem removeOverlay_of_running {s : State} (running : s.gate.stopped = false) (p : SessionPresentation) :
    (removeOverlay p s).gate = { s.gate with
      pending := OverlaySet.clear
      timing := if p = .full then
          (if s.gate.timing = .toLocal then .follow
            else if s.gate.timing = .localTiming then .toFollow else s.gate.timing)
        else s.gate.timing } ∧
    (removeOverlay p s).reports = s.reports := by
  have written : writeSet OverlaySet.clear s = s.setGate { s.gate with pending := OverlaySet.clear } := by
    rw [writeSet, gateDo, write_clear_of_running running, List.append_nil]; rfl
  unfold removeOverlay
  dsimp only
  rw [written]
  split
  · rw [askFollow, gateDo, askFollow_gate, List.append_nil]
    exact ⟨rfl, rfl⟩
  · exact ⟨rfl, rfl⟩

/-- The whole end of a session in SECURE on a running output. -/
theorem endSecure_endsAlone {s : State} {r : Session} (secure : s.ctl.state = .secure)
    (running : s.gate.stopped = false) (o : SessionOutcome) : s.EndsAlone r o (endSecure o r s) := by
  have waits : s.ctl.state = .secure ∧
      ¬((s.gate.timing = .follow ∧ s.gate.stopped = true) ∧ s.gate.active ≠ OverlaySet.clear) :=
    ⟨secure, fun h => by rw [running] at h; exact Bool.false_ne_true h.1.2⟩
  have halted : ¬(s.gate.timing = .follow ∧ s.gate.stopped = true) :=
    fun h => by rw [running] at h; exact Bool.false_ne_true h.2
  obtain ⟨-, inputs, lost⟩ := removeOverlay_undisturbed r.presentation (s.setCtl s.ctl.erased)
  obtain ⟨gate, reports⟩ := removeOverlay_of_running (s := s.setCtl s.ctl.erased) running r.presentation
  have notArming : s.ctl.state ≠ .arming := by rw [secure]; decide
  have undisturbed : Undisturbed s (endSecure o r s) :=
    ((((Undisturbed.setCtl s _).trans (.removeOverlay _ _)).trans (.entryEnd _ _)).trans (.setCtl _ _)).trans
      (.disarm _)
  refine ⟨⟨?_, ?_, ?_, rfl, fun _ => ⟨inputs, lost⟩, fun h => absurd waits h⟩, undisturbed.progress,
    undisturbed.notices, fun d => ?_, besideSession_of_only undisturbed.only reports⟩
  · rw [endSecure_entryEnd]
    simp only [secure, if_true, true_and]
  · rw [if_pos waits, endSecure_ctl]; rfl
  · rw [if_neg notArming, if_neg halted]; exact gate
  · have closing : (endSecure o r s).ctl.state ≠ .opened := by rw [endSecure_ctl]; exact fun h => by cases h
    rw [if_neg closing, State.queue, undisturbed.queues]; rfl

/-- A COMPLETE end of a PIN session in SECURE carries the digits and erases them (R115, R116). -/
theorem endSession_completes {s : State} {r : Session} (secure : s.ctl.state = .secure) (record : s.ctl.record = some r)
    (pin : r.mode = .pin) :
    (endSession .complete s).ctl.state = .closing ∧ (endSession .complete s).ctl.buffer = [] ∧
      (endSession .complete s).entryEnd =
        some ⟨s.ctl.session, .complete, .pin, s.ctl.buffer.length, .digits s.ctl.buffer⟩ := by
  rw [endSession_of_secure secure record, endSecure_ctl, endSecure_entryEnd, if_pos pin, if_pos rfl, if_pos pin, pin]
  exact ⟨rfl, rfl, rfl⟩

/-- The timers that an accepted key moves are stopped by the end of the session (R115). -/
theorem endSecure_acceptedKey (o : SessionOutcome) (r : Session) (s : State) :
    endSecure o r (acceptedKey r s) = endSecure o r s := rfl

theorem pressEnter_of_enough {r : Session} {s : State} (h : r.least ≤ s.ctl.buffer.length) :
    pressEnter r s = endSession .complete (acceptedKey r s) := if_pos h

end Sys2Proof.Machine

open Sys2Proof Sys2Proof.Machine

/-- Settles O41: an accepted key by `accepted_fields`, an end of the session by `endSecure_endsAlone`, the others as
their row of the table says. -/
theorem keyActionsFollowTheTable : Obligations.KeyActionsFollowTheTable := by
  intro r digit s n report accepted
  refine ⟨fun room notLast => ?_, fun full => if_neg (Nat.not_lt.2 full), fun digits => ?_, fun empty => ?_,
    accepted_fields r [] s, fun short => if_neg (Nat.not_le.2 short), ?cells, ?ends⟩
  · rw [pressDigit_of_room room]
    dsimp only
    rw [if_neg fun h => by rw [notLast h.1] at h; exact Bool.false_ne_true h.2]
    exact accepted_fields r _ s
  · rw [pressBack_of_digits digits]
    exact accepted_fields r _ s
  · exact if_pos empty
  case cells =>
    intro i c here rank
    refine ⟨fun role => ?_, fun role => ?_, fun role => ?_, fun role => ?_, fun role => ?_⟩
    all_goals simp only [pressCell, here, role]
    rfl
  case ends =>
    intro secure record pin completed
    refine ⟨fun enough => ?_, fun room last auto => ?_, fun running => ⟨fun o => ?_, fun enough => ?_⟩, ?_⟩
    · rw [pressEnter_of_enough enough]
      exact endSession_completes (s := acceptedKey r s) secure record pin
    · have ctl := (accepted_fields r (s.ctl.buffer ++ [digit]) s).1
      rw [pressDigit_of_room room]
      dsimp only at ctl ⊢
      rw [if_pos ⟨last, auto⟩]
      have ends := endSession_completes (s := pushProgress .accepted (s.ctl.buffer ++ [digit]).length
        (setBuffer (s.ctl.buffer ++ [digit]) (acceptedKey r s))) (by rw [ctl]; exact secure) (by rw [ctl]; exact record)
        pin
      rwa [ctl] at ends
    · rw [endSession_of_secure secure record]
      exact endSecure_endsAlone secure running o
    · rw [pressEnter_of_enough enough, endSession_of_secure (s := acceptedKey r s) secure record, endSecure_acceptedKey]
      exact endSecure_endsAlone secure running .complete
    · rw [endSession_of_secure secure record, endSecure_entryEnd, if_pos pin, if_neg (by decide), pin]
end

section
/-! PROOF. The walk of a LOAD body and the staging of its records (R21, R22). -/

namespace Sys2Proof.Machine

open Sys2Proof

/-! ### The effect of a LOAD -/

/-- What a LOAD makes of a staging set: the set after it, its status and its result (R21, R22). -/
def loadedSet (p : Policy) (body : List Byte) : Policy × Status × List Byte :=
  if byteAt body 0 = 0 ∨ 16 < byteAt body 0 then (p, .badParameter, [])
  else
    match walkRecords (byteAt body 0) (body.drop 1) with
    | .badLength => (p, .badLength, [])
    | .located rs u =>
      ((stageRecords p rs).1, .ok, byte (byteAt body 0) :: ((stageRecords p rs).2 ++ unlocatedReports u))

/-- A LOAD changes the staging set alone, and looks at no other field. -/
theorem runLoad_eq (body : List Byte) (s : State) :
    runLoad body s = ({ s with staging := (loadedSet s.staging body).1 }, (loadedSet s.staging body).2) := by
  unfold runLoad loadedSet
  dsimp only
  split
  · rfl
  · split <;> simp_all

theorem loadedSet_of_badCount {p : Policy} {body : List Byte} (h : byteAt body 0 = 0 ∨ 16 < byteAt body 0) :
    loadedSet p body = (p, .badParameter, []) := if_pos h

theorem loadedSet_of_short {p : Policy} {body : List Byte} (h : ¬(byteAt body 0 = 0 ∨ 16 < byteAt body 0))
    (walk : walkRecords (byteAt body 0) (body.drop 1) = .badLength) : loadedSet p body = (p, .badLength, []) := by
  rw [loadedSet, if_neg h, walk]

theorem loadedSet_of_located {p : Policy} {body : List Byte} {rs : List RawRecord} {u : Nat}
    (h : ¬(byteAt body 0 = 0 ∨ 16 < byteAt body 0))
    (walk : walkRecords (byteAt body 0) (body.drop 1) = .located rs u) :
    loadedSet p body =
      ((stageRecords p rs).1, .ok, byte (byteAt body 0) :: ((stageRecords p rs).2 ++ unlocatedReports u)) := by
  rw [loadedSet, if_neg h, walk]

/-! ### How many records a walk finds -/

/-- A walk that locates its records accounts for every one that the count names (R21). -/
theorem walkRecords_count {n u : Nat} {body : List Byte} {rs : List RawRecord}
    (h : walkRecords n body = .located rs u) : rs.length + u = n := by
  induction n generalizing body rs u with
  | zero =>
    unfold walkRecords at h
    split at h <;> cases h
    rfl
  | succ n ih =>
    cases body with
    | nil => cases h
    | cons k rest =>
      unfold walkRecords at h
      split at h
      · cases h; exact Nat.zero_add _
      · split at h
        · cases h
        · split at h
          · cases h
          · rename_i found
            cases h
            rw [List.length_cons, Nat.succ_add, ih found]

theorem report_length (j : Judged) : j.report.length = 2 := by
  cases j with
  | refused reason => rfl
  | staged p n => cases n <;> rfl

theorem stageRecords_length (p : Policy) (rs : List RawRecord) : (stageRecords p rs).2.length = 2 * rs.length := by
  induction rs generalizing p with
  | nil => rfl
  | cons r rs ih =>
    simp only [stageRecords, List.length_append, List.length_cons, report_length, ih]
    omega

theorem unlocatedReports_length (n : Nat) : (unlocatedReports n).length = 2 * n := by
  cases n with
  | zero => rfl
  | succ n =>
    simp only [unlocatedReports, List.length_append, List.length_cons, List.length_nil, List.length_flatten,
      List.map_replicate, List.sum_replicate, smul_eq_mul]
    omega

/-- The three answers of a LOAD: BAD_PARAMETER exactly for a count of 0 or over 16, BAD_LENGTH, or OK with two bytes for
each record; a refused one stages nothing. -/
theorem loadedSet_answers (p : Policy) (body : List Byte) :
    ((loadedSet p body).2.1 = .ok ∨ (loadedSet p body).2.1 = .badParameter ∨ (loadedSet p body).2.1 = .badLength) ∧
    ((loadedSet p body).2.1 = .badParameter ↔ byteAt body 0 = 0 ∨ 16 < byteAt body 0) ∧
    ((loadedSet p body).2.1 ≠ .ok → (loadedSet p body).1 = p ∧ (loadedSet p body).2.2 = []) ∧
    ((loadedSet p body).2.1 = .ok → (loadedSet p body).2.2.length = 1 + 2 * byteAt body 0) := by
  by_cases bad : byteAt body 0 = 0 ∨ 16 < byteAt body 0
  · rw [loadedSet_of_badCount bad]
    exact ⟨.inr (.inl rfl), ⟨fun _ => bad, fun _ => rfl⟩, fun _ => ⟨rfl, rfl⟩, fun h => by cases h⟩
  · cases walk : walkRecords (byteAt body 0) (body.drop 1) with
    | badLength =>
      rw [loadedSet_of_short bad walk]
      exact ⟨.inr (.inr rfl), ⟨(fun h => by cases h), fun h => absurd h bad⟩, fun _ => ⟨rfl, rfl⟩, fun h => by cases h⟩
    | located rs u =>
      rw [loadedSet_of_located bad walk]
      refine ⟨.inl rfl, ⟨(fun h => by cases h), fun h => absurd h bad⟩, fun h => absurd rfl h, fun _ => ?_⟩
      have count := walkRecords_count walk
      simp only [List.length_cons, List.length_append, stageRecords_length, unlocatedReports_length]
      omega

/-! ### The record kinds (R21, R22) -/

/-- The codes of record kinds (chapter 2, RECORD LAYOUTS). -/
abbrev KnownKind (k : Byte) : Prop := 1 ≤ k.toNat ∧ k.toNat ≤ 11

/-- The field bytes of a kind by its code. -/
def kindWidth (k : Byte) : Nat := [9, 5, 17, 160, 8, 12, 20, 8, 1, 2, 1].getD (k.toNat - 1) 0

/-- How many indices a kind has, by its code. -/
def kindIndices (k : Byte) : Nat := [32, 8, 20, 64, 1, 1, 1, 1, 1, 3, 3].getD (k.toNat - 1) 0

theorem recordKindOf_of_known {k : Byte} (h : KnownKind k) :
    ∃ kind, recordKindOf k.toNat = some kind ∧ kind.fieldBytes = kindWidth k ∧ kind.indices = kindIndices k := by
  obtain ⟨lo, hi⟩ := h
  unfold kindWidth kindIndices
  generalize k.toNat = n at lo hi
  interval_cases n <;> exact ⟨_, rfl, rfl, rfl⟩

theorem recordKindOf_of_unknown {k : Byte} (h : ¬KnownKind k) : recordKindOf k.toNat = none := by
  unfold KnownKind at h
  generalize k.toNat = n at h
  rcases Nat.eq_zero_or_pos n with rfl | pos
  · rfl
  · obtain ⟨m, rfl⟩ := Nat.exists_eq_add_of_le' (show 12 ≤ n by omega)
    rfl

/-! ### The walk, one record at a time (R21) -/

theorem byteAt_byte {n : Nat} (h : n ≤ 255) (rest : List Byte) : byteAt (byte n :: rest) 0 = n := by
  simp [byteAt, byte]
  omega

theorem walkRecords_unknown {k : Byte} (h : ¬KnownKind k) (n : Nat) (rest : List Byte) :
    walkRecords (n + 1) (k :: rest) = .located [] (n + 1) := by
  rw [walkRecords, recordKindOf_of_unknown h]

theorem walkRecords_cut {k : Byte} (h : KnownKind k) (n : Nat) {rest : List Byte}
    (short : rest.length < kindWidth k + 1) : walkRecords (n + 1) (k :: rest) = .badLength := by
  obtain ⟨kind, code, bytes, -⟩ := recordKindOf_of_known h
  rw [walkRecords, code]
  exact if_pos (by rw [bytes]; exact short)

/-- A record put before others: it is located first, and the walk goes on behind it. -/
def Walk.before (r : RawRecord) : Walk → Walk
  | .badLength => .badLength
  | .located rs u => .located (r :: rs) u

theorem walkRecords_cons {k : Byte} {kind : RecordKind} (code : recordKindOf k.toNat = some kind) (n : Nat) (i : Byte)
    {f : List Byte} (width : f.length = kind.fieldBytes) (rest : List Byte) :
    walkRecords (n + 1) (k :: i :: (f ++ rest)) = (walkRecords n rest).before ⟨kind, i.toNat, f⟩ := by
  have fits : ¬(i :: (f ++ rest)).length < kind.fieldBytes + 1 := by
    rw [List.length_cons, List.length_append]; omega
  have behind : (i :: (f ++ rest)).drop (kind.fieldBytes + 1) = rest := by
    rw [List.drop_succ_cons, ← width, List.drop_left]
  have fields : ((i :: (f ++ rest)).drop 1).take kind.fieldBytes = f := by
    rw [List.drop_succ_cons, List.drop_zero, ← width, List.take_left]
  rw [walkRecords, code]
  dsimp only
  rw [if_neg fits, behind, fields]
  cases walkRecords n rest <;> rfl

/-! ### LOAD bodies -/

theorem count_fits {n : Nat} (lo : 1 ≤ n) (hi : n ≤ 16) (rest : List Byte) :
    byteAt (byte n :: rest) 0 = n ∧ ¬(byteAt (byte n :: rest) 0 = 0 ∨ 16 < byteAt (byte n :: rest) 0) := by
  have count : byteAt (byte n :: rest) 0 = n := byteAt_byte (by omega) rest
  exact ⟨count, by rw [count]; omega⟩

theorem unlocatedReports_succ (n : Nat) :
    unlocatedReports (n + 1) = 2 :: 1 :: (List.replicate n [2, 4]).flatten := rfl

theorem loadedSet_unknown {n : Nat} {k : Byte} (lo : 1 ≤ n) (hi : n ≤ 16) (h : ¬KnownKind k) (p : Policy)
    (rest : List Byte) :
    loadedSet p (byte n :: k :: rest) =
      (p, .ok, byte n :: 2 :: 1 :: (List.replicate (n - 1) [2, 4]).flatten) := by
  obtain ⟨count, fits⟩ := count_fits lo hi (k :: rest)
  obtain ⟨m, rfl⟩ : ∃ m, n = m + 1 := ⟨n - 1, by omega⟩
  have walk : walkRecords (byteAt (byte (m + 1) :: k :: rest) 0) (k :: rest) = .located [] (m + 1) := by
    rw [count]; exact walkRecords_unknown h m rest
  rw [loadedSet_of_located fits walk, count, unlocatedReports_succ]
  rfl

/-- A walk that a body breaks off. -/
theorem loadedSet_badLength {n : Nat} (lo : 1 ≤ n) (hi : n ≤ 16) (p : Policy) {rest : List Byte}
    (walk : walkRecords n rest = .badLength) : loadedSet p (byte n :: rest) = (p, .badLength, []) := by
  obtain ⟨count, fits⟩ := count_fits lo hi rest
  exact loadedSet_of_short fits (by rw [count]; exact walk)

theorem walkRecords_missing {n : Nat} (lo : 1 ≤ n) : walkRecords n [] = .badLength := by
  obtain ⟨m, rfl⟩ : ∃ m, n = m + 1 := ⟨n - 1, by omega⟩
  rfl

theorem walkRecords_leftOver {rest : List Byte} (h : rest ≠ []) : walkRecords 0 rest = .badLength := if_neg h

section OneRecord

variable {k : Byte} {kind : RecordKind} {f : List Byte} (code : recordKindOf k.toNat = some kind)
  (width : f.length = kind.fieldBytes)

include code width

theorem loadedSet_single (p : Policy) (i : Byte) :
    loadedSet p (1 :: k :: i :: f) =
      ((judgeRecord p ⟨kind, i.toNat, f⟩).policy p, .ok, 1 :: (judgeRecord p ⟨kind, i.toNat, f⟩).report) := by
  obtain ⟨-, fits⟩ := count_fits (n := 1) (by decide) (by decide) (k :: i :: f)
  have walk : walkRecords 1 (k :: i :: f) = .located [⟨kind, i.toNat, f⟩] 0 := by
    have located := walkRecords_cons code 0 i width []
    rw [List.append_nil] at located
    exact located
  have loaded : loadedSet p (1 :: k :: i :: f) = _ := loadedSet_of_located fits walk
  rw [loaded]
  simp only [stageRecords, unlocatedReports, List.append_nil]
  rfl

theorem loadedSet_leftOver (p : Policy) (i : Byte) {extra : List Byte} (h : extra ≠ []) :
    loadedSet p (1 :: k :: i :: (f ++ extra)) = (p, .badLength, []) := by
  refine loadedSet_badLength (n := 1) (by decide) (by decide) p ?_
  rw [walkRecords_cons code 0 i width, walkRecords_leftOver h]
  rfl

/-- A record before others (R21): it is staged first and its report comes first; where the others are refused, it is
not staged either. -/
theorem loadedSet_cons {n : Nat} (lo : 1 ≤ n) (hi : n ≤ 15) (p : Policy) (i : Byte) (rest : List Byte) :
    loadedSet p (byte (n + 1) :: k :: i :: (f ++ rest)) =
      let a := loadedSet p (1 :: k :: i :: f)
      let b := loadedSet a.1 (byte n :: rest)
      if b.2.1 = .ok then (b.1, .ok, byte (n + 1) :: (a.2.2.drop 1 ++ b.2.2.drop 1)) else (p, b.2.1, []) := by
  rw [loadedSet_single code width]
  dsimp only
  obtain ⟨count, fits⟩ := count_fits (n := n + 1) (by omega) (by omega) (k :: i :: (f ++ rest))
  obtain ⟨countRest, fitsRest⟩ := count_fits lo (by omega) rest
  have walk : walkRecords (n + 1) (k :: i :: (f ++ rest)) = (walkRecords n rest).before ⟨kind, i.toNat, f⟩ :=
    walkRecords_cons code n i width rest
  cases others : walkRecords n rest with
  | badLength =>
    rw [others] at walk
    rw [loadedSet_badLength lo (by omega) _ others, loadedSet_badLength (by omega) (by omega) p walk]
    rfl
  | located rs u =>
    rw [others] at walk
    rw [loadedSet_of_located fitsRest (rs := rs) (u := u) (by rw [countRest]; exact others),
      loadedSet_of_located fits (rs := ⟨kind, i.toNat, f⟩ :: rs) (u := u) (by rw [count]; exact walk), count]
    simp only [stageRecords, List.append_assoc]
    rfl

end OneRecord

end Sys2Proof.Machine
end

section
/-! PROOF. O17: LOAD stages its records (R21–R31), each kind with its codes, its clamps and its report. -/

namespace Sys2Proof.Machine

open Sys2Proof

/-! ### Enumeration codes (R22): a code is its place in the list of the values -/

theorem channelStateOf_eq (n : Nat) : channelStateOf n = [ChannelState.unused, .opened][n]? := by
  match n with
  | 0 | 1 | _ + 2 => rfl

theorem domainOf_eq (n : Nat) : domainOf n = [Domain.pay, .app, .rad][n]? := by
  match n with
  | 0 | 1 | 2 | _ + 3 => rfl

theorem directionOf_eq (n : Nat) : directionOf n = [Direction.aToB, .bToA, .both][n]? := by
  match n with
  | 0 | 1 | 2 | _ + 3 => rfl

theorem classOf_eq (n : Nat) : classOf n = [Class.priority, .bulk][n]? := by
  match n with
  | 0 | 1 | _ + 2 => rfl

theorem holdOf_eq (n : Nat) : holdOf n = [HoldPolicy.pass, .hold, .refuse][n]? := by
  match n with
  | 0 | 1 | 2 | _ + 3 => rfl

theorem yesNoOf_eq (n : Nat) : yesNoOf n = [false, true][n]? := by
  match n with
  | 0 | 1 | _ + 2 => rfl

theorem senseOf_eq (n : Nat) : senseOf n = [Sense.disabled, .tripLow, .tripHigh, .tripChange][n]? := by
  match n with
  | 0 | 1 | 2 | 3 | _ + 4 => rfl

theorem reportModeOf_eq (n : Nat) : reportModeOf n = [ReportMode.edge, .repeated][n]? := by
  match n with
  | 0 | 1 | _ + 2 => rfl

theorem clearModeOf_eq (n : Nat) : clearModeOf n = [ClearMode.onReport, .onClear][n]? := by
  match n with
  | 0 | 1 | _ + 2 => rfl

theorem roleOf_eq (n : Nat) : roleOf n =
    [none, some Role.digit, some .enter, some .clear, some .back, some .cancel, some .dots, some .band,
      some .label][n]? := by
  match n with
  | 0 | 1 | 2 | 3 | 4 | 5 | 6 | 7 | 8 | _ + 9 => rfl

/-- A listed code names its value. -/
theorem getElem?_of_listed {α : Type} {l : List α} {n : Nat} (h : n < l.length) (d : α) :
    l[n]? = some (l.getD n d) := by
  rw [List.getD_eq_getElem?_getD, List.getElem?_eq_getElem h, Option.getD_some]

theorem lt_of_listed {α : Type} {l : List α} {n : Nat} {a : α} (h : l[n]? = some a) : n < l.length := by
  obtain ⟨hn, -⟩ := List.getElem?_eq_some_iff.1 h
  exact hn

theorem yesNoOf_of_le {n : Nat} (h : n ≤ 1) : yesNoOf n = some (decide (n = 1)) := by
  interval_cases n <;> rfl

theorem roleOf_of_pos {n : Nat} (pos : n ≠ 0) (h : n ≤ 8) :
    roleOf n = some (some
      ([Role.digit, .enter, .clear, .back, .cancel, .dots, .band, .label].getD (n - 1) .label)) := by
  have := Nat.pos_of_ne_zero pos
  interval_cases n <;> rfl

/-! ### Numbers (R22, R3) -/

theorem wordAt_eq (f : List Byte) (o : Nat) : wordAt f o = byteAt f o + 256 * byteAt f (o + 1) := rfl

theorem clamp_eq {lo hi : Nat} (h : lo ≤ hi) (v : Nat) :
    clamp lo hi v = if v < lo then lo else if hi < v then hi else v := by
  unfold clamp
  split
  · omega
  · split <;> omega

theorem min_eq_clamped (hi v : Nat) : min hi v = if v < 0 then 0 else if hi < v then hi else v := by
  rw [if_neg (Nat.not_lt_zero v)]
  split <;> omega

theorem colourOutside_eq (f : List Byte) (o : Nat) :
    colourOutside f o = decide (63 < byteAt f o ∨ 63 < byteAt f (o + 1) ∨ 63 < byteAt f (o + 2)) := by
  simp only [colourOutside, outside, Nat.not_lt_zero, false_or, ← Bool.decide_or, or_assoc]

/-- A field of `n` bytes in two's complement is the integer of the bit vector that those bytes spell. -/
theorem toSigned_toNat {w n : Nat} (pos : 0 < n) (width : w = 8 * n) (v : BitVec w) : toSigned n v.toNat = v.toInt := by
  subst width
  have half : 2 ^ (8 * n) = 2 * 2 ^ (8 * n - 1) := by
    rw [← Nat.pow_succ', Nat.succ_eq_add_one]; congr 1; omega
  rw [toSigned, BitVec.toInt_eq_toNat_cond]
  by_cases h : v.toNat < 2 ^ (8 * n - 1)
  · rw [if_pos h, if_pos (by omega)]
  · rw [if_neg h, if_neg (by omega)]
    push_cast
    rfl

theorem toNat_append_byte {w : Nat} (v : BitVec w) (b : Byte) : (v ++ b).toNat = b.toNat + 256 * v.toNat := by
  rw [BitVec.toNat_append, ← Nat.shiftLeft_add_eq_or_of_lt b.isLt, Nat.shiftLeft_eq]
  omega

theorem signedAt_three (f : List Byte) (o : Nat) :
    signedAt f o 3 = (f.getD (o + 2) 0 ++ f.getD (o + 1) 0 ++ f.getD o 0 : BitVec 24).toInt := by
  rw [signedAt, ← toSigned_toNat (n := 3) (by decide) rfl]
  exact congrArg (toSigned 3)
    ((toNat_append_byte _ _).trans (congrArg (fun x => byteAt f o + 256 * x) (toNat_append_byte _ _))).symm

theorem signedAt_four (f : List Byte) (o : Nat) :
    signedAt f o 4 =
      (f.getD (o + 3) 0 ++ f.getD (o + 2) 0 ++ f.getD (o + 1) 0 ++ f.getD o 0 : BitVec 32).toInt := by
  rw [signedAt, ← toSigned_toNat (n := 4) (by decide) rfl]
  refine congrArg (toSigned 4) (Eq.symm ((toNat_append_byte _ _).trans ?_))
  exact congrArg (fun x => byteAt f o + 256 * x)
    ((toNat_append_byte _ _).trans (congrArg (fun x => byteAt f (o + 1) + 256 * x) (toNat_append_byte _ _)))

/-! ### Reports (R22) -/

theorem firstClamped_eq (l : List (Nat × Bool)) : firstClamped l = ((l.find? fun x => x.2).map Prod.fst).getD 0 := by
  induction l with
  | nil => rfl
  | cons x l ih =>
    obtain ⟨n, c⟩ := x
    cases c
    · exact ih
    · rfl

theorem report_of_noClamp {l : List (Nat × Bool)} (h : l.find? (fun x => x.2) = none) (q : Policy) :
    (Judged.staged q (firstClamped l)).report = [0, 0] := by
  rw [firstClamped_eq, h]; rfl

theorem report_of_clamp {l : List (Nat × Bool)} {x : Nat × Bool} (h : l.find? (fun x => x.2) = some x) (pos : x.1 ≠ 0)
    (q : Policy) : (Judged.staged q (firstClamped l)).report = [1, byte x.1] := by
  rw [firstClamped_eq, h]
  obtain ⟨m, hm⟩ := Nat.exists_eq_succ_of_ne_zero pos
  simp only [Option.map_some, Option.getD_some, hm]
  rfl

/-! ### Codes that are not listed (R22, step 2) -/

theorem judgeChannel_of_unlisted {f : List Byte}
    (h : ¬(byteAt f 0 ≤ 1 ∧ byteAt f 1 ≤ 2 ∧ byteAt f 2 ≤ 2 ∧ byteAt f 3 ≤ 2 ∧ byteAt f 4 ≤ 1 ∧ byteAt f 8 ≤ 2))
    (p : Policy) (index : Nat) : judgeChannel p index f = .refused badEnum := by
  unfold judgeChannel
  rw [channelStateOf_eq, domainOf_eq, domainOf_eq, directionOf_eq, classOf_eq, holdOf_eq]
  split
  · rename_i h0 h1 h2 h3 h4 h8
    have l0 := lt_of_listed h0
    have l1 := lt_of_listed h1
    have l2 := lt_of_listed h2
    have l3 := lt_of_listed h3
    have l4 := lt_of_listed h4
    have l8 := lt_of_listed h8
    simp only [List.length_cons, List.length_nil] at l0 l1 l2 l3 l4 l8
    exact absurd (by omega) h
  · rfl

theorem judgeSlot_of_unlisted {f : List Byte} (h : ¬byteAt f 0 ≤ 1) (p : Policy) (index : Nat) :
    judgeSlot p index f = .refused badEnum := by
  unfold judgeSlot
  rw [yesNoOf_eq, List.getElem?_eq_none (by simp only [List.length_cons, List.length_nil]; omega)]

theorem judgeCell_of_unlisted {f : List Byte} (h : ¬(byteAt f 0 ≤ 8 ∧ byteAt f 15 ≤ 1)) (p : Policy) (index : Nat) :
    judgeCell p index f = .refused badEnum := by
  unfold judgeCell
  rw [roleOf_eq, yesNoOf_eq]
  split
  · rename_i h0 h15
    have l0 := lt_of_listed h0
    have l15 := lt_of_listed h15
    simp only [List.length_cons, List.length_nil] at l0 l15
    exact absurd (by omega) h
  · rename_i h0 h15
    have l0 := lt_of_listed h0
    have l15 := lt_of_listed h15
    simp only [List.length_cons, List.length_nil] at l0 l15
    exact absurd (by omega) h
  · rfl

theorem judgeSupervision_of_unlisted {f : List Byte} (h : ¬(byteAt f 0 ≤ 3 ∧ byteAt f 1 ≤ 3)) (p : Policy) :
    judgeSupervision p f = .refused badEnum := by
  unfold judgeSupervision
  rw [senseOf_eq, senseOf_eq]
  split
  · rename_i h0 h1
    have l0 := lt_of_listed h0
    have l1 := lt_of_listed h1
    simp only [List.length_cons, List.length_nil] at l0 l1
    exact absurd (by omega) h
  · rfl

theorem judgeNoticeMode_of_unlisted {f : List Byte} (h : ¬(byteAt f 0 ≤ 1 ∧ byteAt f 1 ≤ 1)) (p : Policy) (d : Domain) :
    judgeNoticeMode p d f = .refused badEnum := by
  unfold judgeNoticeMode
  rw [reportModeOf_eq, clearModeOf_eq]
  split
  · rename_i h0 h1
    have l0 := lt_of_listed h0
    have l1 := lt_of_listed h1
    simp only [List.length_cons, List.length_nil] at l0 l1
    exact absurd (by omega) h
  · rfl

theorem judgeRecord_of_badIndex {r : RawRecord} (h : r.kind.indices ≤ r.index) (p : Policy) :
    judgeRecord p r = .refused badIndex := if_pos h

/-! ### Records whose codes are listed -/

theorem byte_byteAt (f : List Byte) (o : Nat) : byte (byteAt f o) = f.getD o 0 := by simp [byte, byteAt]

theorem judgeChannel_of_listed {f : List Byte} (l0 : byteAt f 0 ≤ 1) (l1 : byteAt f 1 ≤ 2) (l2 : byteAt f 2 ≤ 2)
    (l3 : byteAt f 3 ≤ 2) (l4 : byteAt f 4 ≤ 1) (l8 : byteAt f 8 ≤ 2) (p : Policy) (index : Nat) :
    judgeChannel p index f =
      let endA := [Domain.pay, .app, .rad].getD (byteAt f 1) .pay
      let endB := [Domain.pay, .app, .rad].getD (byteAt f 2) .pay
      .staged
        { p with channels := p.channels.setIfInBounds index <|
          { state := [ChannelState.unused, .opened].getD (byteAt f 0) .unused, endA := endA, endB := endB
            direction := [Direction.aToB, .bToA, .both].getD (byteAt f 3) .aToB
            cls := [Class.priority, .bulk].getD (byteAt f 4) .priority, maxPayload := clamp 1 480 (wordAt f 5)
            mask := if endA = .app ∨ endB = .app then some (f.getD 7 0) else none
            hold := [HoldPolicy.pass, .hold, .refuse].getD (byteAt f 8) .pass } }
        (firstClamped [(6, outside 1 480 (wordAt f 5))]) := by
  unfold judgeChannel
  rw [channelStateOf_eq, domainOf_eq, domainOf_eq, directionOf_eq, classOf_eq, holdOf_eq,
    getElem?_of_listed (Nat.lt_succ_of_le l0) ChannelState.unused,
    getElem?_of_listed (Nat.lt_succ_of_le l1) Domain.pay, getElem?_of_listed (Nat.lt_succ_of_le l2) Domain.pay,
    getElem?_of_listed (Nat.lt_succ_of_le l3) Direction.aToB,
    getElem?_of_listed (Nat.lt_succ_of_le l4) Class.priority,
    getElem?_of_listed (Nat.lt_succ_of_le l8) HoldPolicy.pass, byte_byteAt]

theorem judgeSlot_of_listed {f : List Byte} (l0 : byteAt f 0 ≤ 1) (p : Policy) (index : Nat) :
    judgeSlot p index f =
      .staged
        { p with slots := p.slots.setIfInBounds index <|
          { barred := decide (byteAt f 0 = 1), depth := wordAt f 1, refill := min 4095 (wordAt f 3) } }
        (firstClamped [(3, outside 0 4095 (wordAt f 3))]) := by
  unfold judgeSlot
  rw [yesNoOf_of_le l0]

theorem judgeCell_of_none {f : List Byte} (l0 : byteAt f 0 = 0) (l15 : byteAt f 15 ≤ 1) (p : Policy) (index : Nat) :
    judgeCell p index f = .staged { p with cells := p.cells.setIfInBounds index none } 0 := by
  unfold judgeCell
  rw [l0, yesNoOf_of_le l15]
  rfl

/-- The clamped fields of a present cell (R25). -/
def cellClamps (f : List Byte) (most : Nat) : List (Nat × Bool) :=
  [(2, outside 0 1023 (wordAt f 1)), (3, outside 0 1279 (wordAt f 3)), (4, outside 0 1023 (wordAt f 5)),
   (5, outside 0 1279 (wordAt f 7)), (6, colourOutside f 9), (7, colourOutside f 12),
   (9, decide (byteAt f 15 = 1) && outside 0 most (byteAt f 16))]

theorem judgeCell_of_listed {f : List Byte} (pos : byteAt f 0 ≠ 0) (l0 : byteAt f 0 ≤ 8) (l15 : byteAt f 15 ≤ 1)
    (p : Policy) (index : Nat) :
    judgeCell p index f =
      let role := [Role.digit, .enter, .clear, .back, .cancel, .dots, .band, .label].getD (byteAt f 0 - 1) .label
      .staged
        { p with cells := p.cells.setIfInBounds index (some
          { role := role, x0 := min 1023 (wordAt f 1), y0 := min 1279 (wordAt f 3), x1 := min 1023 (wordAt f 5)
            y1 := min 1279 (wordAt f 7), fill := colourAt f 9, ink := colourAt f 12
            glyph := if byteAt f 15 = 1 then some (min (maxGlyph role) (byteAt f 16))
              else if role = .digit then some 0 else none }) }
        (firstClamped (cellClamps f (maxGlyph role))) := by
  unfold judgeCell
  rw [roleOf_of_pos pos l0, yesNoOf_of_le l15]
  simp only [decide_eq_true_eq, cellClamps]

theorem judgeSupervision_of_listed {f : List Byte} (l0 : byteAt f 0 ≤ 3) (l1 : byteAt f 1 ≤ 3) (p : Policy) :
    judgeSupervision p f =
      let senses := [Sense.disabled, Sense.tripLow, Sense.tripHigh, Sense.tripChange]
      .staged
        { p with supervision :=
          { sense := ⟨senses.getD (byteAt f 0) .disabled, senses.getD (byteAt f 1) .disabled⟩
            warn := clamp 3000 4200 (wordAt f 2), abort := clamp 2800 4000 (wordAt f 4)
            paySilence := clamp 250 10000 (wordAt f 6) } }
        (firstClamped [(3, outside 3000 4200 (wordAt f 2)), (4, outside 2800 4000 (wordAt f 4)),
          (5, outside 250 10000 (wordAt f 6))]) := by
  unfold judgeSupervision
  rw [senseOf_eq, senseOf_eq, getElem?_of_listed (Nat.lt_succ_of_le l0) Sense.disabled,
    getElem?_of_listed (Nat.lt_succ_of_le l1) Sense.disabled]

theorem judgeNoticeMode_of_listed {f : List Byte} (l0 : byteAt f 0 ≤ 1) (l1 : byteAt f 1 ≤ 1) (p : Policy)
    (d : Domain) :
    judgeNoticeMode p d f =
      .staged
        { p with notices := p.notices.set d ⟨[ReportMode.edge, .repeated].getD (byteAt f 0) .edge,
          [ClearMode.onReport, .onClear].getD (byteAt f 1) .onClear⟩ } 0 := by
  unfold judgeNoticeMode
  rw [reportModeOf_eq, clearModeOf_eq, getElem?_of_listed (Nat.lt_succ_of_le l0) ReportMode.edge,
    getElem?_of_listed (Nat.lt_succ_of_le l1) ClearMode.onClear]

/-- The enumeration codes of a record that R23 to R31 list: those of its kind's fields. -/
def RecordKind.Listed (f : List Byte) : RecordKind → Prop
  | .channel =>
    byteAt f 0 ≤ 1 ∧ byteAt f 1 ≤ 2 ∧ byteAt f 2 ≤ 2 ∧ byteAt f 3 ≤ 2 ∧ byteAt f 4 ≤ 1 ∧ byteAt f 8 ≤ 2
  | .slot => byteAt f 0 ≤ 1
  | .cell => byteAt f 0 ≤ 8 ∧ byteAt f 15 ≤ 1
  | .glyph => True
  | .geometry => True
  | .touch => True
  | .mapping => True
  | .supervision => byteAt f 0 ≤ 3 ∧ byteAt f 1 ≤ 3
  | .keys => True
  | .noticeMode => byteAt f 0 ≤ 1 ∧ byteAt f 1 ≤ 1
  | .link => True

/-- A domain index names its domain (R31). -/
theorem domainOf_of_lt {n : Nat} (h : n < 3) : domainOf n = some ([Domain.pay, .app, .rad].getD n .pay) := by
  rw [domainOf_eq]; exact getElem?_of_listed h _

/-- A record with an index in range and a code that is not listed (R22, step 2). -/
theorem judgeRecord_of_unlisted {kind : RecordKind} {i : Nat} {f : List Byte} (near : ¬kind.indices ≤ i)
    (h : ¬kind.Listed f) (p : Policy) : judgeRecord p ⟨kind, i, f⟩ = .refused badEnum := by
  refine (if_neg near).trans ?_
  cases kind with
  | channel => exact judgeChannel_of_unlisted h p i
  | slot => exact judgeSlot_of_unlisted h p i
  | cell => exact judgeCell_of_unlisted h p i
  | supervision => exact judgeSupervision_of_unlisted h p
  | noticeMode =>
    dsimp only
    rw [domainOf_of_lt (Nat.not_le.1 near)]
    exact judgeNoticeMode_of_unlisted h p _
  | glyph => exact absurd trivial h
  | geometry => exact absurd trivial h
  | touch => exact absurd trivial h
  | mapping => exact absurd trivial h
  | keys => exact absurd trivial h
  | link => exact absurd trivial h

theorem knownKind_cases {k : Byte} (h : KnownKind k) :
    k = 1 ∨ k = 2 ∨ k = 3 ∨ k = 4 ∨ k = 5 ∨ k = 6 ∨ k = 7 ∨ k = 8 ∨ k = 9 ∨ k = 10 ∨ k = 11 := by
  obtain ⟨lo, hi⟩ := h
  have given : k = BitVec.ofNat 8 k.toNat := by simp
  generalize k.toNat = n at given lo hi
  subst given
  interval_cases n <;> simp

theorem portCheck_load {tag slot n : Byte} {rest : List Byte} (h : rest.length ≤ 511) :
    portCheck .pay ⟨0x10, tag, slot, n :: rest⟩ = none := by
  have fits : lengthFits .load (n :: rest).length = true :=
    decide_eq_true (by rw [List.length_cons, maxBody]; omega)
  have kind : requestKindOf 0x10 = some .load := rfl
  rw [portCheck, kind]
  dsimp only
  rw [fits]
  rfl

end Sys2Proof.Machine

open Sys2Proof Sys2Proof.Machine

/-- Settles O17: the walk by `walkRecords_cons` and what breaks it off, each record kind by its codes (a listed code is
its place in the list) and its clamps. -/
theorem loadStagesOnly : Obligations.LoadStagesOnly := by
  refine ⟨fun tag slot n rest s accepts small => ?_, ?_⟩
  · have loaded : runLoad (n :: rest) s = _ := runLoad_eq (n :: rest) s
    obtain ⟨status, parameter, refused, length⟩ := loadedSet_answers s.staging (n :: rest)
    refine ⟨_, _, _, exec_passed rfl accepts (portCheck_load small)
      (runLoad_eq (n :: rest) (s.arrived .pay)) accepts.1.1.2, ?_, status, parameter, refused, length⟩
    rw [loaded]
    rfl
  intro s p width indices known short
  have refuses : ∀ {body}, loadedSet p body = (p, .badLength, []) → short body := fun h =>
    (runLoad_eq _ s).trans (by rw [show loadedSet s.staging _ = _ from h])
  refine ⟨fun n k rest lo hi unknown => ?_, fun n k rest lo hi isKnown cut => ?_, fun n lo hi => ?_,
    fun k i f extra isKnown fields more => ?_, ?before, ?records⟩
  · rw [runLoad_eq, show loadedSet s.staging _ = _ from loadedSet_unknown lo hi unknown p rest]
  · obtain ⟨m, rfl⟩ : ∃ m, n = m + 1 := ⟨n - 1, by omega⟩
    exact refuses (loadedSet_badLength lo hi p (walkRecords_cut isKnown m cut))
  · exact refuses (loadedSet_badLength lo hi p (walkRecords_missing lo))
  · obtain ⟨kind, code, bytes, -⟩ := recordKindOf_of_known isKnown
    exact refuses (loadedSet_leftOver code (fields.trans bytes.symm) p i more)
  case before =>
    intro n k i f rest lo hi isKnown fields a b
    obtain ⟨kind, code, bytes, -⟩ := recordKindOf_of_known isKnown
    have joined := loadedSet_cons code (fields.trans bytes.symm) lo hi p i rest
    have first : a = _ := runLoad_eq _ s
    have others : b = _ := runLoad_eq _ a.1
    rw [runLoad_eq, show loadedSet s.staging _ = _ from joined]
    rw [first] at others ⊢
    rw [others]
    dsimp only
    split <;> rfl
  case records =>
    intro k i f isKnown fields one u w off into colour pale staged legal domains domain
    obtain ⟨kind, code, bytes, count⟩ := recordKindOf_of_known isKnown
    have single := loadedSet_single code (fields.trans bytes.symm) p i
    have oneOf : ∀ {j : Judged}, judgeRecord p ⟨kind, i.toNat, f⟩ = j → one (j.policy p) j.report := fun hj =>
      (runLoad_eq _ s).trans (by rw [show loadedSet s.staging _ = _ from single, hj])
    have stagedOf : ∀ {q : Policy} {outside : List (Nat × Bool)}, (∀ x ∈ outside, x.1 ≠ 0) →
        judgeRecord p ⟨kind, i.toNat, f⟩ = .staged q (firstClamped outside) → staged q outside :=
          fun {q outside} pos hj => by
      have h := oneOf hj
      cases first : outside.find? fun x => x.2 with
      | none => rw [report_of_noClamp first] at h; simp only [staged, first]; exact h
      | some x =>
        rw [report_of_clamp first (pos x (List.mem_of_find?_eq_some first))] at h
        simp only [staged, first]; exact h
    have plainOf : ∀ {q : Policy}, judgeRecord p ⟨kind, i.toNat, f⟩ = .staged q 0 → staged q [] :=
      stagedOf (outside := []) (by simp)
    have clamped : ∀ {lo hi : Nat}, lo ≤ hi → ∀ v, clamp lo hi v = into lo hi v := clamp_eq
    have bounded : ∀ hi v, min hi v = into 0 hi v := min_eq_clamped
    have reached : i.toNat < indices k → ¬kind.indices ≤ i.toNat := fun h => by rw [count]; exact Nat.not_le.2 h
    refine ⟨fun far => oneOf (judgeRecord_of_badIndex (by rw [count]; exact far) p), fun near unlisted => ?_,
      fun near listed => ?_⟩
    · refine oneOf (judgeRecord_of_unlisted (reached near) (mt ?_ unlisted) p)
      rcases knownKind_cases isKnown with rfl | rfl | rfl | rfl | rfl | rfl | rfl | rfl | rfl | rfl | rfl
      all_goals
        cases code
        simp [RecordKind.Listed, legal, u, byteAt]
    · obtain ⟨channelCodes, slotCodes, cellCodes, supervisionCodes, noticeCodes⟩ := listed
      refine ⟨?channel, ?slot, ?noCell, ?cell, ?glyph, ?geometry, ?touch, ?mapping, ?supervision, ?keys, ?noticeMode,
        ?link⟩
      all_goals
        intro hk
        subst hk
        cases code
      case channel =>
        intro c
        obtain ⟨l0, l1, l2, l3, l4, l8⟩ := channelCodes rfl
        refine stagedOf (by simp) ((if_neg (reached near)).trans
          ((judgeChannel_of_listed l0 l1 l2 l3 l4 l8 p i.toNat).trans ?_))
        rw [clamped (by decide)]
        rfl
      case slot =>
        intro r
        refine stagedOf (by simp) ((if_neg (reached near)).trans
          ((judgeSlot_of_listed (slotCodes rfl) p i.toNat).trans ?_))
        rw [bounded]
        rfl
      case noCell =>
        intro none
        exact plainOf ((if_neg (reached near)).trans (judgeCell_of_none none (cellCodes rfl).2 p i.toNat))
      case cell =>
        intro some role most c
        refine stagedOf (by simp) ((if_neg (reached near)).trans
          ((judgeCell_of_listed some (cellCodes rfl).1 (cellCodes rfl).2 p i.toNat).trans ?_))
        simp only [cellClamps, colourOutside_eq]
        rw [bounded, bounded, bounded, bounded, bounded]
        rfl
      case glyph => exact plainOf ((if_neg (reached near)).trans rfl)
      case geometry =>
        refine stagedOf (by simp) ((if_neg (reached near)).trans ?_)
        dsimp only [judgeGeometry]
        rw [clamped (by decide), clamped (by decide), clamped (by decide), colourOutside_eq]
        rfl
      case touch =>
        intro r
        refine stagedOf (by simp) ((if_neg (reached near)).trans ?_)
        dsimp only [judgeTouch]
        rw [clamped (by decide), clamped (by decide), clamped (by decide), bounded, bounded, bounded]
        rfl
      case mapping =>
        intro three four
        refine plainOf ((if_neg (reached near)).trans ?_)
        dsimp only [judgeMapping]
        simp only [signedAt_three, signedAt_four]
        rfl
      case supervision =>
        intro senses r
        obtain ⟨l0, l1⟩ := supervisionCodes rfl
        refine stagedOf (by simp) ((if_neg (reached near)).trans ((judgeSupervision_of_listed l0 l1 p).trans ?_))
        rw [clamped (by decide), clamped (by decide), clamped (by decide)]
        rfl
      case keys =>
        refine stagedOf (by simp) ((if_neg (reached near)).trans ?_)
        dsimp only [judgeKeys]
        rw [clamped (by decide)]
        rfl
      case noticeMode =>
        intro m
        obtain ⟨l0, l1⟩ := noticeCodes rfl
        refine plainOf ((if_neg (reached near)).trans ?_)
        dsimp only
        rw [domainOf_of_lt near]
        exact judgeNoticeMode_of_listed l0 l1 p _
      case link =>
        refine stagedOf (by simp) ((if_neg (reached near)).trans ?_)
        dsimp only
        rw [domainOf_of_lt near]
        dsimp only [judgeLink]
        rw [clamped (by decide)]
        rfl
end

section
/-! PROOF. Whatever a LOAD stages lies in its ranges (R22–R31). -/

namespace Sys2Proof.Machine

open Sys2Proof

/-! ### Numbers of a record -/

theorem byteAt_le (f : List Byte) (o : Nat) : byteAt f o ≤ 255 := Nat.le_of_lt_succ (f.getD o 0).isLt

theorem wordAt_le (f : List Byte) (o : Nat) : wordAt f o ≤ 65535 := by
  have := byteAt_le f o
  have := byteAt_le f (o + 1)
  rw [wordAt_eq]
  omega

theorem clamp_inRange {lo hi : Nat} (h : lo ≤ hi) (v : Nat) : lo ≤ clamp lo hi v ∧ clamp lo hi v ≤ hi := by
  unfold clamp
  omega

theorem colourAt_inRange (f : List Byte) (o : Nat) : (colourAt f o).inRange :=
  ⟨Nat.min_le_left _ _, Nat.min_le_left _ _, Nat.min_le_left _ _⟩

theorem toInt_fitsSigned {n : Nat} (v : BitVec n) : fitsSigned n v.toInt :=
  ⟨BitVec.le_toInt v, BitVec.toInt_lt⟩

theorem signedAt_three_fits (f : List Byte) (o : Nat) : fitsSigned 24 (signedAt f o 3) := by
  rw [signedAt_three]; exact toInt_fitsSigned _

theorem signedAt_four_fits (f : List Byte) (o : Nat) : fitsSigned 32 (signedAt f o 4) := by
  rw [signedAt_four]; exact toInt_fitsSigned _

/-- One record of a table replaced. -/
theorem forall_setIfInBounds {α : Type} {n : Nat} {P : α → Prop} {v : Vector α n} (h : ∀ i : Fin n, P v[i]) {x : α}
    (hx : P x) (k : Nat) : ∀ i : Fin n, P (v.setIfInBounds k x)[i] := by
  intro i
  rw [Fin.getElem_fin, Vector.getElem_setIfInBounds]
  split
  · exact hx
  · exact h i

/-! ### One record -/

/-- Whatever a record stages lies in its ranges, if the set before it does. -/
def Judged.InRange : Judged → Prop
  | .refused _ => True
  | .staged p _ => p.inRange

theorem Judged.policy_inRange {p : Policy} (h : p.inRange) {j : Judged} (hj : j.InRange) : (j.policy p).inRange := by
  cases j with
  | refused _ => exact h
  | staged q n => exact hj

section
variable {p : Policy} (h : p.inRange)
include h

theorem judgeChannel_inRange (index : Nat) (f : List Byte) : (judgeChannel p index f).InRange := by
  obtain ⟨channels, rest⟩ := h
  unfold judgeChannel
  split
  · obtain ⟨lo, hi⟩ := clamp_inRange (lo := 1) (hi := 480) (by decide) (wordAt f 5)
    refine ⟨forall_setIfInBounds channels ⟨lo, hi, ?_⟩ index, rest⟩
    dsimp only
    split <;> simp_all
  · trivial

theorem judgeSlot_inRange (index : Nat) (f : List Byte) : (judgeSlot p index f).InRange := by
  obtain ⟨channels, slots, rest⟩ := h
  unfold judgeSlot
  split
  · trivial
  · exact ⟨channels, forall_setIfInBounds slots ⟨wordAt_le f 1, Nat.min_le_left _ _⟩ index, rest⟩

theorem judgeCell_inRange (index : Nat) (f : List Byte) : (judgeCell p index f).InRange := by
  obtain ⟨channels, slots, cells, rest⟩ := h
  unfold judgeCell
  split
  · exact ⟨channels, slots,
      forall_setIfInBounds (P := fun o : Option Cell => ∀ c ∈ o, c.inRange) cells (fun _ h => by cases h) index, rest⟩
  · rename_i role present _ _
    refine ⟨channels, slots,
      forall_setIfInBounds (P := fun o : Option Cell => ∀ c ∈ o, c.inRange) cells ?_ index, rest⟩
    rintro c ⟨⟩
    have most : maxGlyph role ≤ 63 ∧ (role = .digit → maxGlyph role ≤ 54) := by cases role <;> decide
    refine ⟨Nat.min_le_left _ _, Nat.min_le_left _ _, Nat.min_le_left _ _, Nat.min_le_left _ _, colourAt_inRange f 9,
      colourAt_inRange f 12, ?_, fun digit => ?_⟩
    · dsimp only
      split
      · exact (Nat.min_le_left _ _).trans most.1
      · split <;> exact Nat.zero_le _
    · dsimp only at digit ⊢
      split
      · exact ⟨rfl, (Nat.min_le_left _ _).trans (most.2 digit)⟩
      · exact ⟨rfl, Nat.zero_le _⟩
  · trivial

theorem judgeGlyph_inRange (index : Nat) {f : List Byte} (width : f.length = 160) : (judgeGlyph p index f).InRange := by
  obtain ⟨channels, slots, cells, glyphs, rest⟩ := h
  exact ⟨channels, slots, cells, forall_setIfInBounds (P := fun g : List Byte => g.length = 160) glyphs width index,
    rest⟩

theorem judgeGeometry_inRange (f : List Byte) : (judgeGeometry p f).InRange := by
  obtain ⟨channels, slots, cells, glyphs, -, rest⟩ := h
  obtain ⟨wLo, wHi⟩ := clamp_inRange (lo := 128) (hi := 1024) (by decide) (wordAt f 0)
  obtain ⟨hLo, hHi⟩ := clamp_inRange (lo := 128) (hi := 1280) (by decide) (wordAt f 2)
  obtain ⟨rLo, rHi⟩ := clamp_inRange (lo := 30) (hi := 60) (by decide) (byteAt f 4)
  exact ⟨channels, slots, cells, glyphs, ⟨wLo, wHi, hLo, hHi, rLo, rHi, colourAt_inRange f 5⟩, rest⟩

theorem judgeTouch_inRange (f : List Byte) : (judgeTouch p f).InRange := by
  obtain ⟨channels, slots, cells, glyphs, geometry, -, rest⟩ := h
  obtain ⟨sLo, sHi⟩ := clamp_inRange (lo := 2) (hi := 20) (by decide) (byteAt f 0)
  obtain ⟨dLo, dHi⟩ := clamp_inRange (lo := 1) (hi := 8) (by decide) (byteAt f 6)
  obtain ⟨uLo, uHi⟩ := clamp_inRange (lo := 1) (hi := 8) (by decide) (byteAt f 7)
  exact ⟨channels, slots, cells, glyphs, geometry,
    ⟨sLo, sHi, byteAt_le f 1, wordAt_le f 2, wordAt_le f 4, dLo, dHi, uLo, uHi, Nat.min_le_left _ _,
      Nat.min_le_left _ _, byteAt_le f 10, Nat.min_le_left _ _⟩, rest⟩

theorem judgeMapping_inRange (f : List Byte) : (judgeMapping p f).InRange := by
  obtain ⟨channels, slots, cells, glyphs, geometry, touch, -, rest⟩ := h
  exact ⟨channels, slots, cells, glyphs, geometry, touch,
    ⟨signedAt_three_fits f 0, signedAt_three_fits f 3, signedAt_four_fits f 6, signedAt_three_fits f 10,
      signedAt_three_fits f 13, signedAt_four_fits f 16⟩, rest⟩

theorem judgeSupervision_inRange (f : List Byte) : (judgeSupervision p f).InRange := by
  obtain ⟨channels, slots, cells, glyphs, geometry, touch, mapping, -, rest⟩ := h
  unfold judgeSupervision
  split
  · obtain ⟨wLo, wHi⟩ := clamp_inRange (lo := 3000) (hi := 4200) (by decide) (wordAt f 2)
    obtain ⟨aLo, aHi⟩ := clamp_inRange (lo := 2800) (hi := 4000) (by decide) (wordAt f 4)
    obtain ⟨sLo, sHi⟩ := clamp_inRange (lo := 250) (hi := 10000) (by decide) (wordAt f 6)
    exact ⟨channels, slots, cells, glyphs, geometry, touch, mapping, ⟨wLo, wHi, aLo, aHi, sLo, sHi⟩, rest⟩
  · trivial

theorem judgeKeys_inRange (f : List Byte) : (judgeKeys p f).InRange := by
  obtain ⟨channels, slots, cells, glyphs, geometry, touch, mapping, supervision, -, -, weights⟩ := h
  obtain ⟨lo, hi⟩ := clamp_inRange (lo := 5) (hi := 50) (by decide) (byteAt f 0)
  exact ⟨channels, slots, cells, glyphs, geometry, touch, mapping, supervision, lo, hi, weights⟩

theorem judgeNoticeMode_inRange (d : Domain) (f : List Byte) : (judgeNoticeMode p d f).InRange := by
  unfold judgeNoticeMode
  split
  · exact h
  · trivial

theorem judgeLink_inRange (d : Domain) (f : List Byte) : (judgeLink p d f).InRange := by
  obtain ⟨channels, slots, cells, glyphs, geometry, touch, mapping, supervision, lo, hi, weights⟩ := h
  refine ⟨channels, slots, cells, glyphs, geometry, touch, mapping, supervision, lo, hi, fun e he => ?_⟩
  dsimp only
  rw [PerDomain.get_set]
  split
  · exact clamp_inRange (by decide) _
  · exact weights e he

theorem judgeRecord_inRange {r : RawRecord} (width : r.fields.length = r.kind.fieldBytes) :
    (judgeRecord p r).InRange := by
  unfold judgeRecord
  split
  · trivial
  · split
    · exact judgeChannel_inRange h _ _
    · exact judgeSlot_inRange h _ _
    · exact judgeCell_inRange h _ _
    · rename_i glyph
      rw [glyph] at width
      exact judgeGlyph_inRange h _ width
    · exact judgeGeometry_inRange h _
    · exact judgeTouch_inRange h _
    · exact judgeMapping_inRange h _
    · exact judgeSupervision_inRange h _
    · exact judgeKeys_inRange h _
    · exact judgeNoticeMode_inRange h _ _
    · exact judgeLink_inRange h _ _
    · trivial
    · trivial

end

/-! ### A whole LOAD -/

/-- The fields of a located record are as many as its kind has (R21). -/
theorem walkRecords_width {n u : Nat} {body : List Byte} {rs : List RawRecord}
    (h : walkRecords n body = .located rs u) :
    ∀ r ∈ rs, r.fields.length = r.kind.fieldBytes := by
  induction n generalizing body rs u with
  | zero =>
    unfold walkRecords at h
    split at h <;> cases h
    simp
  | succ n ih =>
    cases body with
    | nil => cases h
    | cons k rest =>
      unfold walkRecords at h
      split at h
      · cases h; simp
      · split at h
        · cases h
        · rename_i long
          split at h
          · cases h
          · rename_i found
            cases h
            refine List.forall_mem_cons.2 ⟨?_, ih found⟩
            rw [List.length_take, List.length_drop]
            dsimp only
            omega

theorem stageRecords_inRange {p : Policy} (h : p.inRange) {rs : List RawRecord}
    (width : ∀ r ∈ rs, r.fields.length = r.kind.fieldBytes) : (stageRecords p rs).1.inRange := by
  induction rs generalizing p with
  | nil => exact h
  | cons r rs ih =>
    obtain ⟨hr, hrs⟩ := List.forall_mem_cons.1 width
    exact ih (Judged.policy_inRange h (judgeRecord_inRange h hr)) hrs

theorem loadedSet_inRange {p : Policy} (h : p.inRange) (body : List Byte) : (loadedSet p body).1.inRange := by
  unfold loadedSet
  split
  · exact h
  · split
    · exact h
    · rename_i found
      exact stageRecords_inRange h (walkRecords_width found)

end Sys2Proof.Machine
end

section
/-! PROOF. A purge over all three queues, and the marking of all their entries, said exactly: what is left in each
queue, which marks are met, and which boxes are told (R51, R52, R56, R62). -/

namespace Sys2Proof.Machine

open Sys2Proof

/-! ### One queue -/

/-- Removing the entries that `gone` names. -/
def DeliveryQueue.without (q : DeliveryQueue) (gone : Entry → Bool) : DeliveryQueue :=
  q.mapLists fun es => es.filter fun e => !gone e

theorem without_entries (q : DeliveryQueue) (gone : Entry → Bool) (c : Class) :
    (q.without gone).entries.get c = (q.entries.get c).filter fun e => !gone e := by cases c <;> rfl

theorem removeFrom_queue (d e : Domain) (gone : Entry → Bool) (s : State) :
    (removeFrom d gone s).queue e = if e = d then (s.queue d).without gone else s.queue e :=
  State.queue_setQueue _ _ _ _

theorem meetsSpace_eq (s : State) (gone : Entry → Bool) (d src : Domain) (c : Class) :
    s.meetsSpace gone d src c = ((s.queue d).all.any gone && ((s.queue d).without gone).meets src c) := by
  have half : ∀ c, halfLimits c = (if c = .priority then 12 else 9, if c = .priority then 3072 else 2304) := fun c => by
    cases c <;> rfl
  unfold State.meetsSpace DeliveryQueue.meets DeliveryQueue.roomAgain
  dsimp only
  rw [without_entries, half, Bool.and_assoc]
  exact congrArg _ (Bool.and_comm _ _)

/-- A queue of which a purge takes nothing is as it was. -/
theorem without_of_spared {q : DeliveryQueue} {gone : Entry → Bool} (h : q.all.any gone = false) :
    q.without gone = q := by
  have spared : ∀ es : List Entry, (∀ e ∈ es, e ∈ q.all) → (es.filter fun e => !gone e) = es := fun es hes =>
    List.filter_eq_self.2 fun e he => by
      have none := List.any_eq_false.1 h e (hes e he)
      simpa using none
  rw [DeliveryQueue.without, DeliveryQueue.mapLists, spared _ fun e he => List.mem_append_left _ he,
    spared _ fun e he => List.mem_append_right _ he]

/-- The notice box of `src` after one queue's purge. -/
def State.toldSpace (s : State) (gone : Entry → Bool) (d src : Domain) (b : NoticeBox) : NoticeBox :=
  if s.meetsSpace gone d src .priority || s.meetsSpace gone d src .bulk then
    b.setFlag (s.noticeMode src) .queueSpace
  else b

/-- What purging link `d`'s queue leaves. -/
structure PurgedQueue (gone : Entry → Bool) (d : Domain) (s t : State) : Prop where
  entries : ∀ e c, (t.queue e).entries.get c =
    if e = d then ((s.queue d).entries.get c).filter (fun e => !gone e) else (s.queue e).entries.get c
  run : ∀ e, (t.queue e).run = (s.queue e).run
  wanted : ∀ e x k, ((t.queue e).wanted.get x).get k =
    (((s.queue e).wanted.get x).get k && !(decide (e = d) && s.meetsSpace gone d x k))
  other : ∀ e, e ≠ d → t.queue e = s.queue e
  box : ∀ x, t.box x = s.toldSpace gone d x (s.box x)
  rest : QueuesOnly s t

theorem purgeQueue_purged (gone : Entry → Bool) (s : State) (d : Domain) :
    PurgedQueue gone d s (purgeQueue gone s d) := by
  have counted : countIn d gone s = 0 ↔ (s.queue d).all.any gone = false := by
    rw [countIn, List.countP_eq_zero, List.any_eq_false]
  unfold purgeQueue
  by_cases spared : (s.queue d).all.any gone = false
  · have none : ∀ x k, s.meetsSpace gone d x k = false := fun x k => by rw [meetsSpace_eq, spared]; rfl
    rw [if_pos (counted.2 spared)]
    refine ⟨fun e c => ?_, fun _ => rfl, fun e x k => ?_, fun _ _ => rfl, fun x => ?_, .refl s⟩
    · split
      · subst_vars
        rw [← without_entries, without_of_spared spared]
      · rfl
    · rw [none]; simp
    · rw [State.toldSpace, none, none]; rfl
  · rw [if_neg (counted.not.2 spared)]
    have took : ∀ x k, s.meetsSpace gone d x k = ((s.queue d).without gone).meets x k := fun x k => by
      rw [meetsSpace_eq, Bool.of_not_eq_false spared]; rfl
    obtain ⟨hentries, hrun, hwanted, hother, hmet, hunmet, hrest⟩ := judgeSpace_marksJudged d (removeFrom d gone s)
    have here : (removeFrom d gone s).queue d = (s.queue d).without gone := State.queue_setQueue_same _ _ _
    rw [here] at hentries hrun hwanted hmet hunmet
    refine ⟨fun e c => ?_, fun e => ?_, fun e x k => ?_, fun e he => ?_, fun x => ?_,
      (QueuesOnly.setQueue s d _).trans hrest⟩
    · split
      · subst_vars; rw [hentries, without_entries]
      · rename_i he; rw [hother e he, removeFrom_queue_other he]
    · by_cases he : e = d
      · subst he; exact hrun
      · rw [hother e he, removeFrom_queue_other he]
    · by_cases he : e = d
      · subst he
        rw [hwanted, took, DeliveryQueue.meets]
        cases hw : ((s.queue e).wanted.get x).get k <;>
          simp [mem_allMarks, DeliveryQueue.without, DeliveryQueue.mapLists, hw]
      · rw [hother e he, removeFrom_queue_other he]; simp [he]
    · rw [hother e he, removeFrom_queue_other he]
    · rw [State.toldSpace, took, took]
      split
      · rename_i met
        rcases Bool.or_eq_true _ _ ▸ met with h | h
        · exact hmet x .priority (mem_allMarks _ _) h
        · exact hmet x .bulk (mem_allMarks _ _) h
      · rename_i unmet
        refine hunmet x fun k _ => ?_
        cases k <;> simp_all

/-! ### All three queues -/

/-- A flag set on either of two occasions is set once (R160). -/
theorem setFlag_again (p q : Prop) [Decidable p] [Decidable q] (b : NoticeBox) (m : NoticeMode) (f : Flag) :
    (if q then (if p then b.setFlag m f else b).setFlag m f else if p then b.setFlag m f else b) =
      if p ∨ q then b.setFlag m f else b := by
  by_cases hp : p
  · simp [hp, NoticeBox.setFlag_setFlag]
  · simp [hp]

/-- What a purge over all three queues leaves (R56, R62). -/
structure Purged (gone : Entry → Bool) (s t : State) : Prop where
  entries : ∀ d c, (t.queue d).entries.get c = ((s.queue d).entries.get c).filter fun e => !gone e
  run : ∀ d, (t.queue d).run = (s.queue d).run
  wanted : ∀ d x k, ((t.queue d).wanted.get x).get k =
    (((s.queue d).wanted.get x).get k && !s.meetsSpace gone d x k)
  box : ∀ x, t.box x = s.spaceJudged gone x (s.box x)
  rest : QueuesOnly s t

theorem meetsSpace_of_queue {s t : State} {d : Domain} (h : t.queue d = s.queue d) (gone : Entry → Bool) (x : Domain)
    (k : Class) : t.meetsSpace gone d x k = s.meetsSpace gone d x k := by rw [meetsSpace_eq, meetsSpace_eq, h]

theorem purge_purged (gone : Entry → Bool) (s : State) : Purged (spares gone) s (purge gone s) := by
  have pay := purgeQueue_purged (spares gone) s .pay
  have app := purgeQueue_purged (spares gone) (purgeQueue (spares gone) s .pay) .app
  have rad := purgeQueue_purged (spares gone) (purgeQueue (spares gone) (purgeQueue (spares gone) s .pay) .app) .rad
  have same : purge gone s =
      purgeQueue (spares gone) (purgeQueue (spares gone) (purgeQueue (spares gone) s .pay) .app) .rad := rfl
  rw [same]
  generalize purgeQueue (spares gone) (purgeQueue (spares gone) (purgeQueue (spares gone) s .pay) .app) .rad = s3 at *
  generalize purgeQueue (spares gone) (purgeQueue (spares gone) s .pay) .app = s2 at *
  generalize purgeQueue (spares gone) s .pay = s1 at *
  have space1 : ∀ x k, s1.meetsSpace (spares gone) .app x k = s.meetsSpace (spares gone) .app x k :=
    meetsSpace_of_queue (pay.other .app (by decide)) _
  have space2 : ∀ x k, s2.meetsSpace (spares gone) .rad x k = s.meetsSpace (spares gone) .rad x k :=
    meetsSpace_of_queue ((app.other .rad (by decide)).trans (pay.other .rad (by decide))) _
  have mode1 : ∀ x, s1.noticeMode x = s.noticeMode x := fun x => by
    rw [State.noticeMode, pay.rest.active]; rfl
  have mode2 : ∀ x, s2.noticeMode x = s.noticeMode x := fun x => by
    rw [State.noticeMode, app.rest.active]; exact mode1 x
  refine ⟨fun d c => ?_, fun d => ?_, fun d x k => ?_, fun x => ?_, (pay.rest.trans app.rest).trans rad.rest⟩
  · rw [rad.entries, app.entries, app.entries, pay.entries, pay.entries, pay.entries]
    cases d <;> rfl
  · rw [rad.run, app.run, pay.run]
  · rw [rad.wanted, app.wanted, pay.wanted, space1, space2]
    cases d <;> simp
  · rw [rad.box, app.box, pay.box]
    simp only [State.toldSpace, space1, space2, mode1, mode2]
    rw [setFlag_again, setFlag_again, State.spaceJudged]
    simp only [allDomains, List.any_cons, List.any_nil, Bool.or_false, Bool.or_eq_true, or_assoc]
    rfl

/-! ### Marks on all entries -/

theorem mapEntries_queue (f : Entry → Entry) (s : State) (d : Domain) :
    (mapEntries f s).queue d = (s.queue d).mapLists fun es => es.map f := by cases d <;> rfl

theorem mapEntries_entries (f : Entry → Entry) (s : State) (d : Domain) (c : Class) :
    ((mapEntries f s).queue d).entries.get c = ((s.queue d).entries.get c).map f := by
  rw [mapEntries_queue]; cases c <;> rfl

theorem mapEntries_queuesOnly (f : Entry → Entry) (s : State) : QueuesOnly s (mapEntries f s) :=
  QueuesOnly.foldl (fun s d => QueuesOnly.setQueue s d _) _ _

theorem mem_all_iff {q : DeliveryQueue} {e : Entry} : e ∈ q.all ↔ ∃ c, e ∈ q.entries.get c := by
  constructor
  · intro h
    rcases List.mem_append.1 h with h | h
    · exact ⟨.priority, h⟩
    · exact ⟨.bulk, h⟩
  · rintro ⟨c, h⟩
    cases c with
    | priority => exact List.mem_append_left _ h
    | bulk => exact List.mem_append_right _ h

theorem setFlag_queuesOnly (d : Domain) (f : Flag) (s : State) : QueuesOnly s (setFlag d f s) :=
  QueuesOnly.setBox s d _

theorem takeNoticeModes_queuesOnly (s : State) : QueuesOnly s (takeNoticeModes s) :=
  QueuesOnly.foldl (fun s d => QueuesOnly.setBox s d _) _ _

/-! ### The switch at a commit (R36, R37) -/

/-- The tables, the notices and the switch once a commit has acted on them (R36, R37). -/
def switchCommitted (s : State) : State :=
  remarkHeld (purge (unfit s.active s.staging) (commitNotices (tablesInForce s)))

theorem commitNotices_queue (s : State) (d : Domain) : (commitNotices s).queue d = s.queue d := by
  simp only [commitNotices, setFlag, takeNoticeModes, allDomains, List.foldl_cons, List.foldl_nil, State.queue_setBox]

theorem commitNotices_queuesOnly (s : State) : QueuesOnly s (commitNotices s) :=
  ((takeNoticeModes_queuesOnly s).trans (setFlag_queuesOnly _ _ _)).trans (setFlag_queuesOnly _ _ _)

theorem remarkHeld_queuesOnly (s : State) : QueuesOnly s (remarkHeld s) := mapEntries_queuesOnly _ s

theorem switchCommitted_queuesOnly (s : State) : QueuesOnly (tablesInForce s) (switchCommitted s) :=
  ((commitNotices_queuesOnly (tablesInForce s)).trans
    (purge_purged (unfit s.active s.staging) (commitNotices (tablesInForce s))).rest).trans (remarkHeld_queuesOnly _)

theorem switchCommitted_ctl (s : State) : (switchCommitted s).ctl = s.ctl := by
  obtain ⟨_, _, h⟩ := switchCommitted_queuesOnly s; rw [h]; rfl

theorem switchCommitted_active (s : State) : (switchCommitted s).active = s.staging :=
  (switchCommitted_queuesOnly s).active

theorem switchCommitted_frontEnd (s : State) : (switchCommitted s).frontEnd = s.frontEnd := by
  obtain ⟨_, _, h⟩ := switchCommitted_queuesOnly s; rw [h]; rfl

/-- The held mark of an entry after a commit that finds the controller in `st` (R37). -/
def committedEntry (p : Policy) (st : EntryState) (e : Entry) : Entry :=
  if e.sending then e else { e with held := decide (st ≠ .opened) && onHoldChannel p e }

theorem QueuesOnly.ctl {s t : State} (h : QueuesOnly s t) : t.ctl = s.ctl := by
  obtain ⟨_, _, rfl⟩ := h; rfl

theorem switchCommitted_entries (s : State) (d : Domain) (c : Class) :
    ((switchCommitted s).queue d).entries.get c =
      (((s.queue d).entries.get c).filter fun e => !spares (unfit s.active s.staging) e).map
        (committedEntry s.staging s.ctl.state) := by
  have purged := purge_purged (unfit s.active s.staging) (commitNotices (tablesInForce s))
  have marked := (commitNotices_queuesOnly (tablesInForce s)).trans purged.rest
  have before : (tablesInForce s).queue d = s.queue d := rfl
  rw [switchCommitted, remarkHeld, mapEntries_entries, purged.entries, commitNotices_queue, before, marked.active,
    marked.ctl]
  rfl

end Sys2Proof.Machine
end

section
/-! PROOF. Leaving OPEN, said exactly (R51, R96–R99): what APP is told, the marks that go, and the entries
that are held. -/

namespace Sys2Proof.Machine

open Sys2Proof

/-! ### Several events told one after another -/

/-- APP has been told the events of `l`, oldest first. -/
def State.toldAll (s : State) (l : List InputEvent) : State := l.foldl State.told s

theorem toldAll_append (s : State) (l m : List InputEvent) : s.toldAll (l ++ m) = (s.toldAll l).toldAll m :=
  List.foldl_append

theorem toldAll_setCtl (s : State) (c : Controller) (l : List InputEvent) :
    (s.setCtl c).toldAll l = (s.toldAll l).setCtl c := by
  induction l generalizing s with
  | nil => rfl
  | cons e l ih => exact ih (s.told e)

theorem toldAll_inputs (s : State) (l : List InputEvent) :
    (s.toldAll l).inputs = l.foldl (joinInput s.inputSending) s.inputs := by
  induction l generalizing s with
  | nil => rfl
  | cons e l ih => exact ih (s.told e)

theorem toldAll_eq (s : State) (l : List InputEvent) :
    s.toldAll l = { s with inputs := (s.toldAll l).inputs, lost := (s.toldAll l).lost } := by
  induction l generalizing s with
  | nil => rfl
  | cons e l ih => exact ih (s.told e)

theorem joinInput_length_of_lt {es : List InputEvent} (h : es.length < 32) (b : Bool) (e : InputEvent) :
    (joinInput b es e).length = es.length + 1 := by
  rw [joinInput, if_pos (show es.length < maxInputs from h), List.length_append]; rfl

/-- The lost mark is set exactly when the queue does not hold all that is told (R99). -/
theorem toldAll_lost (s : State) {l : List InputEvent} (h : l ≠ []) :
    (s.toldAll l).lost = (s.lost || decide (32 < s.inputs.length + l.length)) := by
  induction l generalizing s with
  | nil => exact absurd rfl h
  | cons e l ih =>
    by_cases full : 32 ≤ s.inputs.length
    · have lost : ∀ (m : List InputEvent) (t : State), t.lost = true → (t.toldAll m).lost = true := fun m => by
        induction m with
        | nil => exact fun _ ht => ht
        | cons e m ih => exact fun t ht => ih (t.told e) (by simp [State.told, ht])
      have first : (s.told e).lost = true := by simp [State.told, full]
      rw [State.toldAll, List.foldl_cons]
      refine (lost l _ first).trans ?_
      rw [List.length_cons, decide_eq_true (by omega), Bool.or_true]
    · have grown : (s.told e).inputs.length = s.inputs.length + 1 := joinInput_length_of_lt (Nat.not_le.1 full) _ _
      have kept : (s.told e).lost = s.lost := by simp [State.told, full]
      cases l with
      | nil => rw [List.length_singleton, decide_eq_false (by omega), Bool.or_false]; exact kept
      | cons e' l =>
        refine (ih (s.told e) (List.cons_ne_nil _ _)).trans ?_
        rw [grown, kept, List.length_cons (a := e)]
        congr 2
        exact propext (by omega)

/-! ### The marks of strokes and keys (R96) -/

/-- The controller without the marks of strokes and keys that APP is told of. -/
def unmarked (c : Controller) : Controller := { c with appStroke := none, keyMarks := ⟨false, false, false, false⟩ }

/-- The cancelling RELEASE of a key. -/
def releaseOf (k : Key) : InputEvent := ⟨.release, 0, 0, 0, some k, false, true, false⟩

/-- The events of R96, step 1. -/
def strokeCancels (s : State) : List InputEvent :=
  match s.ctl.appStroke with
  | none => []
  | some k => [⟨.up, k, s.heldPosition.x, s.heldPosition.y, none, s.heldPosition.edge, true, false⟩]

theorem departure_eq (s : State) :
    s.departure = strokeCancels s ++ (allKeys.filter s.ctl.keyMarks.get).map releaseOf ++ [plainInput .focusLost] := rfl

theorem cancelStroke_eq (s : State) :
    cancelStroke s = (s.toldAll (strokeCancels s)).setCtl { s.ctl with appStroke := none } := by
  unfold cancelStroke strokeCancels
  cases h : s.ctl.appStroke with
  | none =>
    have same : ({ s.ctl with appStroke := none } : Controller) = s.ctl := by rw [← h]
    rw [same]; rfl
  | some k => exact congrArg (fun t : State => t.setCtl { s.ctl with appStroke := none }) (queueInput_eq_told _ s)

theorem cancelKey_eq (s : State) (k : Key) :
    cancelKey s k = (s.toldAll (if s.ctl.keyMarks.get k then [releaseOf k] else [])).setCtl
      { s.ctl with keyMarks := s.ctl.keyMarks.set k false } := by
  unfold cancelKey
  cases h : s.ctl.keyMarks.get k with
  | true =>
    exact congrArg (fun t : State => t.setCtl { s.ctl with keyMarks := s.ctl.keyMarks.set k false })
      (queueInput_eq_told _ s)
  | false =>
    have same : s.ctl.keyMarks.set k false = s.ctl.keyMarks := by
      rw [← h]; cases k <;> rfl
    rw [same]; rfl

/-- The cancelling RELEASEs of the keys of `l`, each asked for by its mark. -/
theorem cancelKeys_eq (l : List Key) (s : State) (distinct : l.Nodup) :
    l.foldl cancelKey s = (s.toldAll ((l.filter s.ctl.keyMarks.get).map releaseOf)).setCtl
      { s.ctl with keyMarks := l.foldl (fun m k => m.set k false) s.ctl.keyMarks } := by
  induction l generalizing s with
  | nil => rfl
  | cons k l ih =>
    obtain ⟨fresh, distinct⟩ := List.nodup_cons.1 distinct
    have marks : l.filter (s.ctl.keyMarks.set k false).get = l.filter s.ctl.keyMarks.get := by
      refine List.filter_congr fun j hj => ?_
      have other : j ≠ k := fun h => fresh (h ▸ hj)
      rw [PerKey.get_set, if_neg other]
    rw [List.foldl_cons, cancelKey_eq, ih _ distinct, toldAll_setCtl]
    have ctl : ∀ (t : State) (c d : Controller), (t.setCtl c).setCtl d = t.setCtl d := fun _ _ _ => rfl
    rw [ctl, State.ctl_setCtl, marks, ← toldAll_append, List.filter_cons]
    cases s.ctl.keyMarks.get k <;> rfl

theorem leaveOpen_eq (s : State) : leaveOpen s = markHeld ((s.toldAll s.departure).setCtl (unmarked s.ctl)) := by
  unfold leaveOpen
  rw [queueInput_eq_told, cancelStroke_eq, cancelKeys_eq _ _ (by decide), toldAll_setCtl, departure_eq, toldAll_append,
    toldAll_append]
  rfl

theorem leaveOpen_queue (s : State) (d : Domain) :
    (leaveOpen s).queue d = (s.queue d).mapLists fun es => es.map fun e =>
      if !e.sending && onHoldChannel s.active e then { e with held := true } else e := by
  rw [leaveOpen_eq, markHeld, mapEntries_queue, toldAll_eq]
  rfl

end Sys2Proof.Machine
end

section
/-! PROOF. The moves of the part: the updates of `Update` once more, each with the guard under which its operation makes
it. Here the controller enters OPEN only with every held mark lifted, leaves it only with the marks set (R51, R52), and
each number moves only within its range. What every move keeps, every command keeps (`keptByStep_of_moves`). -/

namespace Sys2Proof.Machine

open Sys2Proof

/-- A mapper whose numbers lie in their ranges (chapter 5). -/
def Mapper.InRange (m : Mapper) : Prop := m.sx ≤ 65520 ∧ m.sy ≤ 65520 ∧ m.stroke ≤ 255

/-- A scan whose medians are those of 12-bit codes (R69). -/
def ScanKind.InRange : ScanKind → Prop
  | .contact x y => x ≤ 4095 ∧ y ≤ 4095
  | .noContact => True
  | .rejected => True

/-- An entry that may stand in a queue as far as holding goes (R51, R52). -/
def Entry.HeldRightly (s : State) (e : Entry) : Prop :=
  e.held = true → s.ctl.state ≠ .opened ∧ onHoldChannel s.active e = true ∧ e.sending = false

/-- The front end that the first commit starts (R64). -/
def startedFrontEnd (s : State) (scanPeriod : Nat) : FrontEnd :=
  { s.frontEnd with
    scan := .noContact, down := 0, lift := 0, reject := 0, panel := .detect, progress := .none
    timer := .running scanPeriod }

/-- One guarded update. -/
inductive Move : State → State → Prop
  | pending (s : State) (l : List Instr) : Move s { s with pending := l }
  /-- The controller stays in its state. -/
  | kept (s : State) (c : Controller) (state : c.state = s.ctl.state) (session : c.session = s.ctl.session) :
      Move s (s.setCtl c)
  /-- The controller takes a state outside OPEN, or has it already. -/
  | shut (s : State) (c : Controller) (state : c.state ≠ .opened) (session : c.session = s.ctl.session) :
      Move s (s.setCtl c)
  /-- A session takes the next number (R104). -/
  | numbered (s : State) (c : Controller) (state : c.state = s.ctl.state)
      (session : c.session = nextSession s.ctl.session) : Move s (s.setCtl c)
  /-- The controller enters OPEN (R118). -/
  | opens (s : State) : Move s (enterOpen s)
  /-- The controller leaves OPEN and takes another state (R51, R96). -/
  | leaves (s : State) (c : Controller) (state : c.state ≠ .opened)
      (session : c.session = (leaveOpen s).ctl.session) : Move s ((leaveOpen s).setCtl c)
  | gate (s : State) (g : Gate) (l : List GateReport) (malformed : g.malformed = s.gate.malformed) :
      Move s { s with gate := g, reports := l }
  /-- An input frame is judged (R129). -/
  | judged (s : State) (lines : List Nat) : Move s (judgeFrame lines s)
  | sup (s : State) (u : Supervisor) (measurement : u.measurement = s.sup.measurement) : Move s (s.setSup u)
  /-- A measurement is taken (R152). -/
  | measured (s : State) (m : Nat) (l : SupplyLevel) (range : m ≤ 4800) :
      Move s (s.setSup { s.sup with measurement := m, level := l })
  | keys (s : State) (k : PerKey SideKey) : Move s { s with keys := k }
  | port (s : State) (d : Domain) (p : Port) : Move s (s.setPort d p)
  | box (s : State) (d : Domain) (b : NoticeBox) : Move s (s.setBox d b)
  | frames (s : State) (e : Option EntryEnd) (p : List Progress) (i : List InputEvent) (l : Bool) :
      Move s { s with entryEnd := e, progress := p, inputs := i, lost := l }
  /-- A queue changes, but gains no entry. -/
  | fewer (s : State) (d : Domain) (q : DeliveryQueue) (h : ∀ e ∈ q.all, e ∈ (s.queue d).all) : Move s (s.setQueue d q)
  /-- A post is accepted (R45). -/
  | posted (s : State) (d : Domain) (e : Entry) (h : e.HeldRightly s) : Move s (s.setQueue d ((s.queue d).append e))
  | meters (s : State) (b : Vector Bool 8) (l : Vector Nat 8) (t : Timer) :
      Move s { s with switch := { s.switch with bars := b, levels := l, refillTimer := t } }
  | awake (s : State) : Move s { s with inReset := false }
  | staging (s : State) (p : Policy) (range : s.RecordInv → p.inRange) : Move s { s with staging := p }
  /-- A commit that finds the front end started (R34, R36, R37). -/
  | committed (s : State) (valid : s.staging.validate = none)
      (started : ¬(s.generation = 0 ∧ s.frontEnd.scan = .idle)) : Move s (switchCommitted s)
  /-- The commit that starts the front end (R64). -/
  | firstCommit (s : State) (valid : s.staging.validate = none) (first : s.generation = 0)
      (idle : s.frontEnd.scan = .idle) (scanPeriod : Nat) :
      Move s { switchCommitted s with frontEnd := startedFrontEnd s scanPeriod }
  | mapper (s : State) (m : Mapper) (range : s.mapper.InRange → m.InRange) : Move s { s with mapper := m }
  /-- The scan timer goes on (R65). -/
  | interval (s : State) (t : Timer) (running : s.frontEnd.timer.isRunning = true) :
      Move s { s with frontEnd := { s.frontEnd with timer := t } }
  /-- A scan begins (R66). -/
  | penDetect (s : State) (t : Touch) (idle : s.frontEnd.progress = .none)
      (running : s.frontEnd.timer.isRunning = true) :
      Move s { s with frontEnd := { s.frontEnd with progress := .penDetect, settings := t } }
  /-- The front end asks for the ADC (R66, R68). -/
  | bursts (s : State) (detecting : s.frontEnd.progress = .penDetect) : Move s (requestBurst s)
  /-- A scan is taken (R73–R75). -/
  | scanned (s : State) (t : Touch) (k : ScanKind) (noBurst : s.frontEnd.progress ≠ .burstRunning) :
      Move s { s with frontEnd := { (s.frontEnd.apply t k).1 with progress := .none } }
  /-- A burst releases the ADC (R67, R68). -/
  | burstOver (s : State) (use : s.adc.use = .burst) (running : s.frontEnd.progress = .burstRunning) :
      Move s (grantNext { s with frontEnd := { s.frontEnd with progress := .none, panel := .detect } })
  /-- A supply conversion releases the ADC (R68). -/
  | supplied (s : State) (use : s.adc.use = .supply) : Move s (grantNext s)
  /-- The supervisor asks for the ADC (R151). -/
  | asks (s : State) : Move s (requestSupply s)
  | ticks (s : State) : Move s (panelTick s)

/-- A chain of moves. -/
abbrev Moves : State → State → Prop := Relation.ReflTransGen Move

theorem Move.moves {s t : State} (h : Move s t) : Moves s t := .single h

namespace Moves

theorem foldl {α : Type} {f : State → α → State} (h : ∀ s a, Moves s (f s a)) (l : List α) (s : State) :
    Moves s (l.foldl f s) := by
  induction l generalizing s with
  | nil => exact .refl
  | cons a l ih => exact (h s a).trans (ih (f s a))

theorem ite {s t u : State} {c : Prop} [Decidable c] (h : Moves s t) (k : Moves s u) :
    Moves s (if c then t else u) := by split <;> assumption

/-- What every move keeps, a chain of them keeps. -/
theorem keeps {inv : State → Prop} (h : ∀ s t, Move s t → inv s → inv t) {s t : State} (k : Moves s t) (hs : inv s) :
    inv t := by
  induction k with
  | refl => exact hs
  | tail _ hu ih => exact h _ _ hu ih

end Moves

/-! ### The notice unit, the silence timer and the switch -/

theorem setFlag_moves (d : Domain) (f : Flag) (s : State) : Moves s (setFlag d f s) := (Move.box s d _).moves

theorem setTamper_moves (s : State) (i : TamperInput) (t : Tamper) : Moves s (s.setTamper i t) :=
  (Move.sup s { s.sup with tamper := s.sup.tamper.set i t } rfl).moves

theorem silence_moves (s : State) (t : Timer) : Moves s (s.setSup { s.sup with silence := t }) :=
  (Move.sup s { s.sup with silence := t } rfl).moves

theorem startSilence_moves (s : State) : Moves s (startSilence s) := silence_moves s _

theorem restartSilence_moves (s : State) : Moves s (restartSilence s) := .ite (startSilence_moves s) .refl

theorem disarmSilence_moves (s : State) : Moves s (disarmSilence s) := silence_moves s _

theorem judgeSpace_moves (d : Domain) (s : State) : Moves s (judgeSpace d s) :=
  Moves.foldl (fun _ source => Moves.foldl
    (fun s c => .ite ((Move.fewer s d ((s.queue d).setWanted source c false) fun _ h => h).moves.trans
      (setFlag_moves source _ _)) .refl) _ _) _ _

theorem removeFrom_moves (d : Domain) (gone : Entry → Bool) (s : State) : Moves s (removeFrom d gone s) := by
  refine (Move.fewer s d _ fun e he => ?_).moves
  simp only [DeliveryQueue.all, DeliveryQueue.mapLists, List.mem_append, List.mem_filter] at he ⊢
  exact he.imp And.left And.left

theorem purge_moves (gone : Entry → Bool) (s : State) : Moves s (purge gone s) :=
  Moves.foldl (fun s d => .ite .refl ((removeFrom_moves d _ s).trans (judgeSpace_moves d _))) _ _

theorem lockedPurge_moves (s : State) : Moves s (lockedPurge s) := purge_moves _ _

/-! ### The video gate -/

@[simp] theorem Gate.boundary_malformed (g : Gate) : g.boundary.1.malformed = g.malformed := by
  unfold Gate.boundary; split <;> rfl

@[simp] theorem Gate.frameStart_malformed (g : Gate) : g.frameStart.1.malformed = g.malformed := by
  rw [Gate.frameStart, Gate.boundary_malformed, Gate.takeLayout]; split <;> rfl

@[simp] theorem Gate.write_malformed (g : Gate) (o : OverlaySet) : (g.write o).1.malformed = g.malformed := by
  unfold Gate.write; dsimp only; split
  · rfl
  · split <;> rfl

@[simp] theorem Gate.askLocal_malformed (g : Gate) : g.askLocal.1.malformed = g.malformed := by
  unfold Gate.askLocal; split
  · split
    · exact Gate.frameStart_malformed _
    · rfl
  · rfl
  · rfl
  · rfl
  · exact Gate.frameStart_malformed _

@[simp] theorem Gate.askFollow_malformed (g : Gate) : g.askFollow.1.malformed = g.malformed := by
  rw [askFollow_gate]

@[simp] theorem Gate.inputStart_malformed (g : Gate) : g.inputStart.1.malformed = g.malformed := by
  unfold Gate.inputStart
  cases g.timing with
  | follow => exact Gate.frameStart_malformed _
  | toLocal => exact Gate.frameStart_malformed _
  | rejoin => exact Gate.frameStart_malformed _
  | localTiming => rfl
  | toFollow => rfl

@[simp] theorem Gate.localEnd_malformed (g : Gate) : g.localEnd.1.malformed = g.malformed := by
  unfold Gate.localEnd
  cases g.timing with
  | localTiming => exact Gate.frameStart_malformed _
  | toFollow => rfl
  | follow => rfl
  | toLocal => rfl
  | rejoin => rfl

theorem gateDo_moves {f : Gate → Gate × List GateReport} (h : ∀ g, (f g).1.malformed = g.malformed) (s : State) :
    Moves s (gateDo f s) := (Move.gate s _ _ (h _)).moves

theorem setGate_moves (s : State) (g : Gate) (h : g.malformed = s.gate.malformed) : Moves s (s.setGate g) :=
  (Move.gate s g s.reports h).moves

theorem writeSet_moves (o : OverlaySet) (s : State) : Moves s (writeSet o s) :=
  gateDo_moves (fun g => g.write_malformed o) s

theorem askLocal_moves (s : State) : Moves s (askLocal s) := gateDo_moves Gate.askLocal_malformed s

theorem askFollow_moves (s : State) : Moves s (askFollow s) := gateDo_moves Gate.askFollow_malformed s

/-! ### The entry controller -/

theorem queueInput_moves (e : InputEvent) (s : State) : Moves s (queueInput e s) :=
  (Move.frames s s.entryEnd s.progress _ _).moves

theorem pushProgress_moves (e : ProgressEvent) (n : Nat) (s : State) : Moves s (pushProgress e n s) :=
  (Move.frames s s.entryEnd _ s.inputs s.lost).moves

theorem placeEnd_moves (s : State) (e : Option EntryEnd) : Moves s { s with entryEnd := e } :=
  (Move.frames s e s.progress s.inputs s.lost).moves

theorem enterReleasing_moves (s : State) : Moves s (enterReleasing s) := by
  have released := (Move.shut s { s.ctl with state := .releasing } (fun h => by cases h) rfl).moves
  exact .ite (released.trans (Move.opens _).moves) released

theorem erased_moves (s : State) : Moves s (s.setCtl s.ctl.erased) := (Move.kept s s.ctl.erased rfl rfl).moves

theorem removeOverlay_moves (p : SessionPresentation) (s : State) : Moves s (removeOverlay p s) :=
  .ite ((writeSet_moves _ s).trans (askFollow_moves _)) (writeSet_moves _ s)

theorem endSecure_moves (o : SessionOutcome) (r : Session) (s : State) : Moves s (endSecure o r s) :=
  ((((erased_moves s).trans (removeOverlay_moves _ _)).trans (placeEnd_moves _ _)).trans
    (Move.shut _ _ (by exact fun h => by cases h) (by rfl)).moves).trans (disarmSilence_moves _)

theorem endEarly_moves (o : SessionOutcome) (r : Session) (s : State) : Moves s (endEarly o r s) := by
  have h : Moves s (if s.ctl.state = .presenting then
      removeOverlay r.presentation (s.setCtl s.ctl.erased) else s.setCtl s.ctl.erased) :=
    .ite ((erased_moves s).trans (removeOverlay_moves _ _)) (erased_moves s)
  exact ((h.trans (placeEnd_moves _ _)).trans (disarmSilence_moves _)).trans (enterReleasing_moves _)

theorem endSession_moves (o : SessionOutcome) (s : State) : Moves s (endSession o s) := by
  unfold endSession
  split
  · exact .refl
  · split
    · exact endEarly_moves _ _ _
    · exact endEarly_moves _ _ _
    · exact endSecure_moves _ _ _
    all_goals exact .refl

theorem onReport_moves (s : State) (g : GateReport) : Moves s (onReport s g) := by
  unfold onReport
  split
  · split
    · exact (Move.shut s _ (by exact fun h => by cases h) (by rfl)).moves.trans (pushProgress_moves _ _ _)
    · exact .refl
  · exact .ite (enterReleasing_moves s) .refl
  · exact .ite (Move.kept s _ (by rfl) (by rfl)).moves .refl
  · split
    · exact .refl
    · exact .ite (endSession_moves _ s) .refl

theorem takeWave_moves (s : State) : Moves s (takeWave s) :=
  (Move.gate s s.gate [] rfl).moves.trans (Moves.foldl onReport_moves _ _)

theorem takeReports_moves (s : State) : Moves s (takeReports s) := (takeWave_moves s).trans (takeWave_moves _)

theorem endArming_moves (s : State) : Moves s (endArming s) := by
  unfold endArming
  split
  · exact .refl
  · exact (Moves.ite ((writeSet_moves _ s).trans (askLocal_moves _)) (writeSet_moves _ s)).trans
      (Move.shut _ _ (by exact fun h => by cases h) (by rfl)).moves

theorem noContactReport_moves (s : State) : Moves s (noContactReport s) := by
  unfold noContactReport
  split
  · exact (endArming_moves s).trans (takeReports_moves _)
  · exact (Move.opens s).moves
  all_goals exact .refl

/-- The controller with the next session number and the new session's record (R104, steps 1 and 2). -/
def recordedCtl (r : Session) (c : Controller) : Controller :=
  { c with session := nextSession c.session, record := some r, buffer := [], points := [], candidate := .none }

/-- The controller as it enters ARMING (R104). -/
def armingCtl (r : Session) (c : Controller) : Controller :=
  { c with total := .running (1000 * r.total), state := .arming }

/-- The state as the controller has entered ARMING. -/
def arming (r : Session) (s : State) : State :=
  let left := leaveOpen (s.setCtl (recordedCtl r s.ctl))
  startSilence (left.setCtl (armingCtl r left.ctl))

theorem beginSession_eq (r : Session) (s : State) :
    beginSession r s = if (arming r s).glassFree then takeReports (endArming (arming r s)) else arming r s := rfl

theorem beginSession_moves (r : Session) (s : State) : Moves s (beginSession r s) := by
  have arms : Moves s (arming r s) :=
    ((Move.numbered s (recordedCtl r s.ctl) rfl rfl).moves.trans
      (Move.leaves _ (armingCtl r _) (fun h => by cases h) rfl).moves).trans (startSilence_moves _)
  rw [beginSession_eq]
  exact .ite (arms.trans ((endArming_moves _).trans (takeReports_moves _))) arms

theorem acceptedKey_moves (r : Session) (s : State) : Moves s (acceptedKey r s) :=
  (Move.kept s _ (by rfl) (by rfl)).moves

/-- An accepted key that changes the buffer and tells PAY (R111, R112). -/
theorem acceptedBuffer_moves (r : Session) (ds : List Nat) (n : Nat) (s : State) :
    Moves s (pushProgress .accepted n (setBuffer ds (acceptedKey r s))) := by
  have set : ∀ u, Moves u (setBuffer ds u) := fun u =>
    .ite (Move.kept u _ (by rfl) (by rfl)).moves ((Move.kept u _ (by rfl) (by rfl)).moves.trans (writeSet_moves _ _))
  exact ((acceptedKey_moves r s).trans (set _)).trans (pushProgress_moves _ n _)

theorem pressDigit_moves (r : Session) (n : Nat) (s : State) : Moves s (pressDigit r n s) :=
  .ite (.ite ((acceptedBuffer_moves r _ _ s).trans (endSession_moves _ _)) (acceptedBuffer_moves r _ _ s))
    (pushProgress_moves _ _ _)

theorem pressBack_moves (r : Session) (s : State) : Moves s (pressBack r s) :=
  .ite (pushProgress_moves _ _ _) (acceptedBuffer_moves r _ _ s)

theorem pressClear_moves (r : Session) (s : State) : Moves s (pressClear r s) := acceptedBuffer_moves r _ _ s

theorem pressEnter_moves (r : Session) (s : State) : Moves s (pressEnter r s) :=
  .ite ((acceptedKey_moves r s).trans (endSession_moves _ _)) (pushProgress_moves _ _ _)

theorem pressCell_moves (r : Session) (i : Nat) (s : State) : Moves s (pressCell r i s) := by
  unfold pressCell
  split
  · exact .refl
  · split
    · exact pressDigit_moves _ _ _
    · exact pressBack_moves _ _
    · exact pressClear_moves _ _
    · exact pressEnter_moves _ _
    · exact endSession_moves _ _
    all_goals exact .refl

theorem sessionPress_moves (r : Session) (k : Key) (s : State) : Moves s (sessionPress r k s) := by
  unfold sessionPress
  split
  · exact endSession_moves _ _
  · exact pressClear_moves _ _
  · exact pressEnter_moves _ _
  all_goals exact .refl

theorem sessionDown_moves (r : Session) (q : Position) (s : State) : Moves s (sessionDown r q s) := by
  unfold sessionDown
  split
  · exact .refl
  · exact (Move.kept s _ (by rfl) (by rfl)).moves

theorem sessionUpdate_moves (r : Session) (q : Position) (s : State) : Moves s (sessionUpdate r q s) := by
  unfold sessionUpdate
  split
  · exact .ite .refl ((Move.kept s _ (by rfl) (by rfl)).moves.trans (pushProgress_moves _ _ _))
  · exact .refl

theorem sessionUp_moves (r : Session) (x y : Nat) (s : State) : Moves s (sessionUp r x y s) := by
  unfold sessionUp
  split
  · have h := (acceptedKey_moves r s).trans
      (Move.kept _ { (acceptedKey r s).ctl with points := s.ctl.points ++ [(x, y)] } rfl rfl).moves
    exact .ite (h.trans (endSession_moves _ _)) h
  · refine .trans ?_ (Move.kept _ _ (by rfl) (by rfl)).moves
    split
    · exact pressCell_moves _ _ _
    · exact .refl
    · exact .refl

theorem routeDown_moves (n : Nat) (q : Position) (s : State) : Moves s (routeDown n q s) := by
  unfold routeDown
  split
  · exact (queueInput_moves _ s).trans (Move.kept _ _ (by rfl) (by rfl)).moves
  · exact (Move.kept s _ (by rfl) (by rfl)).moves.trans (sessionDown_moves _ _ _)
  · exact .refl

theorem routeUpdate_moves (n : Nat) (q : Position) (m : Bool) (s : State) : Moves s (routeUpdate n q m s) := by
  unfold routeUpdate
  split
  · exact .ite (queueInput_moves _ s) .refl
  · exact .ite (sessionUpdate_moves _ _ s) .refl
  · exact .refl

theorem endMarks_moves (n : Nat) (s : State) : Moves s (endMarks n s) := (Move.kept s _ (by rfl) (by rfl)).moves

theorem routeUp_moves (n : Nat) (q : Position) (u : Bool) (x y : Nat) (s : State) :
    Moves s (routeUp n q u x y s) := by
  unfold routeUp
  split
  · exact .ite ((queueInput_moves _ s).trans (endMarks_moves _ _)) (endMarks_moves _ s)
  · exact .ite (((endMarks_moves _ s).trans (sessionUp_moves _ _ _ _)).trans (takeReports_moves _)) (endMarks_moves _ s)
  · exact endMarks_moves _ s

theorem routePress_moves (k : Key) (s : State) : Moves s (routePress k s) := by
  unfold routePress
  split
  · exact (queueInput_moves _ s).trans (Move.kept _ _ (by rfl) (by rfl)).moves
  · exact sessionPress_moves _ _ _
  · exact .refl

theorem routeRelease_moves (k : Key) (s : State) : Moves s (routeRelease k s) :=
  .ite ((queueInput_moves _ s).trans (Move.kept _ _ (by rfl) (by rfl)).moves) .refl

theorem placeTamperEnd_moves (s : State) : Moves s (placeTamperEnd s) := by
  unfold placeTamperEnd
  split
  · exact .refl
  · exact .ite (placeEnd_moves s _) .refl

/-- The part's lock set is pending and LOCAL timing asked for, the session's data erased (R126). -/
def lockWritten (s : State) : State :=
  askLocal (writeSet (lockSet s.active) ((placeTamperEnd s).setCtl (placeTamperEnd s).ctl.erased))

/-- The controller once it has entered LOCKED. -/
def lockedCtl (p : Policy) (s : State) : Controller :=
  { s.ctl with state := .locked, lockShown := decide (s.gate.active = lockSet p) }

theorem enterLocked_eq (s : State) :
    enterLocked s =
      let left := if s.ctl.state = .opened then leaveOpen (lockWritten s) else lockWritten s
      lockedPurge (disarmSilence (left.setCtl (lockedCtl s.active left))) := rfl

theorem enterLocked_moves (s : State) : Moves s (enterLocked s) := by
  have written : Moves s (lockWritten s) :=
    (((placeTamperEnd_moves s).trans (erased_moves _)).trans (writeSet_moves _ _)).trans (askLocal_moves _)
  have locked : ∀ u, (lockedCtl s.active u).state ≠ .opened := fun u h => by cases h
  have left : Moves s (let u := if s.ctl.state = .opened then leaveOpen (lockWritten s) else lockWritten s
      u.setCtl (lockedCtl s.active u)) := by
    dsimp only
    split
    · exact written.trans (Move.leaves _ _ (locked _) rfl).moves
    · exact written.trans (Move.shut _ _ (locked _) rfl).moves
  rw [enterLocked_eq]
  exact (left.trans (disarmSilence_moves _)).trans (lockedPurge_moves _)

theorem tamperTrip_moves (s : State) : Moves s (tamperTrip s) :=
  .ite .refl ((enterLocked_moves s).trans (takeReports_moves _))

/-! ### Input frames and the silence watch -/

theorem declareLoss_moves (s : State) : Moves s (declareLoss s) :=
  .ite ((Move.gate s { s.gate with episode := true } _ rfl).moves.trans (setFlag_moves _ _ _)) .refl

theorem endInputFrame_moves (lines : List Nat) (s : State) : Moves s (endInputFrame lines s) :=
  .ite ((Move.judged s lines).moves.trans (declareLoss_moves _)) (Move.judged s lines).moves

theorem inputFrameStart_moves (lines : List Nat) (s : State) : Moves s (inputFrameStart lines s) := by
  have judged := (endInputFrame_moves lines s).trans (takeReports_moves _)
  unfold inputFrameStart
  dsimp only
  generalize takeReports (endInputFrame lines s) = u at judged ⊢
  exact (judged.trans (setGate_moves u { u.gate with inFrame := true, watch := .running watchTime } rfl)).trans
    (gateDo_moves Gate.inputStart_malformed _)

theorem boundary_moves {f : Gate → Gate} (h : ∀ g, (f g).malformed = g.malformed) (s : State) :
    Moves s (gateDo (fun g => (f g).boundary) s) :=
  gateDo_moves (fun g => (Gate.boundary_malformed _).trans (h g)) s

theorem frameStart_moves {f : Gate → Gate} (h : ∀ g, (f g).malformed = g.malformed) (s : State) :
    Moves s (gateDo (fun g => (f g).frameStart) s) :=
  gateDo_moves (fun g => (Gate.frameStart_malformed _).trans (h g)) s

theorem watchOnOutput_moves (s : State) : Moves s (watchOnOutput s) := by
  have stops : ∀ {f : Gate → Gate}, (∀ g, (f g).malformed = g.malformed) →
      Moves s (declareLoss (takeReports (gateDo (fun g => (f g).boundary) s))) := fun h =>
    ((boundary_moves h s).trans (takeReports_moves _)).trans (declareLoss_moves _)
  unfold watchOnOutput
  split
  · exact .ite (declareLoss_moves s) (stops fun _ => rfl)
  · have told := (declareLoss_moves s).trans (takeReports_moves _)
    generalize takeReports (declareLoss s) = u at told ⊢
    exact told.trans (frameStart_moves (f := fun g => { g with timing := .localTiming }) (fun _ => rfl) u)
  · exact .refl
  · exact .refl
  · exact stops fun _ => rfl

theorem silenceExpiry_moves (lines : List Nat) (s : State) : Moves s (silenceExpiry lines s) :=
  .ite (((setGate_moves s { s.gate with watch := .expired } rfl).trans (Move.judged _ lines).moves).trans
    (watchOnOutput_moves _)) .refl

/-! ### The touch front end and the mapper -/

/-- The medians of a report are those of 12-bit codes (R69). -/
def TouchReport.InRange : TouchReport → Prop
  | .start x y => x ≤ 4095 ∧ y ≤ 4095
  | .track x y => x ≤ 4095 ∧ y ≤ 4095
  | .down x y => x ≤ 4095 ∧ y ≤ 4095
  | .up _ => True
  | .drop => True

theorem tdiv_nonpos {a b : Int} (ha : a ≤ 0) (hb : 0 ≤ b) : a.tdiv b ≤ 0 := by
  have h := Int.tdiv_nonneg (Int.neg_nonneg_of_nonpos ha) hb
  rw [Int.neg_tdiv] at h
  omega

/-- A step of a 2^`a`-th of the way stops before the end (R83). -/
theorem smooth_le {a s16 median : Nat} (h : s16 ≤ 65520) (hm : median ≤ 4095) : smooth a s16 median ≤ 65520 := by
  have pos : (0 : Int) < 2 ^ a := by positivity
  unfold smooth
  rcases Int.le_total 0 ((median : Int) * 16 - s16) with up | down
  · have step := Int.tdiv_le_self (2 ^ a) up
    omega
  · have step := tdiv_nonpos down pos.le
    omega

theorem smoothed_inRange {m : Mapper} {x y : Nat} (h : m.InRange) (hx : x ≤ 4095) (hy : y ≤ 4095) (a : Nat) :
    (m.smoothed a x y).InRange := by
  obtain ⟨sx, sy, stroke⟩ := h
  exact ⟨smooth_le sx hx, smooth_le sy hy, stroke⟩

theorem takeTouch_moves {r : TouchReport} (hr : r.InRange) (s : State) : Moves s (takeTouch s r) := by
  have near : ∀ {x y : Nat}, x ≤ 4095 ∧ y ≤ 4095 → s.mapper.InRange →
      (s.mapper.smoothed s.active.touch.shift x y).InRange := fun hr h => smoothed_inRange h hr.1 hr.2 _
  cases r with
  | start x y =>
    refine (Move.mapper s (s.mapper.start x y) fun h => ?_).moves
    obtain ⟨-, -, stroke⟩ := h
    obtain ⟨hx, hy⟩ := hr
    exact ⟨by dsimp only [Mapper.start]; omega, by dsimp only [Mapper.start]; omega, stroke⟩
  | track x y =>
    refine .ite (.ite ((Move.mapper s _ fun h => ?_).moves.trans (routeUpdate_moves _ _ _ _))
      (Move.mapper s _ (near hr)).moves) .refl
    split
    · exact near hr h
    · exact near hr h
  | down x y =>
    refine .ite ((Move.mapper s _ fun h => ?_).moves.trans (routeDown_moves _ _ _)) .refl
    obtain ⟨sx, sy, -⟩ := near hr h
    exact ⟨sx, sy, Nat.le_of_lt_succ (Nat.mod_lt _ (by decide))⟩
  | up u =>
    exact (Move.mapper s { s.mapper with strokeOpen := false, tracking := false } id).moves.trans
      (routeUp_moves _ _ _ _ _ _)
  | drop => exact (Move.mapper s { s.mapper with tracking := false } id).moves

end Sys2Proof.Machine
end

section
/-! PROOF. The walk of moves through scans and the ADC arbiter (R65–R77), the side keys, the supervisor and the owners
of requests. -/

namespace Sys2Proof.Machine

open Sys2Proof

/-! ### The rank filter's range (R69) -/

theorem insertSorted_le {n v : Nat} {l : List Nat} (hv : v ≤ n) (hl : ∀ w ∈ l, w ≤ n) :
    ∀ w ∈ insertSorted v l, w ≤ n := by
  induction l with
  | nil => simpa [insertSorted] using hv
  | cons x xs ih =>
    obtain ⟨hx, hxs⟩ := List.forall_mem_cons.1 hl
    unfold insertSorted
    split
    · exact List.forall_mem_cons.2 ⟨hv, hl⟩
    · exact List.forall_mem_cons.2 ⟨hx, ih hxs⟩

theorem sortCodes_le {n : Nat} {l : List Nat} (h : ∀ w ∈ l, w ≤ n) : ∀ w ∈ sortCodes l, w ≤ n := by
  induction l with
  | nil => exact h
  | cons x xs ih =>
    obtain ⟨hx, hxs⟩ := List.forall_mem_cons.1 h
    exact insertSorted_le hx (ih hxs)

theorem medianOf_le (c : Codes) : medianOf c ≤ 4095 := by
  have code : ∀ a : AdcCode, a.toNat ≤ 4095 := fun a => Nat.le_of_lt_succ a.isLt
  have sorted : ∀ w ∈ sortedCodes c, w ≤ 4095 := sortCodes_le (by simp [code])
  rw [medianOf, List.getD_eq_getElem?_getD]
  cases h : (sortedCodes c)[2]? with
  | none => exact Nat.zero_le _
  | some w => exact sorted w (List.mem_of_getElem? h)

theorem burstKind_inRange (b : Burst) (t : Touch) (st : ScanState) : (burstKind b t st).InRange := by
  unfold burstKind
  split
  · trivial
  · split
    · exact ⟨medianOf_le _, medianOf_le _⟩
    · trivial

/-! ### A scan is taken (R73–R77) -/

/-- A scan leaves IDLE as it is, and no other scan state for it; it counts no rejection past the fifteenth, and the
panel and the timer stay. -/
structure ScanTaken (f g : FrontEnd) : Prop where
  idle : g.scan = .idle ↔ f.scan = .idle
  reject : g.reject ≤ 15
  panel : g.panel = f.panel
  timer : g.timer = f.timer

/-- A scan that leaves the scan state and the counts of rejections alone. -/
theorem ScanTaken.stays {f g : FrontEnd} (scan : g.scan = f.scan) (reject : g.reject ≤ 15) (panel : g.panel = f.panel)
    (timer : g.timer = f.timer) : ScanTaken f g := ⟨by rw [scan], reject, panel, timer⟩

/-- A scan that moves between two states other than IDLE. -/
theorem ScanTaken.moves {f g : FrontEnd} (old : f.scan ≠ .idle) (new : g.scan ≠ .idle) (reject : g.reject ≤ 15)
    (panel : g.panel = f.panel) (timer : g.timer = f.timer) : ScanTaken f g :=
  ⟨⟨fun h => absurd h new, fun h => absurd h old⟩, reject, panel, timer⟩

theorem contactScan_taken {f : FrontEnd} (h : f.reject ≤ 15) (n x y : Nat) : ScanTaken f (f.contactScan n x y).1 := by
  unfold FrontEnd.contactScan
  split
  case h_1 => exact .stays rfl h rfl rfl
  case h_2 scan => split <;> exact .moves (by simp [scan]) (by simp) h rfl rfl
  case h_3 scan =>
    split
    · exact .stays rfl h rfl rfl
    · exact .moves (by simp [scan]) (by simp) h rfl rfl
  case h_4 => exact .stays rfl h rfl rfl
  case h_5 scan => exact .moves (by simp [scan]) (by simp) h rfl rfl

theorem noContactScan_taken {f : FrontEnd} (h : f.reject ≤ 15) (n : Nat) : ScanTaken f (f.noContactScan n).1 := by
  unfold FrontEnd.noContactScan
  split
  case h_1 => exact .stays rfl h rfl rfl
  case h_2 => exact .stays rfl h rfl rfl
  case h_3 scan => exact .moves (by simp [scan]) (by simp) h rfl rfl
  case h_4 scan => split <;> exact .moves (by simp [scan]) (by simp) h rfl rfl
  case h_5 scan =>
    split
    · exact .stays rfl h rfl rfl
    · exact .moves (by simp [scan]) (by simp) h rfl rfl

theorem rejectedScan_taken (f : FrontEnd) : ScanTaken f f.rejectedScan.1 := by
  unfold FrontEnd.rejectedScan
  split
  case isTrue few => exact .stays rfl (Nat.le_of_lt_succ few) rfl rfl
  case isFalse =>
    split
    case h_1 => exact .stays rfl (Nat.zero_le _) rfl rfl
    case h_2 => exact .stays rfl (Nat.zero_le _) rfl rfl
    case h_3 scan => exact .moves (by simp [scan]) (by simp) (Nat.zero_le _) rfl rfl
    case h_4 scan => exact .moves (by simp [scan]) (by simp) (Nat.zero_le _) rfl rfl
    case h_5 scan => exact .moves (by simp [scan]) (by simp) (Nat.zero_le _) rfl rfl

theorem apply_taken (f : FrontEnd) (t : Touch) (k : ScanKind) : ScanTaken f (f.apply t k).1 := by
  cases k with
  | contact x y =>
    obtain ⟨idle, reject, panel, timer⟩ :=
      contactScan_taken (f := { f with reject := 0 }) (Nat.zero_le _) t.downDebounce x y
    exact ⟨idle, reject, panel, timer⟩
  | noContact =>
    obtain ⟨idle, reject, panel, timer⟩ :=
      noContactScan_taken (f := { f with reject := 0 }) (Nat.zero_le _) t.upDebounce
    exact ⟨idle, reject, panel, timer⟩
  | rejected => exact rejectedScan_taken f

theorem contactScan_reports {x y : Nat} (h : x ≤ 4095 ∧ y ≤ 4095) (f : FrontEnd) (n : Nat) :
    ∀ r ∈ (f.contactScan n x y).2, r.InRange := by
  have here : (TouchReport.start x y).InRange ∧ (TouchReport.track x y).InRange ∧ (TouchReport.down x y).InRange :=
    ⟨h, h, h⟩
  unfold FrontEnd.contactScan
  split
  case h_1 => simp
  case h_2 => split <;> simp [here]
  case h_3 => split <;> simp [here]
  case h_4 => simp [here]
  case h_5 => simp [here]

theorem noContactScan_reports (f : FrontEnd) (n : Nat) : ∀ r ∈ (f.noContactScan n).2, r.InRange := by
  unfold FrontEnd.noContactScan
  split
  case h_1 => simp
  case h_2 => simp
  case h_3 => simp [TouchReport.InRange]
  case h_4 => split <;> simp [TouchReport.InRange]
  case h_5 => split <;> simp [TouchReport.InRange]

theorem rejectedScan_reports (f : FrontEnd) : ∀ r ∈ f.rejectedScan.2, r.InRange := by
  unfold FrontEnd.rejectedScan
  split
  · simp
  · split <;> simp [TouchReport.InRange]

theorem apply_reports_inRange {k : ScanKind} (hk : k.InRange) (f : FrontEnd) (t : Touch) :
    ∀ r ∈ (f.apply t k).2, r.InRange := by
  cases k with
  | contact x y => exact contactScan_reports hk _ _
  | noContact => exact noContactScan_reports _ _
  | rejected => exact rejectedScan_reports f

theorem takeTouches_moves {l : List TouchReport} (h : ∀ r ∈ l, r.InRange) (s : State) :
    Moves s (l.foldl takeTouch s) := by
  induction l generalizing s with
  | nil => exact .refl
  | cons r l ih =>
    obtain ⟨hr, hl⟩ := List.forall_mem_cons.1 h
    exact (takeTouch_moves hr s).trans (ih hl _)

theorem endScan_moves (t : Touch) {k : ScanKind} (hk : k.InRange) {s : State}
    (noBurst : s.frontEnd.progress ≠ .burstRunning) : Moves s (endScan t k s) := by
  have taken := (Move.scanned s t k noBurst).moves.trans (takeTouches_moves (apply_reports_inRange hk s.frontEnd t) _)
  exact .ite (taken.trans (noContactReport_moves _)) taken

theorem beginScan_moves (plate : Word16) {s : State} (idle : s.frontEnd.progress = .none)
    (running : s.frontEnd.timer.isRunning = true) : Moves s (beginScan plate s) := by
  have begun := (Move.penDetect s s.active.touch idle running).moves
  exact .ite (begun.trans (Move.bursts _ rfl).moves)
    (begun.trans (endScan_moves _ (k := .noContact) trivial (fun h => by cases h)))

theorem scanExpiry_moves (plate : Word16) (s : State) : Moves s (scanExpiry plate s) := by
  unfold scanExpiry
  split
  · rename_i running
    have next := (Move.interval s (.running s.active.touch.scanPeriod) running).moves
    dsimp only
    split
    · rename_i idle
      exact next.trans (beginScan_moves plate idle rfl)
    · exact next
  · exact .refl

/-! ### The ADC arbiter (R68) -/

/-- With no burst waiting the arbiter frees the ADC or grants it to a supply conversion. -/
theorem grantNext_of_noBurst {s : State} (h : s.frontEnd.progress ≠ .burstWaiting) :
    (grantNext s).frontEnd = s.frontEnd ∧ (grantNext s).adc.use ≠ .burst := by
  unfold grantNext
  rw [decide_eq_false h]
  cases s.adc.supplyWaiting with
  | false => exact ⟨rfl, fun h => by cases h⟩
  | true => exact ⟨rfl, fun h => by cases h⟩

theorem burstDone_moves (codes : Burst) (s : State) : Moves s (burstDone codes s) := by
  unfold burstDone
  split
  · rename_i h
    obtain ⟨use, running⟩ := h
    have ended := (Move.burstOver s use running).moves
    obtain ⟨same, -⟩ := grantNext_of_noBurst
      (s := { s with frontEnd := { s.frontEnd with progress := .none, panel := .detect } }) (fun h => by cases h)
    exact ended.trans (endScan_moves _ (burstKind_inRange _ _ _) (by rw [same]; exact fun h => by cases h))
  · exact .refl

theorem requestSupply_moves (s : State) : Moves s (requestSupply s) := (Move.asks s).moves

/-! ### The side keys and the supervisor -/

theorem setKey_moves (s : State) (k : Key) (v : SideKey) : Moves s (s.setKey k v) :=
  (Move.keys s (s.keys.set k v)).moves

theorem debounceExpiry_moves (k : Key) (s : State) : Moves s (debounceExpiry k s) :=
  .ite
    (.ite ((setKey_moves s k _).trans (routePress_moves _ _))
      ((setKey_moves s k _).trans (routeRelease_moves _ _))) .refl

theorem judgeTamper_moves (i : TamperInput) (s : State) : Moves s (judgeTamper i s) := by
  have trips : ∀ s, Moves s (trip i s) := fun s =>
    .ite (setTamper_moves s i _)
      (((setTamper_moves s i _).trans (setFlag_moves _ _ _)).trans (tamperTrip_moves _))
  exact .ite ((setTamper_moves s i _).trans (trips _)) (setTamper_moves s i _)

theorem filterExpiry_moves (i : TamperInput) (s : State) : Moves s (filterExpiry i s) :=
  .ite ((setTamper_moves s i _).trans (judgeTamper_moves _ _)) .refl

theorem warnSupply_moves (s : State) : Moves s (warnSupply s) := (setFlag_moves _ _ s).trans (setFlag_moves _ _ _)

theorem lowSupply_moves (s : State) : Moves s (lowSupply s) :=
  ((setFlag_moves _ _ s).trans (endSession_moves _ _)).trans (takeReports_moves _)

theorem supplyMove_moves (old new : SupplyLevel) (s : State) : Moves s (supplyMove old new s) := by
  unfold supplyMove
  split
  · exact warnSupply_moves s
  · exact lowSupply_moves s
  · exact (warnSupply_moves s).trans (lowSupply_moves _)
  · exact .refl

/-- The measurement's full scale is 4800 mV (R152). -/
theorem millivolts_le (code : AdcCode) : millivolts code ≤ 4800 := by
  have := code.isLt
  unfold millivolts
  omega

theorem measure_moves {m : Nat} (h : m ≤ 4800) (s : State) : Moves s (measure m s) :=
  (Move.measured s m _ h).moves.trans (supplyMove_moves _ _ _)

theorem supplyDone_moves (code : AdcCode) (s : State) : Moves s (supplyDone code s) := by
  unfold supplyDone
  split
  · rename_i use
    exact (Move.supplied s use).moves.trans (measure_moves (millivolts_le code) _)
  · exact .refl

theorem endFullReset_moves (s : State) : Moves s (endFullReset s) := by
  have blocks := (((((Move.awake s).moves.trans
    (Move.meters _ s.switch.bars s.switch.levels (.running refillTime)).moves).trans
    (Move.keys _ ⟨s.keys.cancel.awake s.active.debounce, s.keys.clear.awake s.active.debounce,
      s.keys.enter.awake s.active.debounce, s.keys.fn.awake s.active.debounce⟩).moves).trans
    (setGate_moves _ { s.gate with watch := .running watchTime } rfl)).trans
    (Move.sup _ { s.sup with
      tamper := ⟨s.sup.tamper.a.awake, s.sup.tamper.b.awake⟩, requestTimer := .running supplyTime } (by rfl)).moves)
  exact (blocks.trans (requestSupply_moves _)).trans (Moves.foldl (fun s d => setFlag_moves d _ s) _ _)

/-! ### The owners of requests -/

theorem setLevel_moves (s : State) (n v : Nat) : Moves s (setLevel s n v) :=
  (Move.meters s s.switch.bars (s.switch.levels.setIfInBounds n v) s.switch.refillTimer).moves

theorem acceptPost_moves {s : State} {channel : Nat} {c : Channel} (found : openChannel s.active channel = some c)
    (d : Domain) (slot : Nat) (payload : List Byte) : Moves s (acceptPost s d slot channel c payload) := by
  have rightly : ∀ t : State, t.ctl = s.ctl → t.active = s.active →
      (postEntry s d slot channel c payload).HeldRightly t := fun t ctl active held => by
    have kept : s.ctl.state ≠ .opened ∧ c.hold = .hold := of_decide_eq_true held
    obtain ⟨state, hold⟩ := kept
    refine ⟨by rw [ctl]; exact state, ?_, rfl⟩
    rw [active, onHoldChannel, show (postEntry s d slot channel c payload).channel = channel from rfl, found]
    exact decide_eq_true hold
  unfold acceptPost
  dsimp only
  split
  · exact (setLevel_moves s _ _).trans (Move.posted _ _ _ (by exact rightly _ rfl rfl)).moves
  · exact (Move.posted s _ _ (by exact rightly s rfl rfl)).moves

theorem runPost_moves (d : Domain) (slot : Byte) (body : List Byte) (s : State) :
    Moves s (runPost d slot body s).1 := by
  unfold runPost
  dsimp only
  split
  · exact .refl
  · split
    · exact .refl
    · split
      · exact .refl
      · rename_i found
        split
        · exact acceptPost_moves found _ _ _
        · exact (Move.fewer s _ _ (by exact fun _ h => h)).moves
        · exact .refl

theorem runLoad_moves (body : List Byte) (s : State) : Moves s (runLoad body s).1 := by
  rw [runLoad_eq]
  exact (Move.staging s _ fun ⟨h, _⟩ => loadedSet_inRange h body).moves

theorem runRevert_moves (s : State) : Moves s (runRevert s).1 := (Move.staging s s.active fun ⟨_, h⟩ => h).moves

/-- What a commit does to the tables, the notices, the switch and the front end (R36, R37, R64). -/
theorem committed_moves {s : State} (valid : s.staging.validate = none) :
    Moves s (if s.generation = 0 then startFrontEnd (commitSwitch s.active (commitTables s))
      else commitSwitch s.active (commitTables s)) := by
  rw [show commitSwitch s.active (commitTables s) = switchCommitted s from rfl]
  by_cases first : s.generation = 0
  · rw [if_pos first, startFrontEnd, switchCommitted_frontEnd]
    by_cases idle : s.frontEnd.scan = .idle
    · rw [if_pos idle]
      exact (Move.firstCommit s valid first idle _).moves.trans (noContactReport_moves _)
    · rw [if_neg idle]
      exact (Move.committed s valid fun h => idle h.2).moves
  · rw [if_neg first]
    exact (Move.committed s valid fun h => first h.1).moves

theorem commitGate_moves (s : State) : Moves s (commitGate s) :=
  setGate_moves s { s.gate with waiting := some s.active.layout } rfl

theorem commitNormals_moves (old : Policy) (s : State) : Moves s (commitNormals old s) :=
  (Move.sup s _ (by rfl)).moves

theorem acceptCommit_moves {s : State} (valid : s.staging.validate = none) : Moves s (acceptCommit s) := by
  have committed := committed_moves valid
  unfold acceptCommit
  dsimp only
  generalize (if s.generation = 0 then startFrontEnd (commitSwitch s.active (commitTables s))
    else commitSwitch s.active (commitTables s)) = u at committed ⊢
  exact (((committed.trans (commitGate_moves u)).trans (commitNormals_moves _ _)).trans
    (judgeTamper_moves _ _)).trans (judgeTamper_moves _ _)

theorem runCommit_moves (body : List Byte) (s : State) : Moves s (runCommit body s).1 := by
  unfold runCommit
  split
  · exact .refl
  · split
    · exact .refl
    · split
      · exact .refl
      · rename_i valid
        exact acceptCommit_moves valid

theorem runEntryBegin_moves (body : List Byte) (s : State) : Moves s (runEntryBegin body s).1 := by
  unfold runEntryBegin
  split
  · exact .refl
  · split
    · exact .refl
    · split
      · exact .refl
      · exact beginSession_moves _ s

theorem runEntryAbort_moves (s : State) : Moves s (runEntryAbort s).1 := by
  unfold runEntryAbort
  split
  · exact (endSession_moves _ s).trans (takeReports_moves _)
  · exact .refl

theorem setBar_moves (s : State) (n : Nat) (v : Bool) : Moves s (setBar s n v) :=
  (Move.meters s (s.switch.bars.setIfInBounds n v) s.switch.levels s.switch.refillTimer).moves

theorem runSlotBar_moves (body : List Byte) (s : State) : Moves s (runSlotBar body s).1 := by
  unfold runSlotBar
  dsimp only
  split
  · exact .refl
  · split
    · exact ((setBar_moves s _ _).trans (purge_moves _ _)).trans (setFlag_moves _ _ _)
    · exact (setBar_moves s _ _).trans (setFlag_moves _ _ _)

theorem acceptUnlock_moves (s : State) : Moves s (acceptUnlock s) := by
  have cleared : Moves s (askFollow (writeSet OverlaySet.clear (clearLatches s))) :=
    ((Move.sup s _ (by rfl)).moves.trans (writeSet_moves _ _)).trans (askFollow_moves _)
  exact (cleared.trans (Move.kept _ _ (by rfl) (by rfl)).moves).trans
    ((enterReleasing_moves _).trans (takeReports_moves _))

theorem runUnlock_moves (s : State) : Moves s (runUnlock s).1 := by
  unfold runUnlock
  split
  · exact .refl
  · split
    · exact .refl
    · split
      · exact .refl
      · exact acceptUnlock_moves s

end Sys2Proof.Machine
end

section
/-! PROOF. The answers of all commands once more, as chains of moves, and what follows: an invariant that each move
keeps, each opening, the end of a command and the full reset, every step keeps (`keptByStep_of_moves`). -/

namespace Sys2Proof.Machine

open Sys2Proof

theorem ownerOf_moves (d : Domain) (f : Frame) (s : State) : Moves s (ownerOf d f s).1 := by
  unfold ownerOf
  split
  · exact .refl
  · exact runPost_moves _ _ _ _
  · rw [runStatus_owner]
  · exact (Move.box s d _).moves
  · exact setFlag_moves _ _ _
  · exact runLoad_moves _ _
  · exact runRevert_moves _
  · exact runCommit_moves _ _
  · exact runEntryBegin_moves _ _
  · exact runEntryAbort_moves _
  · exact runSlotBar_moves _ _
  · exact runUnlock_moves _
  · exact .refl

/-! ### The operations of the ports -/

theorem setReceiver_moves (d : Domain) (r : Receiver) (s : State) : Moves s (setReceiver d r s) :=
  (Move.port s d _).moves

theorem validFrame_moves (d : Domain) (f : Frame) (s : State) : Moves s (validFrame d f (ownerOf d f) s) := by
  have told : Moves s (if d = .pay then restartSilence s else s) := .ite (restartSilence_moves s) .refl
  unfold validFrame
  dsimp only
  generalize (if d = .pay then restartSilence s else s) = s1 at told ⊢
  split
  · exact told.trans (setFlag_moves _ _ _)
  · refine told.trans ?_
    unfold execute
    split
    · exact (Move.port s1 d _).moves
    · exact (ownerOf_moves d f s1).trans (Move.port _ d _).moves

theorem wholeFrame_moves (d : Domain) (f : Frame) (s : State) : Moves s (wholeFrame d f (ownerOf d f) s) :=
  .ite .refl ((setReceiver_moves d _ s).trans (validFrame_moves d f _))

theorem receive_moves (d : Domain) (r : Receiver × RxEvent) (s : State) : Moves s (receive d r s) := by
  refine .ite .refl ((setReceiver_moves d r.1 s).trans ?_)
  unfold rxEvent
  split
  · exact .refl
  · exact setFlag_moves _ _ _
  · exact validFrame_moves _ _ _

theorem discardPartial_moves (d : Domain) (s : State) : Moves s (discardPartial d s) :=
  .ite ((setReceiver_moves d _ s).trans (setFlag_moves _ _ _)) .refl

theorem linkReset_moves (d : Domain) (s : State) : Moves (linkCleared d s) (linkReset d s) :=
  .ite ((restartSilence_moves _).trans (endSession_moves _ _)) .refl

/-! ### The answers of all commands -/

/-- A state that a command can leave from `s`: its own, the full reset, a pin's level during a reset, or the end of a
command after an opening and a chain of moves. -/
def Reaches (s t : State) : Prop :=
  t = s ∨ t = fullReset s ∨ Moves s t ∨ ∃ v u, Opening s v ∧ Moves v u ∧ t = finish u

theorem Reaches.of_act {s t v : State} {f : State → State} (h : act s f = .next t) (hv : Opening s v)
    (hu : Moves v (f s)) : Reaches s t := by
  cases hr : s.inReset with
  | true => rw [act_of_reset hr] at h; cases h; exact .inl rfl
  | false =>
    rw [act_of_running hr] at h
    cases h
    exact .inr (.inr (.inr ⟨v, _, hv, hu.trans (takeReports_moves _), rfl⟩))

/-- A command that is a chain of moves from the start. -/
theorem Reaches.of_moves {s t : State} {f : State → State} (h : act s f = .next t) (hu : Moves s (f s)) :
    Reaches s t := .of_act h (.none s) hu

theorem Reaches.of_actPin {s t : State} {pin f : State → State} (h : actPin s pin f = .next t) (hp : Moves s (pin s))
    (hf : Moves s (f s)) : Reaches s t := by
  cases hr : s.inReset with
  | true =>
    rw [actPin_of_reset hr] at h
    cases h
    exact .inr (.inr (.inl hp))
  | false =>
    rw [actPin_of_running hr] at h
    exact .of_moves h hf

/-- A completion whose place is left as `v`, with `u` what follows (R15). -/
theorem Reaches.of_complete {s t v : State} {d : Domain} {src : Source} {f : State → State}
    (h : act s (complete d src f) = .next t) (hv : s.isSending d src = true → Opening s v)
    (hu : Moves v (f (txOver d s))) : Reaches s t := by
  cases hs : s.isSending d src with
  | true =>
    refine .of_act h (hv hs) ?_
    rw [complete, if_pos hs]
    exact hu
  | false =>
    refine .of_moves h ?_
    rw [complete, hs]
    exact .refl

theorem execReplyComplete_reaches {s t : State} {d : Domain} (h : execReplyComplete d s = .next t) : Reaches s t := by
  rcases replyDone_txOver d s with hr | hr
  · cases hs : s.isSending d .reply with
    | true =>
      cases hreset : s.inReset with
      | true => rw [execReplyComplete, act_of_reset hreset] at h; cases h; exact .inl rfl
      | false =>
        have resets : complete d .reply (replyDone d) s = fullReset s := by rw [complete, if_pos hs]; exact hr
        rw [execReplyComplete, act_of_running hreset, resets, takeReports_of_none rfl, finish_fullReset] at h
        cases h
        exact .inr (.inl rfl)
    | false => exact .of_moves h (by rw [complete, hs]; exact .refl)
  · exact .of_complete h (.reply s d) (by rw [hr])

theorem execSerialBreak_reaches {s t : State} {d : Domain} (h : execSerialBreak d s = .next t) : Reaches s t := by
  cases hb : (s.port d).inBreak with
  | true => exact .of_moves h (by rw [hb]; exact .refl)
  | false => exact .of_act h (.linkReset s d) (by rw [hb]; exact linkReset_moves d s)

theorem execBreakEnd_reaches {s t : State} {d : Domain} (h : execBreakEnd d s = .next t) : Reaches s t := by
  have ended : Moves s (setReceiver d .hunt (s.setPort d { s.port d with inBreak := false })) :=
    (Move.port s d _).moves.trans (setReceiver_moves d _ _)
  exact .of_moves h (.ite ended .refl)

/-- What a command can answer. -/
theorem exec_reaches {c : Instr} {s t : State} (h : exec c s = .next t) : Reaches s t := by
  cases hc : requestOf c with
  | some df =>
    rw [exec_request hc] at h
    exact .of_moves h (wholeFrame_moves _ _ s)
  | none =>
    cases c with
    | lineError d =>
      change execLineError d s = _ at h
      exact .of_moves h (.ite .refl (discardPartial_moves d s))
    | serialBreak d =>
      change execSerialBreak d s = _ at h
      exact execSerialBreak_reaches h
    | breakEnd d => exact execBreakEnd_reaches h
    | interByteTimeout d => exact .of_moves h (.ite (discardPartial_moves d s) .refl)
    | lengthOver512 d kind tag slot length => exact .of_moves h (receive_moves d _ s)
    | frameCheckFail d kind tag slot body check => exact .of_moves h (receive_moves d _ s)
    | readyAsserted d =>
      change execReadyAsserted d s = _ at h
      exact .of_actPin h (Move.port s d _).moves (Move.port s d _).moves
    | readyDeasserted d =>
      change execReadyDeasserted d s = _ at h
      exact .of_actPin h (Move.port s d _).moves (Move.port s d _).moves
    | stallTimerExpiry d => exact .of_moves h (.ite ((Move.port s d _).moves.trans (setFlag_moves _ _ _)) .refl)
    | replyComplete d => exact execReplyComplete_reaches h
    | entryEndComplete => exact .of_complete h (.entryEnd s) .refl
    | entryProgressComplete => exact .of_complete h (.progress s) .refl
    | inputComplete => exact .of_complete h (.input s) .refl
    | noticeComplete d => exact .of_complete h (.notice s d) .refl
    | deliveryComplete d => exact .of_complete h (.delivery s d) (judgeSpace_moves d _)
    | fullReset => cases h; exact .inr (.inl rfl)
    | fullResetEnd =>
      cases h
      split
      · exact .inr (.inr (.inr ⟨s, _, .none s, endFullReset_moves s, rfl⟩))
      · exact .inl rfl
    | refillTimerExpiry => exact .of_moves h (.ite (Move.meters s s.switch.bars _ s.switch.refillTimer).moves .refl)
    | scanTimerExpiry plate => exact .of_moves h (scanExpiry_moves plate s)
    | burstEnd codes => exact .of_moves h (burstDone_moves codes s)
    | supplyRequestTimerExpiry => exact .of_moves h (.ite (requestSupply_moves s) .refl)
    | supplyConversionEnd code => exact .of_moves h (supplyDone_moves code s)
    | keyInputChange k l =>
      change execKeyInputChange k l s = _ at h
      exact .of_actPin h (setKey_moves s k _) (setKey_moves s k _)
    | keyDebounceExpiry k => exact .of_moves h (debounceExpiry_moves k s)
    | totalTimerExpiry => exact .of_moves h (.ite (endSession_moves _ s) .refl)
    | firstKeyTimerExpiry => exact .of_moves h (.ite (endSession_moves _ s) .refl)
    | interKeyTimerExpiry => exact .of_moves h (.ite (endSession_moves _ s) .refl)
    | inputFrameStart lines => exact .of_moves h (inputFrameStart_moves lines s)
    | silenceWatchExpiry lines => exact .of_moves h (silenceExpiry_moves lines s)
    | localFrameEnd => exact .of_moves h (gateDo_moves Gate.localEnd_malformed s)
    | tamperPinChange i l =>
      change execTamperPinChange i l s = _ at h
      exact .of_actPin h (setTamper_moves s i _) (setTamper_moves s i _)
    | tamperFilterExpiry i => exact .of_moves h (filterExpiry_moves i s)
    | paySilenceExpiry =>
      exact .of_moves h (.ite ((disarmSilence_moves s).trans (endSession_moves _ _)) .refl)
    | repeatTimerExpiry d =>
      change execRepeatTimerExpiry d s = _ at h
      exact .of_moves h (Move.box s d _).moves
    | receivedByte d b =>
      change execReceivedByte d b s = _ at h
      exact .of_moves h (receive_moves d _ s)
    | _ => cases hc

/-- An invariant that every move, every opening, the end of a command and the full reset keep, every step keeps. -/
theorem keptByStep_of_moves {inv : State → Prop} (move : ∀ s t, Move s t → inv s → inv t)
    (opening : ∀ s t, Opening s t → inv s → inv t) (finish : ∀ s, inv s → inv (finish s))
    (reset : ∀ s, inv (fullReset s)) : KeptByStep inv := by
  intro s t hs h
  unfold step at h
  split at h
  · cases h; exact move _ _ (.ticks s) hs
  · rename_i rest _
    have hr := move s _ (.pending s rest) hs
    rcases exec_reaches h with rfl | rfl | hu | ⟨v, u, hv, hu, rfl⟩
    · exact hr
    · exact reset _
    · exact hu.keeps move hr
    · exact finish u (hu.keeps move (opening _ v hv hr))

end Sys2Proof.Machine
end


section
/-! PROOF. O53: held entries stay outside OPEN and on HOLD channels (R51, R52, R37). -/

namespace Sys2Proof.Machine

open Sys2Proof

theorem heldInv_iff (s : State) : s.HeldInv ↔ ∀ d e, e ∈ (s.queue d).all → e.HeldRightly s :=
  ⟨fun h d e he => h d (mem_allDomains d) e he, fun h d _ e he => h d e he⟩

/-! ### What an entry's holding depends on -/

theorem Entry.heldRightly_of_unheld {s : State} {e : Entry} (h : e.held = false) : e.HeldRightly s := fun held => by
  rw [h] at held; cases held

theorem Entry.HeldRightly.congr {s t : State} {e : Entry} (h : e.HeldRightly s) (state : t.ctl.state = s.ctl.state)
    (active : t.active = s.active) : e.HeldRightly t := fun held => by
  rw [state, active]; exact h held

/-- Outside OPEN the controller's state does not matter. -/
theorem Entry.HeldRightly.shut {s t : State} {e : Entry} (h : e.HeldRightly s) (state : t.ctl.state ≠ .opened)
    (active : t.active = s.active) : e.HeldRightly t := fun held => by
  obtain ⟨-, channel, idle⟩ := h held
  exact ⟨state, active ▸ channel, idle⟩

/-- Nothing that holding depends on has changed, and no queue has gained an entry. -/
theorem State.HeldInv.of_fewer {s t : State} (h : s.HeldInv)
    (entries : ∀ d e, e ∈ (t.queue d).all → e ∈ (s.queue d).all)
    (state : t.ctl.state = s.ctl.state) (active : t.active = s.active) : t.HeldInv :=
  (heldInv_iff t).2 fun d e he => ((heldInv_iff s).1 h d e (entries d e he)).congr state active

theorem State.HeldInv.of_same {s t : State} (h : s.HeldInv) (queues : t.switch.queues = s.switch.queues)
    (state : t.ctl.state = s.ctl.state) (active : t.active = s.active) : t.HeldInv :=
  h.of_fewer (fun d e he => by rw [State.queue, queues] at he; exact he) state active

/-- One link's queue has changed. -/
theorem State.HeldInv.setQueue {s : State} (h : s.HeldInv) {d : Domain} {q : DeliveryQueue}
    (hq : ∀ e ∈ q.all, e.HeldRightly s) : (s.setQueue d q).HeldInv := by
  rw [heldInv_iff] at h ⊢
  intro x e he
  rw [State.queue_setQueue] at he
  split at he
  · exact (hq e he).congr rfl rfl
  · exact (h x e he).congr rfl rfl

theorem mem_mapLists {q : DeliveryQueue} {f : Entry → Entry} {e : Entry}
    (h : e ∈ (q.mapLists fun es => es.map f).all) : ∃ x ∈ q.all, f x = e := by
  rw [DeliveryQueue.all, DeliveryQueue.mapLists, ← List.map_append] at h
  exact List.mem_map.1 h

/-! ### The front end and the arbiter -/

/-- From `s` to `t` at most the progress of scans, the panel and the arbiter have changed. -/
def ArbiterOnly (s t : State) : Prop :=
  ∃ p a u n, t = { s with frontEnd := { s.frontEnd with progress := p, panel := a }, adc := u, arbiterCount := n }

theorem grantNext_arbiter (s : State) : ArbiterOnly s (grantNext s) := by
  unfold grantNext
  split
  · exact ⟨_, _, _, _, rfl⟩
  · exact ⟨_, _, _, _, rfl⟩
  · exact ⟨_, _, _, _, rfl⟩
  · dsimp only
    split <;> exact ⟨_, _, _, _, rfl⟩

theorem requestBurst_arbiter (s : State) : ArbiterOnly s (requestBurst s) := by
  unfold requestBurst
  split <;> exact ⟨_, _, _, _, rfl⟩

theorem requestSupply_arbiter (s : State) : ArbiterOnly s (requestSupply s) := by
  unfold requestSupply
  split <;> exact ⟨_, _, _, _, rfl⟩

theorem panelTick_arbiter (s : State) : ArbiterOnly s (panelTick s) := by
  unfold panelTick
  split <;> exact ⟨_, _, _, _, rfl⟩

theorem State.HeldInv.of_arbiter {s t : State} (h : s.HeldInv) (k : ArbiterOnly s t) : t.HeldInv := by
  obtain ⟨_, _, _, _, rfl⟩ := k
  exact h.of_same rfl rfl rfl

/-! ### The moves -/

theorem heldInv_opens (s : State) : (enterOpen s).HeldInv := by
  rw [heldInv_iff, enterOpen_eq_openedAgain]
  intro d e he
  rw [(openedAgain_endOnly s).queue, if_pos (State.openedAgain_state s)] at he
  obtain ⟨e', -, rfl⟩ := mem_mapLists he
  exact Entry.heldRightly_of_unheld rfl

theorem heldInv_leaves {s : State} (h : s.HeldInv) {c : Controller} (state : c.state ≠ .opened) :
    ((leaveOpen s).setCtl c).HeldInv := by
  rw [heldInv_iff] at h ⊢
  have active : (leaveOpen s).active = s.active := (leaveOpen_only s).active
  intro d e he
  rw [State.queue_setCtl, leaveOpen_queue] at he
  obtain ⟨e', he', rfl⟩ := mem_mapLists he
  split
  · rename_i marked
    obtain ⟨idle, channel⟩ := Bool.and_eq_true_iff.1 marked
    exact fun _ => ⟨state, active ▸ channel, by simpa using idle⟩
  · exact (h d e' he').shut state active

/-- A commit marks afresh every entry that is not in transmission (R37), and one in transmission is not held. -/
theorem heldInv_committed {s : State} (h : s.HeldInv) : (switchCommitted s).HeldInv := by
  rw [heldInv_iff] at h ⊢
  intro d e he
  obtain ⟨c, hc⟩ := mem_all_iff.1 he
  rw [switchCommitted_entries] at hc
  obtain ⟨e', he', rfl⟩ := List.mem_map.1 hc
  have before := h d e' (mem_all_iff.2 ⟨c, (List.mem_filter.1 he').1⟩)
  unfold committedEntry
  split
  · rename_i sending
    refine Entry.heldRightly_of_unheld (Bool.eq_false_iff.2 fun held => ?_)
    obtain ⟨-, -, idle⟩ := before held
    rw [sending] at idle
    cases idle
  · rename_i idle
    intro held
    obtain ⟨state, channel⟩ := Bool.and_eq_true_iff.1 held
    rw [switchCommitted_ctl, switchCommitted_active]
    exact ⟨of_decide_eq_true state, channel, Bool.eq_false_iff.2 idle⟩

theorem mem_append_iff {q : DeliveryQueue} {e x : Entry} : x ∈ (q.append e).all → x ∈ q.all ∨ x = e := by
  unfold DeliveryQueue.append DeliveryQueue.all
  cases e.cls <;> simp only [PerClass.set, PerClass.get, List.mem_append, List.mem_singleton] <;> tauto

theorem heldInv_move {s t : State} (m : Move s t) (h : s.HeldInv) : t.HeldInv := by
  cases m with
  | kept c state session => exact h.of_same rfl state rfl
  | shut c state session =>
    exact (heldInv_iff _).2 fun d e he => ((heldInv_iff s).1 h d e he).shut state rfl
  | numbered c state session => exact h.of_same rfl state rfl
  | opens => exact heldInv_opens s
  | leaves c state session => exact heldInv_leaves h state
  | judged lines =>
    unfold judgeFrame
    split
    · exact h.of_same rfl rfl rfl
    · exact h
  | fewer d q fewer => exact h.setQueue fun e he => (heldInv_iff s).1 h d e (fewer e he)
  | posted d e right =>
    refine h.setQueue fun x hx => ?_
    rcases mem_append_iff hx with old | rfl
    · exact (heldInv_iff s).1 h d x old
    · exact right
  | committed valid started => exact heldInv_committed h
  | firstCommit valid first idle n =>
    have committed := heldInv_committed h
    generalize switchCommitted s = u at committed ⊢
    exact committed.of_same rfl rfl rfl
  | bursts detecting => exact h.of_arbiter (requestBurst_arbiter s)
  | burstOver use running => exact (h.of_same rfl rfl rfl).of_arbiter (grantNext_arbiter _)
  | supplied use => exact h.of_arbiter (grantNext_arbiter s)
  | asks => exact h.of_arbiter (requestSupply_arbiter s)
  | ticks => exact h.of_arbiter (panelTick_arbiter s)
  | _ => exact h.of_same rfl rfl rfl

/-! ### Openings, the end of a command, the full reset -/

theorem heldInv_opening {s t : State} (o : Opening s t) (h : s.HeldInv) : t.HeldInv := by
  cases o with
  | none => exact h
  | notice d sending =>
    unfold noticeDone
    split <;> exact h.of_same rfl rfl rfl
  | delivery d sending =>
    refine h.of_fewer (fun x e he => ?_) rfl rfl
    rw [removeFrom_queue] at he
    split at he
    · subst_vars
      obtain ⟨c, hc⟩ := mem_all_iff.1 he
      rw [without_entries] at hc
      exact mem_all_iff.2 ⟨c, (List.mem_filter.1 hc).1⟩
    · exact he
  | linkReset d =>
    have same := linkCleared_eq d s
    refine h.of_fewer (fun x e he => ?_) (by rw [same]) (by rw [same])
    by_cases other : x = d
    · subst other
      rw [DeliveryQueue.all, linkCleared_entries] at he
      cases he
    · rw [DeliveryQueue.all, (linkCleared_other other s).1] at he
      exact he
  | _ => exact h.of_same rfl rfl rfl

theorem mem_markSending {es : List Entry} {e : Entry} (h : e ∈ markSending es) : e ∈ es ∨ e.held = false := by
  induction es with
  | nil => exact .inl h
  | cons x xs ih =>
    unfold markSending at h
    split at h
    · rename_i eligible
      rcases List.mem_cons.1 h with rfl | tail
      · exact .inr (by simpa using (Bool.and_eq_true_iff.1 eligible).1)
      · exact .inl (List.mem_cons_of_mem _ tail)
    · rcases List.mem_cons.1 h with rfl | tail
      · exact .inl List.mem_cons_self
      · exact (ih tail).imp_left (List.mem_cons_of_mem _)

/-- Of the entries of a queue from which one is offered, each stood there or is not held. -/
theorem mem_offer {q : DeliveryQueue} {c : Class} {n : Nat} {e : Entry} (h : e ∈ (q.offer c n).all) :
    e ∈ q.all ∨ e.held = false := by
  obtain ⟨k, hk⟩ := mem_all_iff.1 h
  rw [DeliveryQueue.offer, PerClass.get_set] at hk
  split at hk
  · exact (mem_markSending hk).imp_left fun he => mem_all_iff.2 ⟨c, he⟩
  · exact .inl (mem_all_iff.2 ⟨k, hk⟩)

theorem heldInv_choose {s : State} (d : Domain) (h : s.HeldInv) : (choose d s).HeldInv := by
  have cases := choose_cases d s
  generalize choose d s = t at cases ⊢
  rcases cases with rfl | ⟨-, -, ⟨r, rs, -, rfl⟩ | ⟨-, session | ⟨-, notice⟩ | ⟨-, -, delivery⟩⟩⟩
  · exact h
  · exact h.of_same rfl rfl rfl
  · unfold beginSessionFrame at session
    split at session
    · split at session <;> cases session <;> exact h.of_same rfl rfl rfl
    · split at session <;> cases session
      exact h.of_same rfl rfl rfl
    · cases session
  · unfold beginNotice at notice
    split at notice <;> cases notice
    exact h.of_same rfl rfl rfl
  · unfold beginDelivery at delivery
    split at delivery
    · cases delivery
    · split at delivery <;> cases delivery
      refine (State.HeldInv.setQueue h fun e he => ?_).of_same rfl rfl rfl
      rcases mem_offer he with old | unheld
      · exact (heldInv_iff s).1 h d e old
      · exact Entry.heldRightly_of_unheld unheld

theorem heldInv_judgeStall {s : State} (d : Domain) (h : s.HeldInv) : (judgeStall d s).HeldInv := by
  rw [judgeStall_eq]; exact h.of_same rfl rfl rfl

/-- What each step of a fold keeps, the fold keeps. -/
theorem foldl_keeps {α : Type} {inv : State → Prop} {f : State → α → State} (h : ∀ s a, inv s → inv (f s a))
    (l : List α) {s : State} (hs : inv s) : inv (l.foldl f s) := by
  induction l generalizing s with
  | nil => exact hs
  | cons a l ih => exact ih (h s a hs)

theorem heldInv_finish {s : State} (h : s.HeldInv) : (finish s).HeldInv :=
  foldl_keeps (fun _ d => heldInv_judgeStall d) _ (foldl_keeps (fun _ d => heldInv_choose d) _ h)

theorem heldInv_fullReset (s : State) : (fullReset s).HeldInv :=
  (heldInv_iff _).2 fun d e he => by rw [fullReset_queue] at he; cases he

end Sys2Proof.Machine

open Sys2Proof Sys2Proof.Machine

/-- Settles O53: each move keeps the invariant; the entries in transmission, which a commit does not mark afresh, are
the ones that are never held. -/
theorem heldEntriesStayHeld : Obligations.HeldEntriesStayHeld :=
  keptByStep_of_moves (fun _ _ => heldInv_move) (fun _ _ => heldInv_opening) (fun _ => heldInv_finish) heldInv_fullReset

end

section
/-! PROOF. O59: the active set stays valid, the panel and the ADC go with the scan in progress, and the records and the
numbers stay in their ranges. -/

namespace Sys2Proof.Machine

open Sys2Proof

/-! ### What the four invariants look at -/

/-- From `s` to `t` nothing has changed that the invariants of the tables look at. -/
structure SameTables (s t : State) : Prop where
  staging : t.staging = s.staging
  active : t.active = s.active
  generation : t.generation = s.generation
  frontEnd : t.frontEnd = s.frontEnd
  adc : t.adc = s.adc
  mapper : t.mapper = s.mapper
  malformed : t.gate.malformed = s.gate.malformed
  session : t.ctl.session = s.ctl.session
  measurement : t.sup.measurement = s.sup.measurement

namespace SameTables

variable {s t : State}

theorem policyInv (k : SameTables s t) (h : s.PolicyInv) : t.PolicyInv := by
  rw [State.PolicyInv, k.active, k.frontEnd, k.generation]; exact h

theorem panelInv (k : SameTables s t) (h : s.PanelInv) : t.PanelInv := by
  rw [State.PanelInv, k.frontEnd, k.adc]; exact h

theorem recordInv (k : SameTables s t) (h : s.RecordInv) : t.RecordInv := by
  rw [State.RecordInv, k.staging, k.active]; exact h

theorem rangeInv (k : SameTables s t) (h : s.RangeInv) : t.RangeInv := by
  rw [State.RangeInv, k.mapper, k.frontEnd, k.malformed, k.session, k.generation, k.measurement]; exact h

end SameTables

theorem finish_sameTables (s : State) : SameTables s (finish s) :=
  have k := finish_transmit s
  ⟨k.staging, k.active, k.generation, k.frontEnd, k.adc, k.mapper, by rw [k.gate], by rw [k.ctl], by rw [k.sup]⟩

theorem opening_sameTables {s t : State} (o : Opening s t) : SameTables s t := by
  cases o with
  | linkReset d => rw [linkCleared_eq]; constructor <;> rfl
  | notice d sending => unfold noticeDone; split <;> constructor <;> rfl
  | _ => constructor <;> rfl

theorem opens_sameTables (s : State) : SameTables s (enterOpen s) := by
  rw [enterOpen_eq_openedAgain]; constructor <;> rfl

theorem leaves_sameTables (s : State) {c : Controller} (session : c.session = (leaveOpen s).ctl.session) :
    SameTables s ((leaveOpen s).setCtl c) := by
  obtain ⟨q, n, marked⟩ := mapEntries_queuesOnly
    (fun e => if !e.sending && onHoldChannel s.active e then { e with held := true } else e)
    ((s.toldAll s.departure).setCtl (unmarked s.ctl))
  have left : leaveOpen s = { (s.toldAll s.departure).setCtl (unmarked s.ctl) with
      switch := { s.switch with queues := q }, notices := n } := by
    rw [leaveOpen_eq, markHeld, toldAll_eq]
    rw [toldAll_eq] at marked
    exact marked
  rw [left] at session ⊢
  rw [toldAll_eq] at session ⊢
  exact ⟨rfl, rfl, rfl, rfl, rfl, rfl, rfl, session, rfl⟩

theorem switchCommitted_staging (s : State) : (switchCommitted s).staging = s.staging := by
  obtain ⟨_, _, h⟩ := switchCommitted_queuesOnly s; rw [h]; rfl

theorem switchCommitted_generation (s : State) : (switchCommitted s).generation = nextGeneration s.generation := by
  obtain ⟨_, _, h⟩ := switchCommitted_queuesOnly s; rw [h]; rfl

/-- What a commit leaves of the rest (R36, R37). -/
theorem switchCommitted_rest (s : State) :
    (switchCommitted s).adc = s.adc ∧ (switchCommitted s).mapper = s.mapper ∧ (switchCommitted s).gate = s.gate ∧
      (switchCommitted s).sup = s.sup := by
  obtain ⟨_, _, h⟩ := switchCommitted_queuesOnly s; rw [h]; exact ⟨rfl, rfl, rfl, rfl⟩

theorem burstOver_arbiter (s : State) :
    ArbiterOnly s (grantNext { s with frontEnd := { s.frontEnd with progress := .none, panel := .detect } }) := by
  obtain ⟨_, _, _, _, e⟩ := grantNext_arbiter
    { s with frontEnd := { s.frontEnd with progress := .none, panel := .detect } }
  exact ⟨_, _, _, _, e⟩

namespace ArbiterOnly

variable {s t : State}

theorem policyInv (k : ArbiterOnly s t) (h : s.PolicyInv) : t.PolicyInv := by
  obtain ⟨_, _, _, _, rfl⟩ := k; exact h

theorem recordInv (k : ArbiterOnly s t) (h : s.RecordInv) : t.RecordInv := by
  obtain ⟨_, _, _, _, rfl⟩ := k; exact h

theorem rangeInv (k : ArbiterOnly s t) (h : s.RangeInv) : t.RangeInv := by
  obtain ⟨_, _, _, _, rfl⟩ := k; exact h

end ArbiterOnly

/-! ### The policy in force (R20, R34, R64) -/

theorem nextGeneration_ne_zero (g : Nat) : nextGeneration g ≠ 0 := by
  unfold nextGeneration; split <;> omega

theorem policyInv_move {s t : State} (m : Move s t) (h : s.PolicyInv) : t.PolicyInv := by
  obtain ⟨valid, started⟩ := h
  cases m with
  | opens => exact (opens_sameTables s).policyInv ⟨valid, started⟩
  | leaves c state session => exact (leaves_sameTables s session).policyInv ⟨valid, started⟩
  | judged lines => unfold judgeFrame; split <;> exact ⟨valid, started⟩
  | committed staged running =>
    refine ⟨by rw [switchCommitted_active]; exact staged, ?_⟩
    rw [switchCommitted_frontEnd, switchCommitted_generation]
    exact ⟨fun idle => absurd ⟨started.1 idle, idle⟩ running, fun zero => absurd zero (nextGeneration_ne_zero _)⟩
  | firstCommit staged first idle n =>
    have active := switchCommitted_active s
    have generation := switchCommitted_generation s
    generalize switchCommitted s = u at active generation ⊢
    refine ⟨(congrArg Policy.validate active).trans staged, fun idle => ?_, fun zero => ?_⟩
    · cases idle
    · exact absurd (generation.symm.trans zero) (nextGeneration_ne_zero _)
  | scanned t k noBurst => exact ⟨valid, (apply_taken s.frontEnd t k).idle.trans started⟩
  | bursts detecting => exact (requestBurst_arbiter s).policyInv ⟨valid, started⟩
  | burstOver use running => exact (burstOver_arbiter s).policyInv ⟨valid, started⟩
  | supplied use => exact (grantNext_arbiter s).policyInv ⟨valid, started⟩
  | asks => exact (requestSupply_arbiter s).policyInv ⟨valid, started⟩
  | ticks => exact (panelTick_arbiter s).policyInv ⟨valid, started⟩
  | _ => exact ⟨valid, started⟩

/-! ### The panel and the ADC (R64, R66–R68) -/

theorem following_mem {a : Arrangement} (h : a ∈ burstOrder) : a.following ∈ burstOrder := by
  cases a <;> simp_all [burstOrder, Arrangement.following]

/-- With a burst waiting the arbiter grants the ADC to it or to a supply conversion (R68). -/
theorem grantNext_of_burst {s : State} (h : s.frontEnd.progress = .burstWaiting) :
    ((grantNext s).frontEnd = { s.frontEnd with progress := .burstRunning, panel := .x } ∧
      (grantNext s).adc.use = .burst) ∨
    ((grantNext s).frontEnd = s.frontEnd ∧ (grantNext s).adc.use = .supply) := by
  unfold grantNext
  rw [decide_eq_true h]
  cases s.adc.supplyWaiting with
  | false => exact .inl ⟨rfl, rfl⟩
  | true =>
    dsimp only
    split
    · exact .inl ⟨rfl, rfl⟩
    · exact .inr ⟨rfl, rfl⟩

theorem panelInv_move {s t : State} (m : Move s t) (h : s.PanelInv) : t.PanelInv := by
  have same := h
  obtain ⟨off, detect, quantity, granted⟩ := h
  have scanning : s.frontEnd.progress ≠ .none → s.frontEnd.scan ≠ .idle := fun busy idle => busy (off idle).2.1
  have timed : s.frontEnd.timer.isRunning = true → s.frontEnd.scan ≠ .idle := fun running idle => by
    rw [(off idle).2.2] at running; cases running
  cases m with
  | opens => exact (opens_sameTables s).panelInv same
  | leaves c state session => exact (leaves_sameTables s session).panelInv same
  | judged lines => unfold judgeFrame; split <;> exact same
  | committed staged running =>
    obtain ⟨adc, -⟩ := switchCommitted_rest s
    rw [State.PanelInv, switchCommitted_frontEnd, adc]
    exact same
  | firstCommit staged first idle n =>
    obtain ⟨adc, -⟩ := switchCommitted_rest s
    generalize switchCommitted s = u at adc ⊢
    have free : s.adc.use ≠ .burst := fun use => by
      have quiet := (off idle).2.1
      rw [granted.1 use] at quiet
      cases quiet
    refine ⟨(fun h => by cases h), fun _ _ => rfl, (fun h => by cases h), fun use => ?_, fun h => by cases h⟩
    exact absurd (adc ▸ use) free
  | interval t running =>
    exact ⟨fun idle => absurd idle (timed running), detect, quantity, granted⟩
  | penDetect t idle running =>
    have free : s.adc.use ≠ .burst := fun use => by
      have busy := granted.1 use
      rw [idle] at busy
      cases busy
    exact ⟨fun idle => absurd idle (timed running), fun scan _ => detect scan (by rw [idle]; exact fun h => by cases h),
      (fun h => by cases h), ⟨fun use => absurd use free, fun h => by cases h⟩⟩
  | bursts detecting =>
    have awake := scanning (by rw [detecting]; exact fun h => by cases h)
    unfold requestBurst
    split
    · exact ⟨fun idle => absurd idle awake, fun _ h => absurd rfl h, fun _ => List.mem_cons_self, fun _ => rfl,
        fun _ => rfl⟩
    · have free : s.adc.use ≠ .burst := fun use => by
        have busy := granted.1 use
        rw [detecting] at busy
        cases busy
      exact ⟨fun idle => absurd idle awake,
        fun scan _ => detect scan (by rw [detecting]; exact fun h => by cases h), (fun h => by cases h),
        ⟨fun use => absurd use free, fun h => by cases h⟩⟩
  | scanned t k noBurst =>
    obtain ⟨idle, -, panel, timer⟩ := apply_taken s.frontEnd t k
    refine ⟨fun here => ?_, fun scan _ => ?_, (fun h => by cases h), fun use => absurd (granted.1 use) noBurst,
      fun h => by cases h⟩
    · obtain ⟨shut, -, stopped⟩ := off (idle.1 here)
      exact ⟨panel.trans shut, rfl, by rw [← stopped, ← timer]⟩
    · exact panel.trans (detect (fun here => scan (idle.2 here)) noBurst)
  | burstOver use running =>
    have awake := scanning (by rw [running]; exact fun h => by cases h)
    obtain ⟨frontEnd, free⟩ := grantNext_of_noBurst
      (s := { s with frontEnd := { s.frontEnd with progress := .none, panel := .detect } }) (fun h => by cases h)
    rw [State.PanelInv, frontEnd]
    exact ⟨fun idle => absurd idle awake, fun _ _ => rfl, (fun h => by cases h), fun use => absurd use free,
      fun h => by cases h⟩
  | supplied use =>
    have quiet : s.frontEnd.progress ≠ .burstRunning := fun busy => by
      have burst := granted.2 busy
      rw [use] at burst
      cases burst
    by_cases waits : s.frontEnd.progress = .burstWaiting
    · have awake := scanning (by rw [waits]; exact fun h => by cases h)
      rcases grantNext_of_burst waits with ⟨frontEnd, granted⟩ | ⟨frontEnd, granted⟩
      · rw [State.PanelInv, frontEnd, granted]
        exact ⟨fun idle => absurd idle awake, fun _ h => absurd rfl h, fun _ => List.mem_cons_self, fun _ => rfl,
          fun _ => rfl⟩
      · rw [State.PanelInv, frontEnd, granted]
        exact ⟨off, detect, quantity, (fun h => by cases h), fun busy => absurd busy quiet⟩
    · obtain ⟨frontEnd, free⟩ := grantNext_of_noBurst waits
      rw [State.PanelInv, frontEnd]
      exact ⟨off, detect, quantity, fun use => absurd use free, fun busy => absurd busy quiet⟩
  | asks =>
    unfold requestSupply
    split
    · rename_i free
      have quiet : s.frontEnd.progress ≠ .burstRunning := fun busy => by
        have burst := granted.2 busy
        rw [free] at burst
        cases burst
      exact ⟨off, detect, quantity, (fun h => by cases h), fun busy => absurd busy quiet⟩
    · exact same
  | ticks =>
    unfold panelTick
    split
    · rename_i busy
      have awake := scanning (by rw [busy]; exact fun h => by cases h)
      exact ⟨fun idle => absurd idle awake, fun _ quiet => absurd busy quiet, fun _ => following_mem (quantity busy),
        granted⟩
    · exact same
  | _ => exact same

/-! ### The records (R22–R31) -/

theorem recordInv_move {s t : State} (m : Move s t) (h : s.RecordInv) : t.RecordInv := by
  cases m with
  | opens => exact (opens_sameTables s).recordInv h
  | leaves c state session => exact (leaves_sameTables s session).recordInv h
  | judged lines => unfold judgeFrame; split <;> exact h
  | staging p range => exact ⟨range h, h.2⟩
  | committed staged running =>
    rw [State.RecordInv, switchCommitted_staging, switchCommitted_active]
    exact ⟨h.1, h.1⟩
  | firstCommit staged first idle n =>
    have staging := switchCommitted_staging s
    have active := switchCommitted_active s
    generalize switchCommitted s = u at staging active ⊢
    change u.staging.inRange ∧ u.active.inRange
    rw [staging, active]
    exact ⟨h.1, h.1⟩
  | bursts detecting => exact (requestBurst_arbiter s).recordInv h
  | burstOver use running => exact (burstOver_arbiter s).recordInv h
  | supplied use => exact (grantNext_arbiter s).recordInv h
  | asks => exact (requestSupply_arbiter s).recordInv h
  | ticks => exact (panelTick_arbiter s).recordInv h
  | _ => exact h

/-! ### The numbers -/

theorem nextGeneration_le {g : Nat} (h : g ≤ 65535) : nextGeneration g ≤ 65535 := by
  unfold nextGeneration; split <;> omega

theorem nextSession_le {n : Nat} (h : n ≤ 255) : nextSession n ≤ 255 := by
  unfold nextSession; split <;> omega

theorem judge_malformed_le (g : Gate) (lines : List Nat) : (g.judge lines).malformed ≤ 2 := by
  unfold Gate.judge
  split
  · exact Nat.zero_le _
  · exact Nat.min_le_left _ _

theorem rangeInv_move {s t : State} (m : Move s t) (h : s.RangeInv) : t.RangeInv := by
  have same := h
  obtain ⟨sx, sy, stroke, reject, malformed, session, generation, measurement⟩ := h
  cases m with
  | kept c state number => exact ⟨sx, sy, stroke, reject, malformed, number.trans_le session, generation, measurement⟩
  | shut c state number => exact ⟨sx, sy, stroke, reject, malformed, number.trans_le session, generation, measurement⟩
  | numbered c state number =>
    exact ⟨sx, sy, stroke, reject, malformed, number.trans_le (nextSession_le session), generation, measurement⟩
  | opens => exact (opens_sameTables s).rangeInv same
  | leaves c state session => exact (leaves_sameTables s session).rangeInv same
  | gate g l kept => exact ⟨sx, sy, stroke, reject, kept.trans_le malformed, session, generation, measurement⟩
  | judged lines =>
    unfold judgeFrame
    split
    · exact ⟨sx, sy, stroke, reject, judge_malformed_le s.gate lines, session, generation, measurement⟩
    · exact same
  | sup u kept => exact ⟨sx, sy, stroke, reject, malformed, session, generation, kept.trans_le measurement⟩
  | measured m l range => exact ⟨sx, sy, stroke, reject, malformed, session, generation, range⟩
  | committed staged running =>
    obtain ⟨-, mapper, gate, sup⟩ := switchCommitted_rest s
    rw [State.RangeInv, mapper, gate, sup, switchCommitted_frontEnd, switchCommitted_ctl, switchCommitted_generation]
    exact ⟨sx, sy, stroke, reject, malformed, session, nextGeneration_le generation, measurement⟩
  | firstCommit staged first idle n =>
    obtain ⟨-, mapper, gate, sup⟩ := switchCommitted_rest s
    have ctl := switchCommitted_ctl s
    have next := switchCommitted_generation s
    generalize switchCommitted s = u at mapper gate sup ctl next ⊢
    exact ⟨mapper ▸ sx, mapper ▸ sy, mapper ▸ stroke, Nat.zero_le _, gate ▸ malformed, ctl ▸ session,
      next.trans_le (nextGeneration_le generation), sup ▸ measurement⟩
  | mapper m range =>
    obtain ⟨sx, sy, stroke⟩ := range ⟨sx, sy, stroke⟩
    exact ⟨sx, sy, stroke, reject, malformed, session, generation, measurement⟩
  | scanned t k noBurst =>
    exact ⟨sx, sy, stroke, (apply_taken s.frontEnd t k).reject, malformed, session, generation, measurement⟩
  | bursts detecting => exact (requestBurst_arbiter s).rangeInv same
  | burstOver use running => exact (burstOver_arbiter s).rangeInv same
  | supplied use => exact (grantNext_arbiter s).rangeInv same
  | asks => exact (requestSupply_arbiter s).rangeInv same
  | ticks => exact (panelTick_arbiter s).rangeInv same
  | _ => exact same

end Sys2Proof.Machine

open Sys2Proof Sys2Proof.Machine

/-- Settles O59, invariant by invariant: the moves' guards say under which conditions each table and each number moves,
and a full reset leaves the default policy and blocks at rest. -/
theorem tablesStayValidAndInRange : Obligations.TablesStayValidAndInRange :=
  ⟨keptByStep_of_moves (fun _ _ => policyInv_move) (fun _ _ o => (opening_sameTables o).policyInv)
      (fun s => (finish_sameTables s).policyInv) fun _ => ⟨default_validate, fun _ => rfl, fun _ => rfl⟩,
    keptByStep_of_moves (fun _ _ => panelInv_move) (fun _ _ o => (opening_sameTables o).panelInv)
      (fun s => (finish_sameTables s).panelInv) fun _ =>
        ⟨fun _ => ⟨rfl, rfl, rfl⟩, fun h => absurd rfl h, (fun h => by cases h), (fun h => by cases h),
          fun h => by cases h⟩,
    keptByStep_of_moves (fun _ _ => recordInv_move) (fun _ _ o => (opening_sameTables o).recordInv)
      (fun s => (finish_sameTables s).recordInv) fun _ => ⟨default_inRange, default_inRange⟩,
    keptByStep_of_moves (fun _ _ => rangeInv_move) (fun _ _ o => (opening_sameTables o).rangeInv)
      (fun s => (finish_sameTables s).rangeInv) fun _ => by
        refine ⟨?_, ?_, ?_, ?_, ?_, ?_, ?_, ?_⟩ <;> exact Nat.zero_le _⟩

end

section
/-! PROOF. A notice box after a commit: the new modes are taken into use and some flags are raised (R160, R161, R165,
R166). -/

namespace Sys2Proof.Machine

open Sys2Proof

/-- A box in which the flags of `l` have been set one after another. -/
def NoticeBox.raised (b : NoticeBox) (m : NoticeMode) (l : List Flag) : NoticeBox :=
  l.foldl (fun b f => b.setFlag m f) b

theorem raised_append (b : NoticeBox) (m : NoticeMode) (l k : List Flag) :
    b.raised m (l ++ k) = (b.raised m l).raised m k := List.foldl_append

theorem raised_ite (b : NoticeBox) (m : NoticeMode) (f : Flag) (c : Prop) [Decidable c] :
    b.raised m (if c then [f] else []) = if c then b.setFlag m f else b := by split <;> rfl

/-! ### The flags -/

theorem setFlag_getLsbD (b : NoticeBox) (m : NoticeMode) (f : Flag) (i : Nat) :
    (b.setFlag m f).flags.getLsbD i = (b.flags.getLsbD i || decide (i = f.bit)) := by
  have small : f.bit < 16 := by cases f <;> decide
  unfold NoticeBox.setFlag
  split
  · rename_i set
    by_cases here : i = f.bit
    · rw [here]; simpa [hasFlag] using set
    · simp [here]
  · rw [judgeRepeat_flags, riseOnPlace_flags, BitVec.getLsbD_or, Flag.mask, BitVec.getLsbD_twoPow]
    by_cases here : i = f.bit
    · simp [here, small]
    · simp [here, Ne.symm here]

theorem raised_getLsbD (b : NoticeBox) (m : NoticeMode) (l : List Flag) (i : Nat) :
    (b.raised m l).flags.getLsbD i = (b.flags.getLsbD i || l.any fun f => decide (i = f.bit)) := by
  induction l generalizing b with
  | nil => simp [NoticeBox.raised]
  | cons f l ih =>
    refine (ih (b.setFlag m f)).trans ?_
    rw [setFlag_getLsbD, List.any_cons, Bool.or_assoc]

theorem takeMode_flags (b : NoticeBox) (m : NoticeMode) : (b.takeMode m).flags = b.flags := by
  unfold NoticeBox.takeMode
  rw [judgeRepeat_flags]
  split <;> rfl

/-! ### The place, the follow-up mark and the repeat timer -/

/-- What a box has become since `b`, when the mode `m` was taken into use and flags have been set (R160, R161, R165,
R166). -/
structure Risen (m : NoticeMode) (b v : NoticeBox) : Prop where
  flags : ∀ i, b.flags.getLsbD i = true → v.flags.getLsbD i = true
  place : v.place =
    if b.place = .empty ∧ (v.flags ≠ b.flags ∨ m.clear = .onReport ∧ b.flags ≠ 0) then .waiting else b.place
  followUp : v.followUp = (b.followUp || decide (v.flags ≠ b.flags ∧ b.place ≠ .empty ∧ b.place ≠ .waiting))
  repeatTimer : v.repeatTimer =
    if m.report = .repeated ∧ m.clear = .onClear ∧ v.flags ≠ 0 then
      (if b.repeatTimer = .stopped ∨ b.flags = 0 then .running 500 else b.repeatTimer)
    else .stopped

/-- The repeat timer judged afresh (R165). -/
theorem judgeRepeat_repeatTimer (m : NoticeMode) (b : NoticeBox) :
    (judgeRepeat m b).repeatTimer =
      if m.report = .repeated ∧ m.clear = .onClear ∧ b.flags ≠ 0 then
        (if b.repeatTimer = .stopped then .running 500 else b.repeatTimer)
      else .stopped := by
  unfold judgeRepeat repeatHolds
  simp only [decide_eq_true_eq]
  split
  · cases h : b.repeatTimer <;> simp [repeatTime, h]
  · rfl

theorem judgeRepeat_followUp (m : NoticeMode) (b : NoticeBox) : (judgeRepeat m b).followUp = b.followUp := by
  unfold judgeRepeat
  split
  · split <;> rfl
  · rfl

theorem takeMode_risen (m : NoticeMode) (b : NoticeBox) : Risen m b (b.takeMode m) := by
  refine ⟨fun i h => by rw [takeMode_flags]; exact h, ?_, ?_, ?_⟩
  · rw [takeMode_flags]
    unfold NoticeBox.takeMode
    rw [judgeRepeat_place]
    by_cases waits : m.clear = .onReport ∧ b.flags ≠ 0 ∧ b.place = .empty
    · obtain ⟨mode, flags, place⟩ := waits
      rw [if_pos ⟨mode, flags, place⟩, if_pos ⟨place, .inr ⟨mode, flags⟩⟩]
    · rw [if_neg waits, if_neg fun h => waits ?_]
      obtain ⟨place, changed | ⟨mode, flags⟩⟩ := h
      · exact absurd rfl changed
      · exact ⟨mode, flags, place⟩
  · rw [takeMode_flags]
    unfold NoticeBox.takeMode
    rw [judgeRepeat_followUp]
    split <;> simp
  · rw [takeMode_flags]
    unfold NoticeBox.takeMode
    rw [judgeRepeat_repeatTimer]
    have keeps : ∀ (c : Prop) [Decidable c], (if c then { b with place := .waiting } else b).flags = b.flags ∧
        (if c then { b with place := .waiting } else b).repeatTimer = b.repeatTimer := fun c _ => by
      split <;> exact ⟨rfl, rfl⟩
    rw [(keeps _).1, (keeps _).2]
    by_cases none : b.flags = 0
    · simp [none]
    · simp only [none, or_false]

/-- A rise on the NOTICE place (R161). -/
theorem riseOnPlace_place (b : NoticeBox) :
    (riseOnPlace b).place = if b.place = .empty then .waiting else b.place := by
  unfold riseOnPlace
  cases h : b.place <;> simp [h]

theorem riseOnPlace_followUp (b : NoticeBox) :
    (riseOnPlace b).followUp = (b.followUp || decide (b.place ≠ .empty ∧ b.place ≠ .waiting)) := by
  unfold riseOnPlace
  cases h : b.place <;> simp

theorem riseOnPlace_repeatTimer (b : NoticeBox) : (riseOnPlace b).repeatTimer = b.repeatTimer := by
  unfold riseOnPlace
  split <;> rfl

theorem Risen.setFlag {m : NoticeMode} {b v : NoticeBox} (h : Risen m b v) (f : Flag) : Risen m b (v.setFlag m f) := by
  by_cases set : hasFlag v.flags f = true
  · rw [NoticeBox.setFlag, if_pos set]; exact h
  · obtain ⟨flags, place, followUp, repeatTimer⟩ := h
    have now := v.hasFlag_setFlag m f
    have grown : ∀ i, b.flags.getLsbD i = true → (v.setFlag m f).flags.getLsbD i = true := fun i hi => by
      rw [setFlag_getLsbD, flags i hi, Bool.true_or]
    have changed : (v.setFlag m f).flags ≠ b.flags := fun same => by
      rw [same] at now
      exact set (flags _ now)
    have some : (v.setFlag m f).flags ≠ 0 := fun none => by
      rw [none] at now
      simp [hasFlag] at now
    have step : v.setFlag m f = judgeRepeat m (riseOnPlace { v with flags := v.flags ||| f.mask }) := if_neg set
    have zero : v.flags = 0 → b.flags = 0 := fun none => BitVec.eq_of_getLsbD_eq fun i _ => by
      refine (Bool.eq_false_iff.2 fun hi => ?_).trans BitVec.getLsbD_zero.symm
      have hv := flags i hi
      rw [none] at hv
      simp at hv
    refine ⟨grown, ?_, ?_, ?_⟩
    · rw [step, judgeRepeat_place, riseOnPlace_place, ← step]
      simp only [changed, ne_eq, not_false_eq_true, true_or, and_true, place]
      by_cases empty : b.place = .empty
      · simp only [empty, true_and]
        split <;> simp
      · simp [empty]
    · rw [step, judgeRepeat_followUp, riseOnPlace_followUp, ← step]
      simp only [changed, ne_eq, not_false_eq_true, true_and, place, followUp]
      by_cases empty : b.place = .empty
      · simp only [empty, true_and]
        split <;> simp
      · simp only [empty, false_and, if_false, not_false_eq_true, true_and]
        cases b.followUp <;> simp
    · rw [step, judgeRepeat_repeatTimer, riseOnPlace_repeatTimer, ← judgeRepeat_flags m, ← step]
      by_cases runs : m.report = .repeated ∧ m.clear = .onClear
      · simp only [runs, some, ne_eq, not_false_eq_true, and_true, if_true, repeatTimer, true_and]
        by_cases none : v.flags = 0
        · simp [none, zero none]
        · simp only [none, not_false_eq_true, if_true]
          split <;> simp_all
      · rw [if_neg fun h => runs ⟨h.1, h.2.1⟩, if_neg fun h => runs ⟨h.1, h.2.1⟩]

theorem raised_risen {m : NoticeMode} {b v : NoticeBox} (h : Risen m b v) (l : List Flag) :
    Risen m b (v.raised m l) := by
  induction l generalizing v with
  | nil => exact h
  | cons f l ih => exact ih (h.setFlag f)

end Sys2Proof.Machine
end

section
/-! PROOF. A trip in OPEN locks the part, said exactly (R126, R51, R58, R96, R135, R139). -/

namespace Sys2Proof.Machine

open Sys2Proof

/-! ### The gate (R135, R139, R140) -/

/-- The gate when a lock set has been written and LOCAL timing asked for: on an idle output the first local frame takes
the layout waiting and shows the set at once. -/
def Gate.lockAsked (g : Gate) (lock : OverlaySet) : Gate :=
  let idle := g.Idle
  { g with
    pending := lock, stopped := g.stopped && !decide (g.timing = .follow)
    timing := if g.timing = .toLocal ∨ g.timing = .follow ∧ g.stopped = false then .toLocal else .localTiming
    active := if idle then lock else g.active
    layout := if idle then g.waiting.getD g.layout else g.layout
    waiting := if idle then none else g.waiting }

/-- What the gate reports then. -/
def Gate.lockReports (g : Gate) (lock : OverlaySet) : List GateReport :=
  if g.Idle ∧ ¬g.active = lock then [.setActive lock.kind] else []

theorem write_lock {lock : OverlaySet} (h : lock.presentation = .lock) (g : Gate) :
    g.write lock = ({ g with pending := lock }, []) := by
  unfold Gate.write
  dsimp only
  rw [if_neg (by rw [h]; exact fun k => by cases k.2.2.1), if_neg (by rw [h]; exact fun k => by cases k.2)]

/-- An output frame start takes the layout waiting and brings the pending set in (R138, R140). -/
theorem frameStart_eq (g : Gate) :
    g.frameStart =
      ({ g with active := g.pending, layout := g.waiting.getD g.layout, waiting := none },
        if g.active ≠ g.pending then [.setActive g.pending.kind] else []) := by
  have taken : g.takeLayout = { g with layout := g.waiting.getD g.layout, waiting := none } := by
    unfold Gate.takeLayout
    cases h : g.waiting with
    | none => cases g; cases h; rfl
    | some l => rfl
  rw [Gate.frameStart, taken, Gate.boundary]
  by_cases same : g.pending = g.active
  · rw [if_pos same, if_neg fun h => h same.symm, same]
  · rw [if_neg same, if_pos fun h => same h.symm]; rfl

theorem askLocal_lock (g : Gate) (lock : OverlaySet) :
    { g with pending := lock }.askLocal = (g.lockAsked lock, g.lockReports lock) := by
  obtain ⟨timing, stopped⟩ := g
  unfold Gate.askLocal Gate.lockAsked Gate.lockReports
  cases timing with
  | follow => cases stopped <;> simp [frameStart_eq, Gate.Idle]
  | toLocal => simp
  | localTiming => simp
  | toFollow => simp
  | rejoin => simp [frameStart_eq, Gate.Idle]

/-! ### The reports of a lock set (R127) -/

/-- The report that the lock set is active tells a controller that knows it already nothing. -/
theorem takeReports_of_lock {s : State} (told : s.reports = [] ∨ s.reports = [.setActive .lock])
    (locked : s.ctl.state = .locked) (shown : s.reports ≠ [] → s.ctl.lockShown = true) :
    takeReports s = { s with reports := [] } := by
  rcases told with none | lock
  · rw [takeReports_of_none none]
    obtain ⟨⟩ := s
    cases none
    rfl
  · have known : ({ s.ctl with lockShown := true } : Controller) = s.ctl := by
      have shown := shown (by rw [lock]; exact List.cons_ne_nil _ _)
      rw [← shown]
    have wave : takeWave s = { s with reports := [] } := by
      rw [takeWave, lock, List.foldl_cons, List.foldl_nil, onReport]
      exact (if_pos locked).trans (by rw [known]; rfl)
    rw [takeReports, wave]
    rfl

/-! ### Entering LOCKED from OPEN (R126) -/

/-- The controller that a trip in OPEN leaves. -/
def trippedCtl (s : State) : Controller :=
  { unmarked s.ctl.erased with
    state := .locked, lockShown := decide ((s.gate.lockAsked (lockSet s.active)).active = lockSet s.active) }

/-- A part whose trip in OPEN has locked it, before the purge (R126). -/
def tripped (s : State) : State :=
  { s.toldAll s.departure with
    ctl := trippedCtl s, gate := s.gate.lockAsked (lockSet s.active)
    reports := s.gate.lockReports (lockSet s.active), sup := { s.sup with silence := .stopped } }

theorem placeTamperEnd_of_opened {s : State} (opened : s.ctl.state = .opened) : placeTamperEnd s = s := by
  unfold placeTamperEnd
  rw [opened]
  cases s.ctl.record <;> rfl

theorem lockWritten_eq {s : State} (opened : s.ctl.state = .opened) (quiet : s.reports = []) :
    lockWritten s =
      { s with
        ctl := s.ctl.erased, gate := s.gate.lockAsked (lockSet s.active)
        reports := s.gate.lockReports (lockSet s.active) } := by
  have asked := askLocal_lock s.gate (lockSet s.active)
  rw [lockWritten, placeTamperEnd_of_opened opened, askLocal, writeSet]
  simp only [gateDo, State.gate_setCtl, write_lock (lock := lockSet s.active) rfl, asked, State.reports_setCtl, quiet,
    List.append_nil, List.nil_append]
  rfl

theorem toldAll_with (s : State) (l : List InputEvent) (c : Controller) (g : Gate) (r : List GateReport) :
    ({ s with ctl := c, gate := g, reports := r } : State).toldAll l =
      { s.toldAll l with ctl := c, gate := g, reports := r } := by
  induction l generalizing s with
  | nil => rfl
  | cons e l ih => exact ih (s.told e)

/-- Marking entries held and the controller's and the supervisor's moves act on different fields. -/
theorem disarm_setCtl_markHeld (s : State) (c : Controller) :
    disarmSilence ((markHeld s).setCtl c) = markHeld (disarmSilence (s.setCtl c)) := rfl

theorem lockedCtl_markHeld (p : Policy) (s : State) : lockedCtl p (markHeld s) = lockedCtl p s := rfl

theorem enterLocked_of_opened {s : State} (opened : s.ctl.state = .opened) (quiet : s.reports = []) :
    enterLocked s = lockedPurge (markHeld (tripped s)) := by
  have sup : (s.toldAll s.departure).sup = s.sup := by rw [toldAll_eq]
  rw [enterLocked_eq, if_pos opened, lockWritten_eq opened quiet, leaveOpen_eq, toldAll_with]
  dsimp only
  rw [disarm_setCtl_markHeld, lockedCtl_markHeld, tripped, ← sup]
  rfl

/-! ### The queues and the boxes at a lock (R51, R58, R62) -/

theorem spaceJudged_raised (s : State) (gone : Entry → Bool) (d : Domain) (b : NoticeBox) :
    s.spaceJudged gone d b = b.raised (s.noticeMode d)
      (if allDomains.any fun x => s.meetsSpace gone x d .priority || s.meetsSpace gone x d .bulk then [.queueSpace]
        else []) := by
  rw [raised_ite]; rfl

/-- An entry once the controller has left OPEN (R51). -/
def leftEntry (p : Policy) (e : Entry) : Entry :=
  if !e.sending && onHoldChannel p e then { e with held := true } else e

/-- What marking the entries held and purging those of APP leave. -/
structure HeldAndPurged (s t : State) : Prop where
  entries : ∀ d c, (t.queue d).entries.get c =
    (((s.queue d).entries.get c).map (leftEntry s.active)).filter fun e => !spares (onAppChannel s.active) e
  run : ∀ d, (t.queue d).run = (s.queue d).run
  box : ∀ d, t.box d = s.box d ∨ t.box d = (s.box d).setFlag (s.noticeMode d) .queueSpace
  rest : QueuesOnly s t

theorem lockedPurge_markHeld (s : State) : HeldAndPurged s (lockedPurge (markHeld s)) := by
  have marked : QueuesOnly s (markHeld s) := mapEntries_queuesOnly _ s
  have queue : ∀ d, (markHeld s).queue d = (s.queue d).mapLists fun es => es.map (leftEntry s.active) := fun d =>
    mapEntries_queue _ s d
  have entries : ∀ d c, ((markHeld s).queue d).entries.get c = ((s.queue d).entries.get c).map (leftEntry s.active) :=
    fun d c => mapEntries_entries _ s d c
  have box : ∀ d, (markHeld s).box d = s.box d := fun d => by
    simp only [markHeld, mapEntries, allDomains, List.foldl_cons, List.foldl_nil, State.box_setQueue]
  have mode : ∀ d, (markHeld s).noticeMode d = s.noticeMode d := fun d => by rw [State.noticeMode, marked.active]; rfl
  have purged := purge_purged (onAppChannel s.active) (markHeld s)
  have same : lockedPurge (markHeld s) = purge (onAppChannel s.active) (markHeld s) := by
    rw [lockedPurge, marked.active]
  rw [same]
  refine ⟨fun d c => ?_, fun d => ?_, fun d => ?_, marked.trans purged.rest⟩
  · rw [purged.entries, entries]
  · rw [purged.run, queue]; rfl
  · rw [purged.box, State.spaceJudged, box, marked.active]
    split
    · exact .inr rfl
    · exact .inl rfl

/-- The reports of a locked part tell the controller nothing new (R127). -/
theorem takeReports_enterLocked {s : State} (opened : s.ctl.state = .opened) (quiet : s.reports = []) :
    takeReports (enterLocked s) = { enterLocked s with reports := [] } := by
  rw [enterLocked_of_opened opened quiet]
  obtain ⟨q, n, same⟩ := (lockedPurge_markHeld (tripped s)).rest
  rw [same]
  refine takeReports_of_lock ?_ rfl fun some => ?_
  · change s.gate.lockReports (lockSet s.active) = [] ∨
      s.gate.lockReports (lockSet s.active) = [.setActive .lock]
    unfold Gate.lockReports
    split
    · exact .inr rfl
    · exact .inl rfl
  · change s.gate.lockReports (lockSet s.active) ≠ _ at some
    unfold Gate.lockReports at some
    split at some
    · rename_i idle
      exact decide_eq_true (if_pos idle.1)
    · exact absurd rfl some

end Sys2Proof.Machine
end

section
/-! PROOF. The parts of a commit, said exactly (R36–R39, R59, R62, R64, R148, R149, R166). -/

namespace Sys2Proof.Machine

open Sys2Proof

/-! ### The queues and the boxes (R37, R59, R62, R166) -/

theorem switchCommitted_run (s : State) (d : Domain) : ((switchCommitted s).queue d).run = (s.queue d).run := by
  have purged := purge_purged (unfit s.active s.staging) (commitNotices (tablesInForce s))
  rw [switchCommitted, remarkHeld, mapEntries_queue]
  refine (purged.run d).trans ?_
  rw [commitNotices_queue]
  rfl

theorem meetsSpace_committed (s : State) (gone : Entry → Bool) (d x : Domain) (k : Class) :
    (commitNotices (tablesInForce s)).meetsSpace gone d x k = s.meetsSpace gone d x k :=
  meetsSpace_of_queue (by rw [commitNotices_queue]; rfl) gone x k

theorem switchCommitted_wanted (s : State) (d x : Domain) (k : Class) :
    (((switchCommitted s).queue d).wanted.get x).get k =
      (((s.queue d).wanted.get x).get k && !s.meetsSpace (spares (unfit s.active s.staging)) d x k) := by
  have purged := purge_purged (unfit s.active s.staging) (commitNotices (tablesInForce s))
  rw [switchCommitted, remarkHeld, mapEntries_queue]
  refine (purged.wanted d x k).trans ?_
  rw [commitNotices_queue, meetsSpace_committed]
  rfl

/-- The flag that tells `d` of a commit (R36). -/
def commitFlag : Domain → List Flag
  | .pay => []
  | .app => [.slotChange]
  | .rad => [.policyChange]

/-- The flags that a commit sets for `d` (R36, R62). -/
def committedFlags (s : State) (d : Domain) : List Flag :=
  commitFlag d ++ if allDomains.any fun x => s.meetsSpace (spares (unfit s.active s.staging)) x d .priority ||
      s.meetsSpace (spares (unfit s.active s.staging)) x d .bulk then [.queueSpace] else []

theorem takeNoticeModes_box (s : State) (d : Domain) :
    (takeNoticeModes s).box d = (s.box d).takeMode (s.noticeMode d) := by cases d <;> rfl

theorem noticeMode_commitNotices (s : State) (d : Domain) : (commitNotices s).noticeMode d = s.noticeMode d := by
  rw [State.noticeMode, (commitNotices_queuesOnly s).active]; rfl

theorem commitNotices_box (s : State) (d : Domain) :
    (commitNotices s).box d = ((s.box d).takeMode (s.noticeMode d)).raised (s.noticeMode d)
      (commitFlag d) := by
  have mode : ∀ d, (takeNoticeModes s).noticeMode d = s.noticeMode d := fun d => by
    rw [State.noticeMode, (takeNoticeModes_queuesOnly s).active]; rfl
  have mode' : (setFlag .app .slotChange (takeNoticeModes s)).noticeMode .rad = s.noticeMode .rad := mode .rad
  unfold commitNotices
  rw [setFlag_box, setFlag_box, setFlag_box, takeNoticeModes_box, takeNoticeModes_box, takeNoticeModes_box, mode, mode']
  cases d <;> rfl

theorem switchCommitted_box (s : State) (d : Domain) :
    (switchCommitted s).box d =
      ((s.box d).takeMode (s.staging.notices.get d)).raised (s.staging.notices.get d) (committedFlags s d) := by
  have purged := purge_purged (unfit s.active s.staging) (commitNotices (tablesInForce s))
  have marked : (switchCommitted s).box d =
      (purge (unfit s.active s.staging) (commitNotices (tablesInForce s))).box d := by
    simp only [switchCommitted, remarkHeld, mapEntries, allDomains, List.foldl_cons, List.foldl_nil, State.box_setQueue]
  have tables : (tablesInForce s).noticeMode d = s.staging.notices.get d := rfl
  have before : (tablesInForce s).box d = s.box d := rfl
  rw [marked, purged.box, spaceJudged_raised, commitNotices_box, noticeMode_commitNotices, tables, before,
    ← raised_append, committedFlags]
  simp only [meetsSpace_committed]

/-! ### Before any trip (R39, R64, R148) -/

/-- The front end after a commit: the one that leaves generation 0 starts it (R64). -/
def committedFrontEnd (s : State) : FrontEnd :=
  if s.generation = 0 ∧ s.frontEnd.scan = .idle then startedFrontEnd s s.staging.touch.scanPeriod else s.frontEnd

/-- The tamper inputs with their normal levels latched (R148). -/
def latchedTampers (s : State) : PerTamper Tamper :=
  ⟨latchNormal s.active.supervision.sense.a s.staging.supervision.sense.a s.sup.tamper.a,
    latchNormal s.active.supervision.sense.b s.staging.supervision.sense.b s.sup.tamper.b⟩

/-- The part once a commit has acted on every block, before the trip conditions are judged. -/
def committed (s : State) : State :=
  { switchCommitted s with
    frontEnd := committedFrontEnd s, gate := { s.gate with waiting := some s.staging.layout }
    sup := { s.sup with tamper := latchedTampers s } }

theorem noContactReport_of_openedOrLocked {s : State} (h : s.ctl.state = .opened ∨ s.ctl.state = .locked) :
    noContactReport s = s := by
  unfold noContactReport
  rcases h with h | h <;> rw [h]

theorem acceptCommit_eq {s : State} (h : s.ctl.state = .opened ∨ s.ctl.state = .locked) :
    acceptCommit s = judgeTamper .b (judgeTamper .a (committed s)) := by
  have front : (if s.generation = 0 then startFrontEnd (switchCommitted s) else switchCommitted s) =
      { switchCommitted s with frontEnd := committedFrontEnd s } := by
    have frontEnd := switchCommitted_frontEnd s
    have active := switchCommitted_active s
    have ctl := switchCommitted_ctl s
    unfold committedFrontEnd
    generalize switchCommitted s = u at frontEnd active ctl ⊢
    have same : { u with frontEnd := s.frontEnd } = u := by rw [← frontEnd]
    by_cases first : s.generation = 0
    · rw [if_pos first, startFrontEnd, frontEnd]
      by_cases idle : s.frontEnd.scan = .idle
      · rw [if_pos idle, if_pos ⟨first, idle⟩, noContactReport_of_openedOrLocked (by rw [← ctl] at h; exact h),
          ← active]
        rfl
      · rw [if_neg idle, if_neg fun k => idle k.2, same]
    · rw [if_neg first, if_neg fun k => first k.1, same]
  obtain ⟨-, -, gate, sup⟩ := switchCommitted_rest s
  have active := switchCommitted_active s
  unfold acceptCommit committed
  dsimp only
  rw [show commitSwitch s.active (commitTables s) = switchCommitted s from rfl, front]
  generalize switchCommitted s = u at gate sup active ⊢
  unfold latchedTampers
  rw [← gate, ← sup, ← active]
  rfl

/-! ### Trips (R148, R149) -/

/-- A tamper input with its trip condition judged; where the condition begins, the input latches. -/
def Tamper.judged (t : Tamper) (sense : Sense) : Tamper :=
  { t with
    inTrip := sense.met t.filtered t.normal, latch := t.latch || (sense.met t.filtered t.normal && !t.inTrip) }

/-- Whether the trip condition of input `i` begins when it is judged. -/
def State.begins (s : State) (i : TamperInput) : Bool :=
  (s.active.supervision.sense.get i).met (s.tamper i).filtered (s.tamper i).normal && !(s.tamper i).inTrip

/-- Input `i` judged, without what a trip brings about. -/
def State.judgedAt (s : State) (i : TamperInput) : State :=
  s.setTamper i ((s.tamper i).judged (s.active.supervision.sense.get i))

theorem State.setTamper_setTamper (s : State) (i : TamperInput) (t v : Tamper) :
    (s.setTamper i t).setTamper i v = s.setTamper i v := by cases i <;> rfl

theorem judgeTamper_of_quiet {s : State} {i : TamperInput} (h : s.begins i = false) :
    judgeTamper i s = s.judgedAt i := by
  unfold State.begins at h
  unfold judgeTamper State.judgedAt Tamper.judged
  dsimp only
  rw [h, Bool.or_false]
  rfl

theorem judgeTamper_of_begins {s : State} {i : TamperInput} (h : s.begins i = true) :
    judgeTamper i s =
      if s.ctl.state = .locked then s.judgedAt i
      else takeReports (enterLocked (setFlag .pay .tamper (s.judgedAt i))) := by
  have judged : ∀ v, (s.setTamper i v).setTamper i { (s.setTamper i v).tamper i with latch := true } =
      s.setTamper i { v with latch := true } := fun v => by
    rw [State.tamper_setTamper_same, State.setTamper_setTamper]
  have now : s.judgedAt i = s.setTamper i
      { s.tamper i with
        inTrip := (s.active.supervision.sense.get i).met (s.tamper i).filtered (s.tamper i).normal
        latch := true } := by
    unfold State.begins at h
    unfold State.judgedAt Tamper.judged
    rw [h, Bool.or_true]
  unfold State.begins at h
  unfold judgeTamper trip tamperTrip
  dsimp only
  rw [if_pos h, judged, now]
  by_cases locked : s.ctl.state = .locked
  · rw [if_pos locked]; exact if_pos locked
  · rw [if_neg locked]
    exact (if_neg locked).trans (if_neg locked)

/-- Both inputs judged, without what a trip brings about. -/
def State.bothJudged (s : State) : State := (s.judgedAt .a).judgedAt .b

/-- With no trip, or none outside LOCKED, the judging changes the tamper inputs alone. -/
theorem judgeTampers_of_quiet {s : State} (h : s.ctl.state = .locked ∨ ∀ i, s.begins i = false) :
    judgeTamper .b (judgeTamper .a s) = s.bothJudged := by
  have each : ∀ (t : State) (i : TamperInput), t.ctl.state = .locked ∨ t.begins i = false →
      judgeTamper i t = t.judgedAt i := fun t i ht => by
    cases begins : t.begins i with
    | false => exact judgeTamper_of_quiet begins
    | true =>
      rw [judgeTamper_of_begins begins, if_pos]
      exact ht.resolve_right fun none => by rw [begins] at none; cases none
  rw [each s .a (h.imp_right fun none => none .a), each (s.judgedAt .a) .b (h.imp_right fun none => none .b)]
  rfl

/-- A trip of a part in OPEN: PAY's flag is set, and the part locked (R149, R126). -/
def lockedBy (s : State) : State := takeReports (enterLocked (setFlag .pay .tamper s))

/-- What such a trip leaves. -/
structure LockedBy (s u : State) : Prop where
  ctl : u.ctl = trippedCtl s
  inputs : u.inputs = s.departure.foldl (joinInput s.inputSending) s.inputs
  lost : u.lost = (s.lost || decide (32 < s.inputs.length + s.departure.length))
  gate : u.gate = s.gate.lockAsked (lockSet s.active)
  silence : u.sup.silence = .stopped
  entryEnd : u.entryEnd = s.entryEnd
  progress : u.progress = s.progress
  reports : u.reports = []
  entries : ∀ d c, (u.queue d).entries.get c =
    (((s.queue d).entries.get c).map (leftEntry s.active)).filter fun e => !spares (onAppChannel s.active) e
  run : ∀ d, (u.queue d).run = (s.queue d).run
  box : ∀ d, ∃ l : List Flag, u.box d = (s.box d).raised (s.noticeMode d) l ∧ (d = .pay → .tamper ∈ l) ∧
    ∀ f ∈ l, f = .queueSpace ∨ d = .pay ∧ f = .tamper
  only : SessionOnly s u

/-- The flags of a tripped part before the purge. -/
theorem setFlag_tamper_box (s : State) (d : Domain) :
    (setFlag .pay .tamper s).box d = (s.box d).raised (s.noticeMode d) (if d = .pay then [.tamper] else []) := by
  rw [setFlag_box, raised_ite]
  split
  · subst_vars; rfl
  · rfl

theorem lockedBy_lockedBy {s : State} (opened : s.ctl.state = .opened) (quiet : s.reports = []) :
    LockedBy s (lockedBy s) := by
  have locked := takeReports_enterLocked (s := setFlag .pay .tamper s) opened quiet
  have only : SessionOnly s (lockedBy s) :=
    ((setFlag_only .pay .tamper s).trans (enterLocked_only _)).trans (takeReports_only _)
  unfold lockedBy at only ⊢
  rw [locked] at only ⊢
  rw [enterLocked_of_opened (s := setFlag .pay .tamper s) opened quiet] at only ⊢
  have purged := lockedPurge_markHeld (tripped (setFlag .pay .tamper s))
  generalize lockedPurge (markHeld (tripped (setFlag .pay .tamper s))) = y at purged only ⊢
  obtain ⟨entries, run, box, q, n, same⟩ := purged
  have told := toldAll_eq (setFlag .pay .tamper s) (setFlag .pay .tamper s).departure
  have active : (tripped (setFlag .pay .tamper s)).active = s.active := by rw [tripped, told]; rfl
  have queue : ∀ d, (tripped (setFlag .pay .tamper s)).queue d = s.queue d := fun d => by rw [tripped, told]; rfl
  have boxes : ∀ d, (tripped (setFlag .pay .tamper s)).box d = (setFlag .pay .tamper s).box d := fun d => by
    rw [tripped, told]; rfl
  have mode : ∀ d, (tripped (setFlag .pay .tamper s)).noticeMode d = s.noticeMode d := fun d => by
    rw [State.noticeMode, active]; rfl
  simp only [active, queue] at entries run
  simp only [boxes, mode, setFlag_tamper_box] at box
  have some : s.departure ≠ [] := by
    rw [departure_eq]; exact List.append_ne_nil_of_right_ne_nil _ (List.cons_ne_nil _ _)
  refine ⟨?_, ?_, ?_, ?_, ?_, ?_, ?_, rfl, entries, run, fun d => ?_, only⟩
  · rw [same]; rfl
  · rw [same]; exact toldAll_inputs _ _
  · rw [same]; exact toldAll_lost _ some
  · rw [same]; rfl
  · rw [same]; rfl
  · rw [same, tripped, told]; rfl
  · rw [same, tripped, told]; rfl
  · have flags : ∀ f ∈ (if d = .pay then [Flag.tamper] else []), d = .pay ∧ f = .tamper := fun f hf => by
      split at hf
      · exact ⟨‹_›, List.mem_singleton.1 hf⟩
      · cases hf
    rcases box d with plain | space
    · exact ⟨_, plain, fun pay => by rw [if_pos pay]; exact List.mem_singleton_self _, fun f hf => .inr (flags f hf)⟩
    · refine ⟨(if d = .pay then [.tamper] else []) ++ [.queueSpace], (by rw [raised_append]; exact space),
        fun pay => List.mem_append_left _ (by rw [if_pos pay]; exact List.mem_singleton_self _), fun f hf => ?_⟩
      exact (List.mem_append.1 hf).symm.imp List.mem_singleton.1 (flags f)

/-- The part with other tamper inputs. -/
def State.withTampers (s : State) (t : PerTamper Tamper) : State := s.setSup { s.sup with tamper := t }

/-- A trip in OPEN locks the part once; the other input, judged after it, only latches. -/
theorem judgeTampers_of_trip {s : State} (opened : s.ctl.state = .opened) (quiet : s.reports = [])
    (some : ∃ i, s.begins i = true) :
    ∃ t, judgeTamper .b (judgeTamper .a s) = (lockedBy (s.withTampers t)).withTampers s.bothJudged.sup.tamper := by
  have unlocked : ∀ t : State, t.ctl = s.ctl → ¬t.ctl.state = .locked := fun t h => by
    rw [h, opened]; exact fun k => by cases k
  cases first : s.begins .a with
  | true =>
    have trips : judgeTamper .a s = lockedBy (s.judgedAt .a) := by
      rw [judgeTamper_of_begins first, if_neg (unlocked s rfl)]; rfl
    have locked := lockedBy_lockedBy (s := s.judgedAt .a) opened quiet
    refine ⟨(s.judgedAt .a).sup.tamper, ?_⟩
    rw [trips, show s.withTampers (s.judgedAt .a).sup.tamper = s.judgedAt .a from rfl]
    have tamper := locked.only.tamper
    have active := locked.only.active
    have state : (lockedBy (s.judgedAt .a)).ctl.state = .locked := by rw [locked.ctl]; rfl
    generalize lockedBy (s.judgedAt .a) = u at tamper active state ⊢
    have second : judgeTamper .b u = u.judgedAt .b := by
      cases later : u.begins .b with
      | true => rw [judgeTamper_of_begins later, if_pos state]
      | false => exact judgeTamper_of_quiet later
    rw [second, State.judgedAt, State.withTampers, State.setTamper, State.tamper, tamper, active]
    rfl
  | false =>
    have trips : s.begins .b = true := by
      obtain ⟨i, hi⟩ := some
      cases i with
      | a => rw [first] at hi; cases hi
      | b => exact hi
    have locked := lockedBy_lockedBy (s := s.bothJudged) opened quiet
    refine ⟨s.bothJudged.sup.tamper, ?_⟩
    rw [judgeTamper_of_quiet first, judgeTamper_of_begins (s := s.judgedAt .a) trips,
      if_neg (unlocked (s.judgedAt .a) rfl),
      show s.withTampers s.bothJudged.sup.tamper = s.bothJudged from rfl]
    have tamper := locked.only.tamper
    change lockedBy s.bothJudged = _
    generalize lockedBy s.bothJudged = u at tamper ⊢
    rw [← tamper]
    rfl

end Sys2Proof.Machine
end

section
/-! PROOF. O20: what a commit leaves, with and without a trip (R34, R36–R39, R59, R149, R166). -/

namespace Sys2Proof.Machine

open Sys2Proof

/-! ### The part before any trip is judged -/

/-- A commit acts on the tables, the front end, the gate, the tamper inputs, the queues and the boxes. -/
theorem committed_same (s : State) :
    ∃ q n, committed s =
      { tablesInForce s with
        frontEnd := committedFrontEnd s, gate := { s.gate with waiting := some s.staging.layout }
        sup := { s.sup with tamper := latchedTampers s }
        switch := { (tablesInForce s).switch with queues := q }, notices := n } := by
  obtain ⟨q, n, same⟩ := switchCommitted_queuesOnly s
  exact ⟨q, n, by rw [committed, same]⟩

theorem committed_active (s : State) : (committed s).active = s.staging := by
  obtain ⟨_, _, same⟩ := committed_same s; rw [same]; rfl

theorem committed_ctl (s : State) : (committed s).ctl = s.ctl := by
  obtain ⟨_, _, same⟩ := committed_same s; rw [same]; rfl

theorem committed_reports (s : State) : (committed s).reports = s.reports := by
  obtain ⟨_, _, same⟩ := committed_same s; rw [same]; rfl

theorem committed_queue (s : State) (d : Domain) : (committed s).queue d = (switchCommitted s).queue d := by
  unfold committed; generalize switchCommitted s = u; rfl

theorem committed_box (s : State) (d : Domain) : (committed s).box d = (switchCommitted s).box d := by
  unfold committed; generalize switchCommitted s = u; rfl

theorem committed_departure (s : State) :
    (committed s).departure = ({ s with active := s.staging } : State).departure := by
  obtain ⟨_, _, same⟩ := committed_same s; rw [same]; rfl

theorem bothJudged_tamper (s : State) (i : TamperInput) :
    s.bothJudged.tamper i = (s.tamper i).judged (s.active.supervision.sense.get i) := by cases i <;> rfl

/-- An input whose sense becomes TRIP_CHANGE latches its normal level, and nothing else of it changes (R148). -/
theorem committed_tamper (s : State) (i : TamperInput) :
    (committed s).tamper i = { s.tamper i with
      normal := if s.staging.supervision.sense.get i = .tripChange ∧ s.active.supervision.sense.get i ≠ .tripChange
        then (s.tamper i).filtered else (s.tamper i).normal } := by
  have latched : ∀ (old new : Sense) (t : Tamper), latchNormal old new t =
      { t with normal := if new = .tripChange ∧ old ≠ .tripChange then t.filtered else t.normal } := fun old new t => by
    unfold latchNormal; split <;> rfl
  cases i with
  | a => exact latched _ _ _
  | b => exact latched _ _ _

/-- Input `i` once a commit has judged it. -/
def committedTamper (s : State) (i : TamperInput) : Tamper :=
  ((committed s).tamper i).judged (s.staging.supervision.sense.get i)

theorem committed_begins (s : State) (i : TamperInput) :
    (committed s).begins i = ((committedTamper s i).inTrip && !(s.tamper i).inTrip) := by
  rw [State.begins, committed_active, committedTamper, committed_tamper]
  rfl

theorem withTampers_queue (s : State) (t : PerTamper Tamper) (d : Domain) : (s.withTampers t).queue d = s.queue d := rfl

theorem withTampers_box (s : State) (t : PerTamper Tamper) (d : Domain) : (s.withTampers t).box d = s.box d := rfl

theorem withTampers_noticeMode (s : State) (t : PerTamper Tamper) (d : Domain) :
    (s.withTampers t).noticeMode d = s.noticeMode d := rfl

theorem bothJudged_queue (s : State) (d : Domain) : s.bothJudged.queue d = s.queue d := rfl

theorem bothJudged_box (s : State) (d : Domain) : s.bothJudged.box d = s.box d := rfl

theorem bothJudged_reports (s : State) : s.bothJudged.reports = s.reports := rfl

/-! ### With and without a trip -/

theorem acceptCommit_of_quiet {s : State} (h : s.ctl.state = .opened ∨ s.ctl.state = .locked)
    (none : s.ctl.state = .locked ∨ ∀ i, (committed s).begins i = false) :
    acceptCommit s = (committed s).bothJudged := by
  rw [acceptCommit_eq h]
  exact judgeTampers_of_quiet (by rw [committed_ctl]; exact none)

/-- A commit at which a trip condition begins in OPEN is that commit and then the trip (R149). -/
theorem acceptCommit_of_trip {s : State} (opened : s.ctl.state = .opened) (quiet : s.reports = [])
    (some : ∃ i, (committed s).begins i = true) :
    ∃ t u, LockedBy ((committed s).withTampers t) u ∧
      acceptCommit s = u.withTampers (committed s).bothJudged.sup.tamper := by
  have state : (committed s).ctl.state = .opened := by rw [committed_ctl]; exact opened
  have reports : (committed s).reports = [] := by rw [committed_reports]; exact quiet
  rw [acceptCommit_eq (.inl opened)]
  generalize committed s = b at state reports some ⊢
  obtain ⟨t, trips⟩ := judgeTampers_of_trip state reports some
  exact ⟨t, _, lockedBy_lockedBy (s := b.withTampers t) state reports, trips⟩

/-- Whether a commit in `s` trips the part. -/
def CommitTrips (s : State) : Prop := s.ctl.state = .opened ∧ ∃ i, (committed s).begins i = true

/-- What a commit leaves, whether it trips the part or not. -/
structure CommitTaken (s u : State) : Prop where
  only : SessionOnly (committed s).bothJudged u
  reports : u.reports = []
  run : ∀ d, (u.queue d).run = (s.queue d).run
  box : ∀ d, ∃ l : List Flag,
    u.box d = ((s.box d).takeMode (s.staging.notices.get d)).raised (s.staging.notices.get d)
      (committedFlags s d ++ l) ∧
    (CommitTrips s → d = .pay → .tamper ∈ l) ∧
    ∀ f ∈ l, CommitTrips s ∧ (f = .queueSpace ∨ d = .pay ∧ f = .tamper)

/-- The tamper inputs put aside, a trip changes only what the end of a session changes. -/
theorem withTampers_only {b u : State} {t : PerTamper Tamper} (h : SessionOnly (b.withTampers t) u) :
    SessionOnly b.bothJudged (u.withTampers b.bothJudged.sup.tamper) where
  pending := h.pending
  inReset := h.inReset
  ports := h.ports
  staging := h.staging
  active := h.active
  generation := h.generation
  frontEnd := h.frontEnd
  adc := h.adc
  mapper := h.mapper
  keys := h.keys
  arbiterCount := h.arbiterCount
  bars := h.bars
  levels := h.levels
  refillTimer := h.refillTimer
  requestTimer := h.requestTimer
  measurement := h.measurement
  level := h.level
  tamper := rfl

theorem taken_of_trip {s : State} (trips : CommitTrips s) (quiet : s.reports = []) :
    CommitTaken s (acceptCommit s) := by
  obtain ⟨t, u, locked, same⟩ := acceptCommit_of_trip trips.1 quiet trips.2
  rw [same]
  refine ⟨withTampers_only locked.only, locked.reports, fun d => ?_, fun d => ?_⟩
  · rw [withTampers_queue, locked.run, withTampers_queue, committed_queue, switchCommitted_run]
  · obtain ⟨l, box, tamper, all⟩ := locked.box d
    have mode : (committed s).noticeMode d = s.staging.notices.get d := by rw [State.noticeMode, committed_active]
    rw [withTampers_noticeMode, withTampers_box, mode, committed_box, switchCommitted_box, ← raised_append] at box
    exact ⟨l, box, fun _ => tamper, fun f hf => ⟨trips, all f hf⟩⟩

theorem commitTrips_or {s : State} (h : s.ctl.state = .opened ∨ s.ctl.state = .locked) :
    CommitTrips s ∨ s.ctl.state = .locked ∨ ∀ i, (committed s).begins i = false := by
  by_cases trips : CommitTrips s
  · exact .inl trips
  · refine .inr (h.symm.imp_right fun opened i => Bool.eq_false_iff.2 fun begins => trips ⟨opened, i, begins⟩)

theorem taken_of_quiet {s : State} (h : s.ctl.state = .opened ∨ s.ctl.state = .locked) (trips : ¬CommitTrips s)
    (quiet : s.reports = []) : CommitTaken s (acceptCommit s) := by
  rw [acceptCommit_of_quiet h ((commitTrips_or h).resolve_left trips)]
  refine ⟨.refl _, ?_, fun d => ?_, fun d => ⟨[], ?_, fun k => absurd k trips, ?_⟩⟩
  · rw [bothJudged_reports, committed_reports, quiet]
  · rw [bothJudged_queue, committed_queue, switchCommitted_run]
  · rw [List.append_nil, ← switchCommitted_box, bothJudged_box, committed_box]
  · exact fun f hf => by cases hf

theorem acceptCommit_taken {s : State} (h : s.ctl.state = .opened ∨ s.ctl.state = .locked) (quiet : s.reports = []) :
    CommitTaken s (acceptCommit s) := by
  by_cases trips : CommitTrips s
  · exact taken_of_trip trips quiet
  · exact taken_of_quiet h trips quiet

end Sys2Proof.Machine
end

section
/-! PROOF. O20: what a commit leaves, in the terms of the statement. -/

namespace Sys2Proof.Machine

open Sys2Proof

/-! ### The fields that no trip touches -/

/-- The fields that a commit leaves alike with and without a trip. -/
structure CommitFields (s u : State) : Prop where
  ports : u.ports = s.ports
  active : u.active = s.staging
  staging : u.staging = s.staging
  generation : u.generation = nextGeneration s.generation
  bars : u.switch.bars = committedBars s.staging
  levels : u.switch.levels = committedLevels s.active s.staging s.switch.levels
  frontEnd : u.frontEnd = committedFrontEnd s
  mapper : u.mapper = s.mapper
  keys : u.keys = s.keys
  adc : u.adc = s.adc
  refillTimer : u.switch.refillTimer = s.switch.refillTimer
  measurement : u.sup.measurement = s.sup.measurement
  level : u.sup.level = s.sup.level
  requestTimer : u.sup.requestTimer = s.sup.requestTimer
  arbiterCount : u.arbiterCount = s.arbiterCount
  pending : u.pending = s.pending
  tamper : ∀ i, u.tamper i = committedTamper s i

theorem CommitTaken.fields {s u : State} (k : CommitTaken s u) : CommitFields s u := by
  have tamper : ∀ i, u.tamper i = committedTamper s i := fun i => by
    rw [State.tamper, k.only.tamper]
    exact (bothJudged_tamper _ i).trans (by rw [committed_active]; rfl)
  obtain ⟨q, n, same⟩ := committed_same s
  have only := k.only
  rw [same] at only
  exact ⟨only.ports, only.active, only.staging, only.generation, only.bars, only.levels, only.frontEnd, only.mapper,
    only.keys, only.adc, only.refillTimer, only.measurement, only.level, only.requestTimer, only.arbiterCount,
    only.pending, tamper⟩

/-! ### The entries (R37, R51, R58, R59) -/

/-- Whether an entry still fits the new policy (R59). -/
def stillFits (old new : Policy) (e : Entry) : Bool :=
  match old.channels[e.channel]?, new.channels[e.channel]? with
  | some o, some c => decide (c.state = .opened ∧ c.endA = o.endA ∧ c.endB = o.endB ∧
      (e.source = .app → (c.mask.getD 0).getLsbD (e.slot.getD 0) = true ∧
        (new.slots[e.slot.getD 0]?.map Slot.barred).getD false = false))
  | _, _ => false

theorem committedBars_get (p : Policy) (n : Nat) :
    (committedBars p)[n]?.getD false = (p.slots[n]?.map Slot.barred).getD false := by
  by_cases h : n < 8
  · simp [committedBars, h]
  · simp [committedBars, h]

theorem unfit_eq (old new : Policy) (e : Entry) : unfit old new e = !stillFits old new e := by
  unfold unfit stillFits openChannel
  cases old.channels[e.channel]? with
  | none => rfl
  | some o =>
    cases new.channels[e.channel]? with
    | none => rfl
    | some c =>
      dsimp only
      by_cases opened : c.state = .opened
      · rw [if_pos opened]
        dsimp only
        rw [committedBars_get, show c.allowsSlot (e.slot.getD 0) = (c.mask.getD 0).getLsbD (e.slot.getD 0) from rfl]
        generalize (c.mask.getD 0).getLsbD (e.slot.getD 0) = allowed
        generalize (new.slots[e.slot.getD 0]?.map Slot.barred).getD false = barred
        rw [Bool.eq_iff_iff]
        simp only [ne_comm (a := o.endA), ne_comm (a := o.endB)]
        by_cases app : e.source = .app
        · simp [opened, app]; tauto
        · simp [opened, app]
      · rw [if_neg opened]; simp [opened]

/-- The entries that a commit removes (R59, R16). -/
theorem spares_unfit (old new : Policy) : spares (unfit old new) = fun e => !stillFits old new e && !e.sending :=
  funext fun e => by rw [spares, unfit_eq]

theorem committed_kept (old new : Policy) (es : List Entry) :
    es.filter (fun e => !spares (unfit old new) e) = es.filter fun e => stillFits old new e || e.sending :=
  List.filter_congr fun e _ => by rw [spares_unfit]; simp

/-- The held mark of an entry that stays when the part locks (R51). -/
theorem leftEntry_committedEntry (p : Policy) (e : Entry) :
    leftEntry p (committedEntry p .opened e) = if e.sending then e else { e with held := onHoldChannel p e } := by
  unfold leftEntry committedEntry
  cases sending : e.sending with
  | true => simp [sending]
  | false =>
    have same : ∀ x : Entry, x.channel = e.channel → onHoldChannel p x = onHoldChannel p e := fun x h => by
      rw [onHoldChannel, h]; rfl
    cases hold : onHoldChannel p e <;> simp [same, hold]

/-- The entries that a commit with a trip leaves in a sub-queue (R51, R58, R59). -/
theorem tripped_kept (old new : Policy) (es : List Entry) :
    (((es.filter fun e => !spares (unfit old new) e).map (committedEntry new .opened)).map (leftEntry new)).filter
        (fun e => !spares (onAppChannel new) e) =
      (es.filter fun e => e.sending || stillFits old new e && !onAppChannel new e).map fun e =>
        if e.sending then e else { e with held := onHoldChannel new e } := by
  have marked : leftEntry new ∘ committedEntry new .opened =
      fun e => if e.sending then e else { e with held := onHoldChannel new e } :=
    funext fun e => leftEntry_committedEntry new e
  have spared : ∀ e, spares (onAppChannel new) ((leftEntry new ∘ committedEntry new .opened) e) =
      (onAppChannel new e && !e.sending) := fun e => by
    rw [marked]
    dsimp only
    split <;> rfl
  rw [List.map_map, List.filter_map, marked.symm, List.filter_filter]
  refine congrArg _ (List.filter_congr fun e _ => ?_)
  rw [Function.comp_apply, spared, spares_unfit]
  dsimp only
  generalize e.sending = sending
  generalize onAppChannel new e = app
  generalize stillFits old new e = fits
  revert sending app fits
  decide

/-! ### The boxes (R36, R62, R149) -/

/-- The flags that `d` may find newly set after a commit. -/
def commitRaises : Domain → Word16
  | .pay => 0x0048
  | .app => 0x0208
  | .rad => 0x0408

theorem commitRaises_of_mem {s : State} {d : Domain} {l : List Flag}
    (hl : ∀ f ∈ l, f = .queueSpace ∨ d = .pay ∧ f = .tamper) :
    ∀ f ∈ committedFlags s d ++ l, (commitRaises d).getLsbD f.bit = true := by
  have space : (commitRaises d).getLsbD Flag.queueSpace.bit = true := by cases d <;> rfl
  intro f hf
  unfold committedFlags at hf
  rcases List.mem_append.1 hf with own | more
  · rcases List.mem_append.1 own with notice | met
    · cases d with
      | pay => cases notice
      | app => rw [List.mem_singleton.1 notice]; rfl
      | rad => rw [List.mem_singleton.1 notice]; rfl
    · split at met
      · rw [List.mem_singleton.1 met]; exact space
      · cases met
  · rcases hl f more with rfl | ⟨rfl, rfl⟩
    · exact space
    · rfl

/-- Flags raised in a box show only where they may. -/
theorem raised_or {b : NoticeBox} {m : NoticeMode} {l : List Flag} {w : Word16}
    (h : ∀ f ∈ l, w.getLsbD f.bit = true) : (b.raised m l).flags ||| w = b.flags ||| w := by
  refine BitVec.eq_of_getLsbD_eq fun i _ => ?_
  rw [BitVec.getLsbD_or, BitVec.getLsbD_or, raised_getLsbD]
  cases any : l.any fun f => decide (i = f.bit) with
  | false => rw [Bool.or_false]
  | true =>
    obtain ⟨f, hf, hi⟩ := List.any_eq_true.1 any
    rw [of_decide_eq_true hi, h f hf, Bool.or_true, Bool.or_true]

/-- Whether flag `f` is set in the box of `d` after a commit. -/
theorem committed_bit {s : State} {d : Domain} {b : NoticeBox} {m : NoticeMode} {l : List Flag} (f : Flag) :
    (((b.takeMode m).raised m (committedFlags s d ++ l)).flags.getLsbD f.bit = true) ↔
      b.flags.getLsbD f.bit = true ∨ f ∈ committedFlags s d ∨ f ∈ l := by
  have bits : ∀ g : Flag, f.bit = g.bit ↔ f = g := fun g => by cases f <;> cases g <;> simp [Flag.bit]
  rw [raised_getLsbD, takeMode_flags, Bool.or_eq_true, List.any_eq_true]
  simp only [bits, decide_eq_true_eq, List.mem_append, exists_eq_right']

/-! ### Without a trip -/

/-- What a commit leaves alone when no trip condition begins at it outside LOCKED, and what it does to the queues. -/
structure QuietCommit (s u : State) : Prop where
  ctl : u.ctl = s.ctl
  inputs : u.inputs = s.inputs
  gate : u.gate = { s.gate with waiting := some s.staging.layout }
  entryEnd : u.entryEnd = s.entryEnd
  progress : u.progress = s.progress
  lost : u.lost = s.lost
  silence : u.sup.silence = s.sup.silence
  wanted : ∀ d x k, ((u.queue d).wanted.get x).get k =
    (((s.queue d).wanted.get x).get k && !s.meetsSpace (spares (unfit s.active s.staging)) d x k)
  space : ∀ x, (u.box x).flags.getLsbD 3 = ((s.box x).flags.getLsbD 3 || allDomains.any fun d =>
    s.meetsSpace (spares (unfit s.active s.staging)) d x .priority ||
      s.meetsSpace (spares (unfit s.active s.staging)) d x .bulk)
  entries : ∀ d c, (u.queue d).entries.get c =
    (((s.queue d).entries.get c).filter fun e => stillFits s.active s.staging e || e.sending).map
      (committedEntry s.staging s.ctl.state)

theorem queueSpace_mem {s : State} {d : Domain} :
    .queueSpace ∈ committedFlags s d ↔ (allDomains.any fun x =>
      s.meetsSpace (spares (unfit s.active s.staging)) x d .priority ||
        s.meetsSpace (spares (unfit s.active s.staging)) x d .bulk) = true := by
  have notice : Flag.queueSpace ∉ commitFlag d := by cases d <;> simp [commitFlag]
  rw [committedFlags, List.mem_append, or_iff_right notice]
  split
  · exact ⟨fun _ => ‹_›, fun _ => List.mem_singleton_self _⟩
  · exact ⟨(fun h => by cases h), fun h => absurd h ‹_›⟩

theorem acceptCommit_quiet {s : State} (h : s.ctl.state = .opened ∨ s.ctl.state = .locked) (trips : ¬CommitTrips s) :
    QuietCommit s (acceptCommit s) := by
  rw [acceptCommit_of_quiet h ((commitTrips_or h).resolve_left trips)]
  obtain ⟨q, n, same⟩ := committed_same s
  refine ⟨by rw [same]; rfl, by rw [same]; rfl, by rw [same]; rfl, by rw [same]; rfl, by rw [same]; rfl,
    by rw [same]; rfl, by rw [same]; rfl, fun d x k => ?_, fun x => ?_, fun d c => ?_⟩
  · rw [bothJudged_queue, committed_queue, switchCommitted_wanted]
  · have bit := committed_bit (s := s) (d := x) (b := s.box x) (m := s.staging.notices.get x) (l := []) .queueSpace
    rw [List.append_nil, queueSpace_mem, or_iff_left List.not_mem_nil, ← Bool.or_eq_true] at bit
    rw [bothJudged_box, committed_box, switchCommitted_box]
    exact Bool.eq_iff_iff.2 bit
  · rw [bothJudged_queue, committed_queue, switchCommitted_entries, committed_kept]

/-! ### With a trip (R149) -/

/-- What a commit leaves when a trip condition begins at it in OPEN. -/
structure TripCommit (s u : State) : Prop where
  ctl : u.ctl = trippedCtl (committed s)
  inputs : u.inputs = ({ s with active := s.staging } : State).departure.foldl (joinInput s.inputSending) s.inputs
  lost : u.lost = (s.lost ||
    decide (32 < s.inputs.length + ({ s with active := s.staging } : State).departure.length))
  gate : u.gate = ({ s.gate with waiting := some s.staging.layout } : Gate).lockAsked (lockSet s.staging)
  silence : u.sup.silence = .stopped
  entryEnd : u.entryEnd = s.entryEnd
  progress : u.progress = s.progress
  entries : ∀ d c, (u.queue d).entries.get c =
    (((s.queue d).entries.get c).filter fun e =>
      e.sending || stillFits s.active s.staging e && !onAppChannel s.staging e).map fun e =>
        if e.sending then e else { e with held := onHoldChannel s.staging e }

theorem trippedCtl_withTampers (s : State) (t : PerTamper Tamper) : trippedCtl (s.withTampers t) = trippedCtl s := rfl

theorem active_withTampers (s : State) (t : PerTamper Tamper) : (s.withTampers t).active = s.active := rfl

theorem departure_withTampers (s : State) (t : PerTamper Tamper) : (s.withTampers t).departure = s.departure := rfl

theorem acceptCommit_trips {s : State} (trips : CommitTrips s) (quiet : s.reports = []) :
    TripCommit s (acceptCommit s) := by
  obtain ⟨opened, some⟩ := trips
  obtain ⟨t, u, locked, same⟩ := acceptCommit_of_trip opened quiet some
  obtain ⟨ctl, inputs, lost, gate, silence, entryEnd, progress, -, entries, -, -, -⟩ := locked
  have active : ((committed s).withTampers t).active = s.staging := by
    rw [active_withTampers, committed_active]
  rw [departure_withTampers, committed_departure] at inputs lost
  simp only [active, withTampers_queue, committed_queue, switchCommitted_entries, opened, tripped_kept] at entries
  rw [active] at gate
  rw [trippedCtl_withTampers] at ctl
  obtain ⟨q, n, before⟩ := committed_same s
  rw [before] at inputs lost gate entryEnd progress
  rw [same]
  generalize (committed s).bothJudged.sup.tamper = judged
  exact ⟨ctl, inputs, lost, gate, silence, entryEnd, progress, entries⟩

end Sys2Proof.Machine
end

section
/-! PROOF. O20, settled. -/

namespace Sys2Proof.Machine

open Sys2Proof

theorem arrived_requestTimer (d : Domain) (s : State) : (s.arrived d).sup.requestTimer = s.sup.requestTimer := by
  unfold State.arrived; dsimp only; split <;> rfl

/-- A COMMIT that passes its checks (R34). -/
theorem runCommit_of_accepted {s : State} {lo hi : Byte} (current : lo.toNat + 256 * hi.toNat = s.generation)
    (state : s.ctl.state = .opened ∨ s.ctl.state = .locked) (valid : s.staging.validate = none) :
    runCommit [lo, hi] s = (acceptCommit s, .ok,
      twoBytes (nextGeneration s.generation) ++ twoBytes (purgeCount (unfit s.active s.staging) s)) := by
  have word : wordAt [lo, hi] 0 = s.generation := by
    rw [← current]; simp [wordAt, fieldAt, byteAt]
  rw [runCommit, if_neg (not_not.2 word), if_neg (fun k => state.elim k.1 k.2), valid]

theorem committedTamper_trips (s : State) (i : TamperInput) :
    (committedTamper s i).inTrip = true ↔
      s.staging.supervision.sense.get i = .tripLow ∧ (s.tamper i).filtered = .low ∨
      s.staging.supervision.sense.get i = .tripHigh ∧ (s.tamper i).filtered = .high ∨
      s.staging.supervision.sense.get i = .tripChange ∧
        (s.tamper i).filtered ≠ (committedTamper s i).normal := by
  rw [committedTamper, Tamper.judged]
  dsimp only
  have filtered : ((committed s).tamper i).filtered = (s.tamper i).filtered := by rw [committed_tamper]
  rw [filtered]
  cases s.staging.supervision.sense.get i <;> simp [Sense.met]

end Sys2Proof.Machine

open Sys2Proof Sys2Proof.Machine

/-- Settles O20: `CommitTaken` says what every commit leaves, `QuietCommit` and `TripCommit` what stays or locks without
and with a trip; a condition that held before begins nothing (`committed_begins`). -/
theorem commitTakesTheStagingSet : Obligations.CommitTakesTheStagingSet := by
  intro tag slot lo hi s accepts current state valid g fits gone told
  have quiet : (s.arrived .pay).reports = [] := accepts.1.1.2
  have taken := acceptCommit_taken (s := s.arrived .pay) state quiet
  have calm := acceptCommit_quiet (s := s.arrived .pay) state
  have trip := fun trips => acceptCommit_trips (s := s.arrived .pay) trips quiet
  have owner := runCommit_of_accepted (s := s.arrived .pay) current state valid
  have fields := taken.fields
  generalize acceptCommit (s.arrived .pay) = u at taken calm trip owner fields
  have keep : ∀ e, fits e = stillFits s.active s.staging e := fun e => rfl
  have gone_eq : spares (unfit s.active s.staging) = gone := spares_unfit s.active s.staging
  have tamper : ∀ i, (s.arrived .pay).tamper i = s.tamper i := fun i => by
    rw [State.tamper, arrived_tamper]; rfl
  have begins : ∀ i, (committed (s.arrived .pay)).begins i = true ↔
      (u.tamper i).inTrip = true ∧ (s.tamper i).inTrip = false := fun i => by
    rw [committed_begins, ← fields.tamper, tamper, Bool.and_eq_true, Bool.not_eq_true']
  have trips : CommitTrips (s.arrived .pay) ↔
      s.ctl.state = .opened ∧ ∃ i, (u.tamper i).inTrip = true ∧ (s.tamper i).inTrip = false :=
    and_congr .rfl (exists_congr begins)
  refine ⟨u, purgeCount (unfit s.active s.staging) (s.arrived .pay), exec_passed rfl accepts rfl owner taken.reports,
    fields.ports, fields.active, fields.staging, fields.generation, ?meters, ?purged, ?calm, ?started, ?running,
    fields.mapper, fields.keys, fields.adc, ?tampers, ?app, ?rad, ?raised, ?flag, ?boxes, ?tripped, taken.run,
    fields.refillTimer, fields.measurement.trans (arrived_measurement .pay s),
    fields.level.trans (arrived_level .pay s), fields.requestTimer.trans (arrived_requestTimer .pay s),
    fields.arbiterCount, fields.pending⟩
  case meters =>
    intro i
    rw [fields.bars, fields.levels]
    exact ⟨by simp [committedBars, State.arrived], by simp [committedLevels, State.arrived]⟩
  case purged =>
    rw [purgeCount, gone_eq]; rfl
  case calm =>
    intro idle
    have none : ¬CommitTrips (s.arrived .pay) := fun h => by
      obtain ⟨opened, i, now, before⟩ := trips.1 h
      rcases idle with locked | still
      · rw [opened] at locked; cases locked
      · rcases still i with already | never
        · rw [before] at already; cases already
        · rw [now] at never; cases never
    obtain ⟨ctl, inputs, gate, entryEnd, progress, lost, silence, wanted, space, entries⟩ := calm none
    refine ⟨ctl, inputs, gate, entryEnd, progress, lost, silence, fun d src c => (wanted d src c).trans ?_,
      fun src => (space src).trans ?_, entries⟩
    · rw [← gone_eq]; rfl
    · rw [← gone_eq]; rfl
  case started =>
    intro first idle
    rw [fields.frontEnd, committedFrontEnd, if_pos ⟨first, idle⟩]
    rfl
  case running =>
    intro later
    rw [fields.frontEnd, committedFrontEnd, if_neg fun k => later k.1]
    rfl
  case tampers =>
    intro i sense normal
    have latched : (committed (s.arrived .pay)).tamper i = { s.tamper i with normal := normal } := by
      rw [committed_tamper, tamper]; rfl
    have judged : u.tamper i = ({ s.tamper i with normal := normal } : Tamper).judged sense := by
      rw [fields.tamper, committedTamper, latched]; rfl
    have inTrip := committedTamper_trips (s.arrived .pay) i
    rw [← fields.tamper, tamper, judged] at inTrip
    rw [judged]
    exact ⟨rfl, rfl, rfl, rfl, rfl, inTrip⟩
  case app =>
    obtain ⟨l, box, -⟩ := taken.box .app
    rw [box]
    exact (committed_bit .slotChange).2 (.inr (.inl List.mem_cons_self))
  case rad =>
    obtain ⟨l, box, -⟩ := taken.box .rad
    rw [box]
    exact (committed_bit .policyChange).2 (.inr (.inl List.mem_cons_self))
  case raised =>
    intro d mask
    obtain ⟨l, box, -, flags⟩ := taken.box d
    have shown := raised_or (b := ((s.arrived .pay).box d).takeMode (s.staging.notices.get d))
      (m := s.staging.notices.get d) (commitRaises_of_mem (s := s.arrived .pay) fun f hf => (flags f hf).2)
    rw [takeMode_flags] at shown
    rw [box]
    cases d <;> exact shown
  case flag =>
    obtain ⟨l, box, sets, flags⟩ := taken.box .pay
    have own : Flag.tamper ∉ committedFlags (s.arrived .pay) .pay := fun h => by
      unfold committedFlags at h
      split at h <;> simp [commitFlag] at h
    rw [box, ← trips]
    refine (committed_bit .tamper).trans (or_congr .rfl ⟨fun h => ?_, fun h => .inr (sets h rfl)⟩)
    exact (flags _ (h.resolve_left own)).1
  case boxes =>
    intro d m b v
    obtain ⟨l, box, -⟩ := taken.box d
    have risen := raised_risen (takeMode_risen m b) (committedFlags (s.arrived .pay) d ++ l)
    have same : v = (b.takeMode m).raised m (committedFlags (s.arrived .pay) d ++ l) := box
    rw [← same] at risen
    exact ⟨risen.place, risen.followUp, risen.repeatTimer⟩
  case tripped =>
    intro opened new
    obtain ⟨ctl, inputs, lost, gate, silence, entryEnd, progress, entries⟩ := trip (trips.2 ⟨opened, new⟩)
    refine ⟨?_, inputs, lost, gate, silence, entryEnd, progress, entries⟩
    have before : (committed (s.arrived .pay)).gate = { s.gate with waiting := some s.staging.layout } := by
      obtain ⟨_, _, same⟩ := committed_same (s.arrived .pay); rw [same]; rfl
    rw [ctl, gate, trippedCtl, before, committed_active, committed_ctl]
    rfl

end

section
/-! PROOF. What a command does to the traffic in the delivery queues, said once: each operation keeps every entry that
waits within the policy in force, and in LOCKED away from APP (`TrafficKept`). The operations below only take entries
away, or hold and release them (R51, R52, R56, R58, R62). -/

namespace Sys2Proof.Machine

open Sys2Proof

/-! ### What the two invariants look at -/

/-- Entry `e` goes the way of `x`, and waits only where `x` waits. -/
def Entry.SameRoute (x e : Entry) : Prop :=
  e.channel = x.channel ∧ e.source = x.source ∧ e.slot = x.slot ∧ (e.sending = false → x.sending = false)

theorem Entry.SameRoute.refl (e : Entry) : e.SameRoute e := ⟨rfl, rfl, rfl, id⟩

theorem Entry.SameRoute.onAppChannel {x e : Entry} (h : x.SameRoute e) (p : Policy) :
    onAppChannel p e = Machine.onAppChannel p x := by
  obtain ⟨channel, -, -, -⟩ := h
  rw [Machine.onAppChannel, Machine.onAppChannel, channel]

theorem Entry.SameRoute.fits {x e : Entry} (h : x.SameRoute e) {s t : State} {d : Domain} (active : t.active = s.active)
    (bars : t.switch.bars = s.switch.bars) (fits : x.fits s d) : e.fits t d := by
  obtain ⟨channel, source, slot, -⟩ := h
  unfold Entry.fits Switch.barred at fits ⊢
  rw [channel, source, slot, active, bars]
  exact fits

theorem routeInv_iff (s : State) :
    s.RouteInv ↔ ∀ d e, e ∈ (s.queue d).all → e.sending = false → e.fits s d :=
  ⟨fun h d e he => h d (mem_allDomains d) e he, fun h d _ e he => h d e he⟩

/-- No entry on a channel with an APP endpoint waits (R58). -/
def State.FreeOfApp (s : State) : Prop :=
  ∀ d e, e ∈ (s.queue d).all → e.sending = false → onAppChannel s.active e = false

theorem lockedInv_iff (s : State) : s.LockedInv ↔ (s.ctl.state = .locked → s.FreeOfApp) :=
  ⟨fun h locked d e he => h locked d (mem_allDomains d) e he, fun h locked d _ e he => h locked d e he⟩

/-- From `s` to `t` the queued entries stay within the policy in force, and in LOCKED away from APP. -/
structure TrafficKept (s t : State) : Prop where
  route : s.RouteInv → t.RouteInv
  locked : s.LockedInv → t.LockedInv

/-- Every entry of the queues of `t` stands for one of `s`. -/
def NoNewTraffic (s t : State) : Prop := ∀ d, ∀ e ∈ (t.queue d).all, ∃ x ∈ (s.queue d).all, x.SameRoute e

theorem noNewTraffic_of_queues {s t : State} (h : t.switch.queues = s.switch.queues) : NoNewTraffic s t :=
  fun d e he => ⟨e, by rw [State.queue, h] at he; exact he, .refl e⟩

theorem NoNewTraffic.freeOfApp {s t : State} (h : NoNewTraffic s t) (active : t.active = s.active)
    (free : s.FreeOfApp) : t.FreeOfApp := fun d e he idle => by
  obtain ⟨x, hx, same⟩ := h d e he
  obtain ⟨-, -, -, waits⟩ := id same
  rw [active, same.onAppChannel]
  exact free d x hx (waits idle)

namespace TrafficKept

variable {s t u : State}

theorem refl (s : State) : TrafficKept s s := ⟨id, id⟩

theorem trans (h : TrafficKept s t) (k : TrafficKept t u) : TrafficKept s u :=
  ⟨k.route ∘ h.route, k.locked ∘ h.locked⟩

theorem ite {c : Prop} [Decidable c] (h : TrafficKept s t) (k : TrafficKept s u) :
    TrafficKept s (if c then t else u) := by split <;> assumption

theorem foldl {α : Type} {f : State → α → State} (h : ∀ s a, TrafficKept s (f s a)) (l : List α) (s : State) :
    TrafficKept s (l.foldl f s) := by
  induction l generalizing s with
  | nil => exact .refl s
  | cons a l ih => exact (h s a).trans (ih _)

/-- Entries only leave, in the policy in force, and LOCKED is entered only when none is left on a channel of APP. -/
theorem of_fewer (active : t.active = s.active) (bars : t.switch.bars = s.switch.bars) (fewer : NoNewTraffic s t)
    (state : t.ctl.state = .locked → s.ctl.state = .locked ∨ t.FreeOfApp) : TrafficKept s t where
  route h := (routeInv_iff t).2 fun d e he idle => by
    obtain ⟨x, hx, same⟩ := fewer d e he
    obtain ⟨-, -, -, waits⟩ := id same
    exact same.fits active bars ((routeInv_iff s).1 h d x hx (waits idle))
  locked h := (lockedInv_iff t).2 fun now => (state now).elim
    (fun before => fewer.freeOfApp active ((lockedInv_iff s).1 h before)) id

/-- Neither the queues nor the policy change, and LOCKED is not entered. -/
theorem of_same (active : t.active = s.active) (bars : t.switch.bars = s.switch.bars)
    (queues : t.switch.queues = s.switch.queues) (state : t.ctl.state = .locked → s.ctl.state = .locked) :
    TrafficKept s t := .of_fewer active bars (noNewTraffic_of_queues queues) fun h => .inl (state h)

theorem setCtl (s : State) (c : Controller) (state : c.state = .locked → s.ctl.state = .locked) :
    TrafficKept s (s.setCtl c) := .of_same rfl rfl rfl state

/-- The controller stays in its state. -/
theorem kept (s : State) (c : Controller) (state : c.state = s.ctl.state) : TrafficKept s (s.setCtl c) :=
  .setCtl s c fun h => state ▸ h

theorem setQueue {d : Domain} {q : DeliveryQueue} (h : ∀ e ∈ q.all, ∃ x ∈ (s.queue d).all, x.SameRoute e) :
    TrafficKept s (s.setQueue d q) := by
  refine .of_fewer rfl rfl (fun x e he => ?_) .inl
  rw [State.queue_setQueue] at he
  split at he
  · subst_vars; exact h e he
  · exact ⟨e, he, .refl e⟩

end TrafficKept

/-! ### The notice unit, the silence timer, the switch, the gate -/

theorem setFlag_traffic (d : Domain) (f : Flag) (s : State) : TrafficKept s (setFlag d f s) := .of_same rfl rfl rfl id

theorem setSup_traffic (s : State) (u : Supervisor) : TrafficKept s (s.setSup u) := .of_same rfl rfl rfl id

theorem restartSilence_traffic (s : State) : TrafficKept s (restartSilence s) := .ite (setSup_traffic s _) (.refl s)

theorem setWanted_traffic (s : State) (d src : Domain) (c : Class) (v : Bool) :
    TrafficKept s (s.setQueue d ((s.queue d).setWanted src c v)) := .setQueue fun e he => ⟨e, he, .refl e⟩

theorem judgeSpace_traffic (d : Domain) (s : State) : TrafficKept s (judgeSpace d s) :=
  .foldl (fun _ src => .foldl (fun s c =>
    .ite ((setWanted_traffic s d src c false).trans (setFlag_traffic _ _ _)) (.refl s)) _ _) _ _

theorem removeFrom_traffic (d : Domain) (gone : Entry → Bool) (s : State) : TrafficKept s (removeFrom d gone s) := by
  refine .setQueue fun e he => ⟨e, ?_, .refl e⟩
  obtain ⟨c, hc⟩ := mem_all_iff.1 he
  rw [← DeliveryQueue.without, without_entries] at hc
  exact mem_all_iff.2 ⟨c, (List.mem_filter.1 hc).1⟩

theorem purge_traffic (gone : Entry → Bool) (s : State) : TrafficKept s (purge gone s) :=
  .foldl (fun s d => .ite (.refl s) ((removeFrom_traffic d _ s).trans (judgeSpace_traffic d _))) _ _

/-- Held marks are set or removed on entries whose way stays. -/
theorem mapEntries_traffic {f : Entry → Entry} (h : ∀ e : Entry, e.SameRoute (f e)) (s : State) :
    TrafficKept s (mapEntries f s) :=
  .foldl (fun s d => .setQueue fun e he => by
    obtain ⟨x, hx, rfl⟩ := mem_mapLists he
    exact ⟨x, hx, h x⟩) _ _

theorem markHeld_traffic (s : State) : TrafficKept s (markHeld s) :=
  mapEntries_traffic (fun e => by split <;> exact .refl e) s

theorem releaseHeld_traffic (s : State) : TrafficKept s (releaseHeld s) :=
  mapEntries_traffic (f := fun e => { e with held := false }) (fun _ => ⟨rfl, rfl, rfl, id⟩) s

theorem gateDo_traffic (f : Gate → Gate × List GateReport) (s : State) : TrafficKept s (gateDo f s) :=
  .of_same rfl rfl rfl id

theorem setGate_traffic (s : State) (g : Gate) : TrafficKept s (s.setGate g) := .of_same rfl rfl rfl id

/-! ### Leaving and entering OPEN -/

theorem queueInput_traffic (e : InputEvent) (s : State) : TrafficKept s (queueInput e s) := .of_same rfl rfl rfl id

theorem pushProgress_traffic (e : ProgressEvent) (n : Nat) (s : State) : TrafficKept s (pushProgress e n s) :=
  .of_same rfl rfl rfl id

theorem placeEnd_traffic (s : State) (e : Option EntryEnd) : TrafficKept s { s with entryEnd := e } :=
  .of_same rfl rfl rfl id

theorem leaveOpen_traffic (s : State) : TrafficKept s (leaveOpen s) := by
  have told : TrafficKept s ((s.toldAll s.departure).setCtl (unmarked s.ctl)) := by
    rw [toldAll_eq]; exact .of_same rfl rfl rfl id
  rw [leaveOpen_eq]
  exact told.trans (markHeld_traffic _)

theorem enterOpen_traffic (s : State) : TrafficKept s (enterOpen s) :=
  (((TrafficKept.setCtl s _ (by exact fun h => by cases h)).trans (releaseHeld_traffic _)).trans
    (queueInput_traffic _ _)).trans (setSup_traffic _ _)

theorem enterReleasing_traffic (s : State) : TrafficKept s (enterReleasing s) :=
  have released := TrafficKept.setCtl s { s.ctl with state := .releasing } fun h => by cases h
  .ite (released.trans (enterOpen_traffic _)) released

/-! ### The course and the ends of a session -/

theorem erased_traffic (s : State) : TrafficKept s (s.setCtl s.ctl.erased) := .kept s _ (by rfl)

theorem removeOverlay_traffic (p : SessionPresentation) (s : State) : TrafficKept s (removeOverlay p s) :=
  .ite ((gateDo_traffic _ s).trans (gateDo_traffic _ _)) (gateDo_traffic _ s)

theorem endSecure_traffic (o : SessionOutcome) (r : Session) (s : State) : TrafficKept s (endSecure o r s) :=
  ((((erased_traffic s).trans (removeOverlay_traffic _ _)).trans (placeEnd_traffic _ _)).trans
    (.setCtl _ _ (by exact fun h => by cases h))).trans (setSup_traffic _ _)

theorem endEarly_traffic (o : SessionOutcome) (r : Session) (s : State) : TrafficKept s (endEarly o r s) :=
  (((TrafficKept.ite ((erased_traffic s).trans (removeOverlay_traffic _ _)) (erased_traffic s)).trans
    (placeEnd_traffic _ _)).trans (setSup_traffic _ _)).trans (enterReleasing_traffic _)

theorem endSession_traffic (o : SessionOutcome) (s : State) : TrafficKept s (endSession o s) := by
  unfold endSession
  split
  · exact .refl s
  · split
    · exact endEarly_traffic _ _ s
    · exact endEarly_traffic _ _ s
    · exact endSecure_traffic _ _ s
    all_goals exact .refl s

theorem onReport_traffic (s : State) (g : GateReport) : TrafficKept s (onReport s g) := by
  unfold onReport
  split
  · split
    · exact (TrafficKept.setCtl s _ (by exact fun h => by cases h)).trans (pushProgress_traffic _ _ _)
    · exact .refl s
  · exact .ite (enterReleasing_traffic s) (.refl s)
  · exact .ite (.kept s _ (by rfl)) (.refl s)
  · split
    · exact .refl s
    · exact .ite (endSession_traffic _ s) (.refl s)

theorem takeWave_traffic (s : State) : TrafficKept s (takeWave s) :=
  have taken : TrafficKept s { s with reports := [] } := .of_same rfl rfl rfl id
  taken.trans (.foldl onReport_traffic _ _)

theorem takeReports_traffic (s : State) : TrafficKept s (takeReports s) :=
  (takeWave_traffic s).trans (takeWave_traffic _)

theorem endArming_traffic (s : State) : TrafficKept s (endArming s) := by
  unfold endArming
  split
  · exact .refl s
  · exact (TrafficKept.ite ((gateDo_traffic _ s).trans (gateDo_traffic _ _)) (gateDo_traffic _ s)).trans
      (.setCtl _ _ (by exact fun h => by cases h))

theorem noContactReport_traffic (s : State) : TrafficKept s (noContactReport s) := by
  unfold noContactReport
  split
  · exact (endArming_traffic s).trans (takeReports_traffic _)
  · exact enterOpen_traffic s
  all_goals exact .refl s

theorem beginSession_traffic (r : Session) (s : State) : TrafficKept s (beginSession r s) := by
  have arms : TrafficKept s (arming r s) :=
    (((TrafficKept.setCtl s (recordedCtl r s.ctl) id).trans (leaveOpen_traffic _)).trans
      (.setCtl _ (armingCtl r _) fun h => by cases h)).trans (setSup_traffic _ _)
  rw [beginSession_eq]
  exact .ite (arms.trans ((endArming_traffic _).trans (takeReports_traffic _))) arms

/-! ### Keys, strokes and their routing -/

theorem acceptedKey_traffic (r : Session) (s : State) : TrafficKept s (acceptedKey r s) := .kept s _ (by rfl)

theorem acceptedBuffer_traffic (r : Session) (ds : List Nat) (n : Nat) (s : State) :
    TrafficKept s (pushProgress .accepted n (setBuffer ds (acceptedKey r s))) := by
  have set : ∀ u, TrafficKept u (setBuffer ds u) := fun u =>
    .ite (.kept u _ (by rfl)) ((TrafficKept.kept u _ (by rfl)).trans (gateDo_traffic _ _))
  exact ((acceptedKey_traffic r s).trans (set _)).trans (pushProgress_traffic _ n _)

theorem pressDigit_traffic (r : Session) (n : Nat) (s : State) : TrafficKept s (pressDigit r n s) :=
  .ite (.ite ((acceptedBuffer_traffic r _ _ s).trans (endSession_traffic _ _)) (acceptedBuffer_traffic r _ _ s))
    (pushProgress_traffic _ _ s)

theorem pressBack_traffic (r : Session) (s : State) : TrafficKept s (pressBack r s) :=
  .ite (pushProgress_traffic _ _ s) (acceptedBuffer_traffic r _ _ s)

theorem pressClear_traffic (r : Session) (s : State) : TrafficKept s (pressClear r s) := acceptedBuffer_traffic r _ _ s

theorem pressEnter_traffic (r : Session) (s : State) : TrafficKept s (pressEnter r s) :=
  .ite ((acceptedKey_traffic r s).trans (endSession_traffic _ _)) (pushProgress_traffic _ _ s)

theorem pressCell_traffic (r : Session) (i : Nat) (s : State) : TrafficKept s (pressCell r i s) := by
  unfold pressCell
  split
  · exact .refl s
  · split
    · exact pressDigit_traffic _ _ s
    · exact pressBack_traffic _ s
    · exact pressClear_traffic _ s
    · exact pressEnter_traffic _ s
    · exact endSession_traffic _ s
    all_goals exact .refl s

theorem sessionPress_traffic (r : Session) (k : Key) (s : State) : TrafficKept s (sessionPress r k s) := by
  unfold sessionPress
  split
  · exact endSession_traffic _ s
  · exact pressClear_traffic _ s
  · exact pressEnter_traffic _ s
  all_goals exact .refl s

theorem sessionDown_traffic (r : Session) (q : Position) (s : State) : TrafficKept s (sessionDown r q s) := by
  unfold sessionDown
  split
  · exact .refl s
  · exact .kept s _ (by rfl)

theorem sessionUpdate_traffic (r : Session) (q : Position) (s : State) : TrafficKept s (sessionUpdate r q s) := by
  unfold sessionUpdate
  split
  · exact .ite (.refl s) ((TrafficKept.kept s _ (by rfl)).trans (pushProgress_traffic _ _ _))
  · exact .refl s

theorem sessionUp_traffic (r : Session) (x y : Nat) (s : State) : TrafficKept s (sessionUp r x y s) := by
  unfold sessionUp
  split
  · have added := (acceptedKey_traffic r s).trans
      (.setCtl _ { (acceptedKey r s).ctl with points := s.ctl.points ++ [(x, y)] } id)
    exact .ite (added.trans (endSession_traffic _ _)) added
  · refine .trans ?_ (.kept _ _ (by rfl))
    split
    · exact pressCell_traffic _ _ s
    · exact .refl s
    · exact .refl s

theorem endMarks_traffic (n : Nat) (s : State) : TrafficKept s (endMarks n s) := .kept s _ (by rfl)

theorem routeDown_traffic (n : Nat) (q : Position) (s : State) : TrafficKept s (routeDown n q s) := by
  unfold routeDown
  split
  · exact (queueInput_traffic _ s).trans (.kept _ _ (by rfl))
  · exact (TrafficKept.kept s _ (by rfl)).trans (sessionDown_traffic _ _ _)
  · exact .refl s

theorem routeUpdate_traffic (n : Nat) (q : Position) (m : Bool) (s : State) : TrafficKept s (routeUpdate n q m s) := by
  unfold routeUpdate
  split
  · exact .ite (queueInput_traffic _ s) (.refl s)
  · exact .ite (sessionUpdate_traffic _ _ s) (.refl s)
  · exact .refl s

theorem routeUp_traffic (n : Nat) (q : Position) (u : Bool) (x y : Nat) (s : State) :
    TrafficKept s (routeUp n q u x y s) := by
  unfold routeUp
  split
  · exact .ite ((queueInput_traffic _ s).trans (endMarks_traffic _ _)) (endMarks_traffic _ s)
  · exact .ite (((endMarks_traffic _ s).trans (sessionUp_traffic _ _ _ _)).trans (takeReports_traffic _))
      (endMarks_traffic _ s)
  · exact endMarks_traffic _ s

theorem routePress_traffic (k : Key) (s : State) : TrafficKept s (routePress k s) := by
  unfold routePress
  split
  · exact (queueInput_traffic _ s).trans (.kept _ _ (by rfl))
  · exact sessionPress_traffic _ _ s
  · exact .refl s

theorem routeRelease_traffic (k : Key) (s : State) : TrafficKept s (routeRelease k s) :=
  .ite ((queueInput_traffic _ s).trans (.kept _ _ (by rfl))) (.refl s)

/-! ### Entering LOCKED (R58, R126) -/

/-- The purge of LOCKED leaves no entry of an APP channel waiting. -/
theorem lockedPurge_freeOfApp (s : State) : (lockedPurge s).FreeOfApp := by
  have purged := purge_purged (onAppChannel s.active) s
  intro d e he idle
  obtain ⟨c, hc⟩ := mem_all_iff.1 he
  rw [lockedPurge, purged.entries] at hc
  have spared := (List.mem_filter.1 hc).2
  rw [lockedPurge, purged.rest.active]
  simpa [spares, idle] using spared

theorem lockWritten_traffic (s : State) : TrafficKept s (lockWritten s) := by
  have placed : TrafficKept s (placeTamperEnd s) := by
    unfold placeTamperEnd
    split
    · exact .refl s
    · exact .ite (placeEnd_traffic s _) (.refl s)
  exact ((placed.trans (erased_traffic _)).trans (gateDo_traffic _ _)).trans (gateDo_traffic _ _)

/-- Whatever the state of the controller, the purge of LOCKED keeps the traffic in order. -/
theorem lockedPurge_traffic (s : State) (c : Controller) (t : Timer) :
    TrafficKept s (lockedPurge ((s.setCtl c).setSup { s.sup with silence := t })) := by
  have purged := purge_purged (onAppChannel s.active) ((s.setCtl c).setSup { s.sup with silence := t })
  have only := lockedPurge_only ((s.setCtl c).setSup { s.sup with silence := t })
  refine .of_fewer only.active only.bars (fun d e he => ⟨e, ?_, .refl e⟩) fun _ => .inr (lockedPurge_freeOfApp _)
  obtain ⟨k, hk⟩ := mem_all_iff.1 he
  rw [lockedPurge, State.active_setSup, State.active_setCtl, purged.entries] at hk
  exact mem_all_iff.2 ⟨k, (List.mem_filter.1 hk).1⟩

theorem enterLocked_traffic (s : State) : TrafficKept s (enterLocked s) := by
  have left : TrafficKept s (if s.ctl.state = .opened then leaveOpen (lockWritten s) else lockWritten s) :=
    .ite ((lockWritten_traffic s).trans (leaveOpen_traffic _)) (lockWritten_traffic s)
  exact left.trans (lockedPurge_traffic _ _ _)

theorem tamperTrip_traffic (s : State) : TrafficKept s (tamperTrip s) :=
  .ite (.refl s) ((enterLocked_traffic s).trans (takeReports_traffic _))

end Sys2Proof.Machine
end

section
/-! PROOF. The traffic in the queues once more: the video path, scans, side keys and the supervisor take no part in it;
an accepted post is within the policy (R41), a bar and a commit purge what no longer fits (R57, R59). -/

namespace Sys2Proof.Machine

open Sys2Proof

/-! ### Input frames and the silence watch -/

theorem declareLoss_traffic (s : State) : TrafficKept s (declareLoss s) := by
  have lost : TrafficKept s { s with gate := { s.gate with episode := true }, reports := s.reports ++ [.videoLoss] } :=
    .of_same rfl rfl rfl id
  exact .ite (lost.trans (setFlag_traffic _ _ _)) (.refl s)

theorem judgeFrame_traffic (lines : List Nat) (s : State) : TrafficKept s (judgeFrame lines s) :=
  .ite (setGate_traffic s _) (.refl s)

theorem inputFrameStart_traffic (lines : List Nat) (s : State) : TrafficKept s (inputFrameStart lines s) := by
  have judged : TrafficKept s (endInputFrame lines s) :=
    .ite ((judgeFrame_traffic lines s).trans (declareLoss_traffic _)) (judgeFrame_traffic lines s)
  exact ((judged.trans (takeReports_traffic _)).trans (setGate_traffic _ _)).trans (gateDo_traffic _ _)

theorem watchOnOutput_traffic (s : State) : TrafficKept s (watchOnOutput s) := by
  have stops : ∀ f, TrafficKept s (declareLoss (takeReports (gateDo f s))) := fun f =>
    ((gateDo_traffic f s).trans (takeReports_traffic _)).trans (declareLoss_traffic _)
  unfold watchOnOutput
  split
  · exact .ite (declareLoss_traffic s) (stops _)
  · exact ((declareLoss_traffic s).trans (takeReports_traffic _)).trans (gateDo_traffic _ _)
  · exact .refl s
  · exact .refl s
  · exact stops _

theorem silenceExpiry_traffic (lines : List Nat) (s : State) : TrafficKept s (silenceExpiry lines s) :=
  .ite (((setGate_traffic s _).trans (judgeFrame_traffic lines _)).trans (watchOnOutput_traffic _)) (.refl s)

/-! ### Scans, the ADC arbiter, the side keys -/

theorem frontEnd_traffic (s : State) (f : FrontEnd) : TrafficKept s { s with frontEnd := f } := .of_same rfl rfl rfl id

theorem mapper_traffic (s : State) (m : Mapper) : TrafficKept s { s with mapper := m } := .of_same rfl rfl rfl id

theorem TrafficKept.of_arbiter {s t : State} (h : ArbiterOnly s t) : TrafficKept s t := by
  obtain ⟨_, _, _, _, rfl⟩ := h
  exact .of_same rfl rfl rfl id

theorem takeTouch_traffic (s : State) (r : TouchReport) : TrafficKept s (takeTouch s r) := by
  cases r with
  | start x y => exact mapper_traffic s _
  | track x y =>
    exact .ite (.ite ((mapper_traffic s _).trans (routeUpdate_traffic _ _ _ _)) (mapper_traffic s _)) (.refl s)
  | down x y => exact .ite ((mapper_traffic s _).trans (routeDown_traffic _ _ _)) (.refl s)
  | up u => exact (mapper_traffic s _).trans (routeUp_traffic _ _ _ _ _ _)
  | drop => exact mapper_traffic s _

theorem endScan_traffic (t : Touch) (k : ScanKind) (s : State) : TrafficKept s (endScan t k s) := by
  have taken := (frontEnd_traffic s { (s.frontEnd.apply t k).1 with progress := .none }).trans
    (.foldl takeTouch_traffic (s.frontEnd.apply t k).2 _)
  exact .ite (taken.trans (noContactReport_traffic _)) taken

theorem scanExpiry_traffic (plate : Word16) (s : State) : TrafficKept s (scanExpiry plate s) := by
  have begun : ∀ u, TrafficKept u (beginScan plate u) := fun u =>
    .ite ((frontEnd_traffic u _).trans (.of_arbiter (requestBurst_arbiter _)))
      ((frontEnd_traffic u _).trans (endScan_traffic _ _ _))
  exact .ite (.ite ((frontEnd_traffic s _).trans (begun _)) (frontEnd_traffic s _)) (.refl s)

theorem burstDone_traffic (codes : Burst) (s : State) : TrafficKept s (burstDone codes s) :=
  .ite (((frontEnd_traffic s _).trans (.of_arbiter (grantNext_arbiter _))).trans (endScan_traffic _ _ _)) (.refl s)

theorem startFrontEnd_traffic (s : State) : TrafficKept s (startFrontEnd s) :=
  .ite ((frontEnd_traffic s _).trans (noContactReport_traffic _)) (.refl s)

theorem setKey_traffic (s : State) (k : Key) (v : SideKey) : TrafficKept s (s.setKey k v) := .of_same rfl rfl rfl id

theorem debounceExpiry_traffic (k : Key) (s : State) : TrafficKept s (debounceExpiry k s) :=
  .ite (.ite ((setKey_traffic s k _).trans (routePress_traffic _ _))
    ((setKey_traffic s k _).trans (routeRelease_traffic _ _))) (.refl s)

/-! ### The supervisor -/

theorem judgeTamper_traffic (i : TamperInput) (s : State) : TrafficKept s (judgeTamper i s) := by
  have trips : ∀ u, TrafficKept u (trip i u) := fun u =>
    .ite (setSup_traffic u _) (((setSup_traffic u _).trans (setFlag_traffic _ _ _)).trans (tamperTrip_traffic _))
  exact .ite ((setSup_traffic s _).trans (trips _)) (setSup_traffic s _)

theorem filterExpiry_traffic (i : TamperInput) (s : State) : TrafficKept s (filterExpiry i s) :=
  .ite ((setSup_traffic s _).trans (judgeTamper_traffic _ _)) (.refl s)

theorem warnSupply_traffic (s : State) : TrafficKept s (warnSupply s) :=
  (setFlag_traffic _ _ s).trans (setFlag_traffic _ _ _)

theorem lowSupply_traffic (s : State) : TrafficKept s (lowSupply s) :=
  ((setFlag_traffic _ _ s).trans (endSession_traffic _ _)).trans (takeReports_traffic _)

theorem supplyMove_traffic (old new : SupplyLevel) (s : State) : TrafficKept s (supplyMove old new s) := by
  unfold supplyMove
  split
  · exact warnSupply_traffic s
  · exact lowSupply_traffic s
  · exact (warnSupply_traffic s).trans (lowSupply_traffic _)
  · exact .refl s

theorem supplyDone_traffic (code : AdcCode) (s : State) : TrafficKept s (supplyDone code s) :=
  .ite (((TrafficKept.of_arbiter (grantNext_arbiter s)).trans (setSup_traffic _ _)).trans (supplyMove_traffic _ _ _))
    (.refl s)

theorem endFullReset_traffic (s : State) : TrafficKept s (endFullReset s) := by
  have awake : ∀ t : State, t.active = s.active → t.switch.bars = s.switch.bars →
      t.switch.queues = s.switch.queues → t.ctl = s.ctl → TrafficKept s (requestSupply t) :=
    fun t active bars queues ctl =>
    (TrafficKept.of_same active bars queues fun h => ctl ▸ h).trans (.of_arbiter (requestSupply_arbiter t))
  exact (awake _ (by rfl) (by rfl) (by rfl) (by rfl)).trans (.foldl (fun s d => setFlag_traffic d _ s) _ _)

/-! ### POST (R41) -/

/-- What the checks of R41 that look at the channel leave true. -/
theorem postChecks_passed {s : State} {d : Domain} {slot n : Nat} {c : Channel}
    (h : postChecks s d slot c n = none) :
    c.isEndpoint d = true ∧
      (d = .app → slot < 8 ∧ c.allowsSlot slot = true ∧ s.switch.barred slot = false) := by
  unfold postChecks at h
  split at h
  · cases h
  rename_i endpoint
  split at h
  · cases h
  split at h
  · cases h
  rename_i allowed
  split at h
  · cases h
  rename_i barred
  refine ⟨by simpa using endpoint, fun app => ⟨?_, ?_, ?_⟩⟩
  · exact Nat.lt_of_not_le fun k => allowed ⟨app, .inl k⟩
  · exact Bool.eq_true_of_not_eq_false fun k => allowed ⟨app, .inr (by simp [k])⟩
  · exact Bool.eq_false_iff.2 fun k => barred ⟨app, k⟩

/-- An entry that fits the policy, and in LOCKED stays away from APP, joins a queue. -/
theorem TrafficKept.append {s : State} {d : Domain} {e : Entry} (fits : e.fits s d)
    (away : s.ctl.state = .locked → onAppChannel s.active e = false) :
    TrafficKept s (s.setQueue d ((s.queue d).append e)) where
  route h := (routeInv_iff _).2 fun x y hy idle => by
    rw [State.queue_setQueue] at hy
    have old : ∀ y ∈ (s.queue x).all, y.sending = false → y.fits s x := (routeInv_iff s).1 h x
    split at hy
    · subst_vars
      rcases mem_append_iff hy with before | rfl
      · exact old y before idle
      · exact fits
    · exact old y hy idle
  locked h := (lockedInv_iff _).2 fun now x y hy idle => by
    rw [State.queue_setQueue] at hy
    have old : s.FreeOfApp := (lockedInv_iff s).1 h now
    split at hy
    · subst_vars
      rcases mem_append_iff hy with before | rfl
      · exact old _ y before idle
      · exact away now
    · exact old x y hy idle

theorem acceptPost_traffic {s : State} {d : Domain} {slot channel : Nat} {c : Channel} {payload : List Byte}
    (found : openChannel s.active channel = some c) (passed : postChecks s d slot c payload.length = none)
    (open_ : postLocked s d channel = false) : TrafficKept s (acceptPost s d slot channel c payload) := by
  obtain ⟨endpoint, app⟩ := postChecks_passed passed
  have fits : ∀ t : State, t.active = s.active → t.switch.bars = s.switch.bars →
      (postEntry s d slot channel c payload).fits t (c.other d) := fun t active bars => by
    refine ⟨c, by rw [active]; exact found, endpoint, rfl, fun isApp => ?_⟩
    obtain ⟨small, allowed, barred⟩ := app isApp
    exact ⟨slot, if_pos isApp, small, allowed, by rw [Switch.barred, bars]; exact barred⟩
  have away : s.ctl.state = .locked → onAppChannel s.active (postEntry s d slot channel c payload) = false :=
      fun locked => by
    obtain ⟨there, -⟩ := openChannel_eq_some.1 found
    rw [postLocked, locked, found, decide_eq_true rfl, Bool.true_and, Bool.or_eq_false_iff] at open_
    rw [onAppChannel, show (postEntry s d slot channel c payload).channel = channel from rfl, there]
    exact open_.2
  have paid : TrafficKept s (setLevel s slot (s.switch.level slot - postCost payload.length)) := .of_same rfl rfl rfl id
  unfold acceptPost
  dsimp only
  split
  · exact paid.trans (.append (fits _ rfl rfl) away)
  · exact .append (fits s rfl rfl) away

theorem runPost_traffic (d : Domain) (slot : Byte) (body : List Byte) (s : State) :
    TrafficKept s (runPost d slot body s).1 := by
  unfold runPost
  dsimp only
  split
  · exact .refl s
  · split
    · exact .refl s
    · rename_i open_
      split
      · exact .refl s
      · rename_i found
        split
        · rename_i passed
          exact acceptPost_traffic found passed (Bool.eq_false_iff.2 open_)
        · exact setWanted_traffic s _ _ _ _
        · exact .refl s

/-! ### SLOT-BAR (R57) -/

theorem barred_setBar (s : State) (n m : Nat) (v : Bool) :
    (setBar s n v).switch.barred m = if m = n ∧ n < 8 then v else s.switch.barred m := by
  unfold Switch.barred setBar
  dsimp only
  rw [Vector.getElem?_setIfInBounds]
  by_cases same : n = m
  · subst same
    by_cases small : n < 8
    · simp [small]
    · simp [small]
  · rw [if_neg same, if_neg fun h => same h.1.symm]

/-- The bars of other slots do not matter to an entry, and a bar that is lifted shuts out none. -/
theorem Entry.fits.setBar {s : State} {d : Domain} {e : Entry} {n : Nat} {v : Bool} (h : e.fits s d)
    (spared : v = true → e.source = .app → e.slot ≠ some n) : e.fits (setBar s n v) d := by
  obtain ⟨c, found, endpoint, other, app⟩ := h
  refine ⟨c, found, endpoint, other, fun isApp => ?_⟩
  obtain ⟨m, slot, small, allowed, barred⟩ := app isApp
  refine ⟨m, slot, small, allowed, ?_⟩
  rw [barred_setBar]
  split
  · rename_i own
    obtain ⟨rfl, -⟩ := own
    exact Bool.eq_false_iff.2 fun bar => spared bar isApp slot
  · exact barred

/-- The purge of a bar takes away what the bar shuts out (R57). -/
theorem barSlot_traffic (n : Nat) (s : State) : TrafficKept s (purge (fromSlot n) (setBar s n true)) := by
  have purged := purge_purged (fromSlot n) (setBar s n true)
  have only := purge_only (fromSlot n) (setBar s n true)
  have stays : ∀ d, ∀ e ∈ ((purge (fromSlot n) (setBar s n true)).queue d).all,
      e ∈ (s.queue d).all ∧ spares (fromSlot n) e = false := fun d e he => by
    obtain ⟨c, hc⟩ := mem_all_iff.1 he
    rw [purged.entries] at hc
    obtain ⟨before, spared⟩ := List.mem_filter.1 hc
    exact ⟨mem_all_iff.2 ⟨c, before⟩, by simpa using spared⟩
  have same : TrafficKept (setBar s n true) (purge (fromSlot n) (setBar s n true)) := purge_traffic _ _
  refine ⟨fun h => (routeInv_iff _).2 fun d e he idle => ?_, fun h => same.locked h⟩
  obtain ⟨before, spared⟩ := stays d e he
  have fits := ((routeInv_iff s).1 h d e before idle).setBar (n := n) (v := true) fun _ app slot => by
    simp [spares, fromSlot, app, slot, idle] at spared
  exact (Entry.SameRoute.refl e).fits only.active only.bars fits

theorem liftBar_traffic (n : Nat) (s : State) : TrafficKept s (setBar s n false) where
  route h := (routeInv_iff _).2 fun d e he idle =>
    ((routeInv_iff s).1 h d e he idle).setBar fun bar => by cases bar
  locked h := h

theorem runSlotBar_traffic (body : List Byte) (s : State) : TrafficKept s (runSlotBar body s).1 := by
  unfold runSlotBar
  dsimp only
  split
  · exact .refl s
  · split
    · exact (barSlot_traffic _ s).trans (setFlag_traffic _ _ _)
    · exact (liftBar_traffic _ s).trans (setFlag_traffic _ _ _)

/-! ### COMMIT (R36, R37, R59) -/

/-- An entry that a commit leaves in its queue stands on a channel that is OPEN with the endpoints it had, and its slot
is allowed and not barred. -/
theorem unfit_eq_false {old new : Policy} {e : Entry} (h : unfit old new e = false) :
    ∃ o c, old.channels[e.channel]? = some o ∧ openChannel new e.channel = some c ∧ c.endA = o.endA ∧ c.endB = o.endB ∧
      (e.source = .app → c.allowsSlot (e.slot.getD 0) = true ∧
        (committedBars new)[e.slot.getD 0]?.getD false = false) := by
  unfold unfit at h
  split at h
  · rename_i o c before after
    obtain ⟨ends, app⟩ := Bool.or_eq_false_iff.1 h
    obtain ⟨endA, endB⟩ := not_or.1 (of_decide_eq_false ends)
    refine ⟨o, c, before, after, (not_not.1 endA).symm, (not_not.1 endB).symm, fun isApp => ?_⟩
    rw [isApp, decide_eq_true rfl, Bool.true_and, Bool.or_eq_false_iff] at app
    obtain ⟨allowed, barred⟩ := app
    exact ⟨by simpa using allowed, barred⟩
  · cases h

theorem switchCommitted_bars (s : State) : (switchCommitted s).switch.bars = committedBars s.staging := by
  obtain ⟨_, _, same⟩ := switchCommitted_queuesOnly s; rw [same]; rfl

/-- Each entry that waits after a commit waited before it and is not unfit (R59). -/
theorem mem_switchCommitted {s : State} {d : Domain} {e : Entry} (he : e ∈ ((switchCommitted s).queue d).all)
    (idle : e.sending = false) :
    ∃ x ∈ (s.queue d).all, x.sending = false ∧ e.channel = x.channel ∧ e.source = x.source ∧ e.slot = x.slot ∧
      unfit s.active s.staging x = false := by
  obtain ⟨c, hc⟩ := mem_all_iff.1 he
  rw [switchCommitted_entries] at hc
  obtain ⟨x, hx, rfl⟩ := List.mem_map.1 hc
  obtain ⟨before, spared⟩ := List.mem_filter.1 hx
  have waits : x.sending = false := by
    unfold committedEntry at idle
    split at idle <;> exact idle
  refine ⟨x, mem_all_iff.2 ⟨c, before⟩, waits, ?_, ?_, ?_, by simpa [spares, waits] using spared⟩
  all_goals unfold committedEntry; split <;> rfl

theorem switchCommitted_traffic (s : State) : TrafficKept s (switchCommitted s) where
  route h := (routeInv_iff _).2 fun d e he idle => by
    obtain ⟨x, hx, waits, channel, source, slot, fit⟩ := mem_switchCommitted he idle
    obtain ⟨c, found, endpoint, other, app⟩ := (routeInv_iff s).1 h d x hx waits
    obtain ⟨o, k, before, after, endA, endB, allowed⟩ := unfit_eq_false fit
    obtain rfl : o = c := Option.some_inj.1 (before.symm.trans (openChannel_eq_some.1 found).1)
    refine ⟨k, by rw [switchCommitted_active, channel]; exact after, ?_, ?_, fun isApp => ?_⟩
    · rw [Channel.isEndpoint, endA, endB, source]; exact endpoint
    · rw [Channel.other, endA, endB, source]; exact other
    · rw [source] at isApp
      obtain ⟨n, own, small, -, -⟩ := app isApp
      obtain ⟨mask, bar⟩ := allowed isApp
      rw [own, Option.getD_some] at mask bar
      exact ⟨n, slot.trans own, small, mask, by rw [Switch.barred, switchCommitted_bars]; exact bar⟩
  locked h := (lockedInv_iff _).2 fun now d e he idle => by
    rw [switchCommitted_ctl] at now
    obtain ⟨x, hx, waits, channel, -, -, fit⟩ := mem_switchCommitted he idle
    obtain ⟨o, k, before, after, endA, endB, -⟩ := unfit_eq_false fit
    have away := (lockedInv_iff s).1 h now d x hx waits
    rw [onAppChannel, before] at away
    rw [switchCommitted_active, onAppChannel, channel, (openChannel_eq_some.1 after).1]
    dsimp only [Channel.touchesApp] at away ⊢
    rw [endA, endB]
    exact away

theorem acceptCommit_traffic (s : State) : TrafficKept s (acceptCommit s) := by
  have committed : TrafficKept s (if s.generation = 0 then startFrontEnd (commitSwitch s.active (commitTables s))
      else commitSwitch s.active (commitTables s)) :=
    .ite ((switchCommitted_traffic s).trans (startFrontEnd_traffic _)) (switchCommitted_traffic s)
  exact (((committed.trans (setGate_traffic _ _)).trans (setSup_traffic _ _)).trans (judgeTamper_traffic _ _)).trans
    (judgeTamper_traffic _ _)

end Sys2Proof.Machine
end

section
/-! PROOF. O54 and O55: every command keeps the queued entries within the policy in force, and in LOCKED away from APP
(R41, R56–R59). -/

namespace Sys2Proof.Machine

open Sys2Proof

/-! ### The owners of requests -/

theorem runCommit_traffic (body : List Byte) (s : State) : TrafficKept s (runCommit body s).1 := by
  unfold runCommit
  split
  · exact .refl s
  · split
    · exact .refl s
    · split
      · exact .refl s
      · exact acceptCommit_traffic s

theorem runEntryBegin_traffic (body : List Byte) (s : State) : TrafficKept s (runEntryBegin body s).1 := by
  unfold runEntryBegin
  split
  · exact .refl s
  · split
    · exact .refl s
    · split
      · exact .refl s
      · exact beginSession_traffic _ s

theorem runEntryAbort_traffic (s : State) : TrafficKept s (runEntryAbort s).1 := by
  unfold runEntryAbort
  split
  · exact (endSession_traffic _ s).trans (takeReports_traffic _)
  · exact .refl s

theorem acceptUnlock_traffic (s : State) : TrafficKept s (acceptUnlock s) :=
  ((((setSup_traffic s _).trans (gateDo_traffic _ _)).trans (gateDo_traffic _ _)).trans
    (.kept _ _ (by rfl))).trans ((enterReleasing_traffic _).trans (takeReports_traffic _))

theorem runUnlock_traffic (s : State) : TrafficKept s (runUnlock s).1 := by
  unfold runUnlock
  split
  · exact .refl s
  · split
    · exact .refl s
    · split
      · exact .refl s
      · exact acceptUnlock_traffic s

theorem setBox_traffic (s : State) (d : Domain) (b : NoticeBox) : TrafficKept s (s.setBox d b) :=
  .of_same rfl rfl rfl id

theorem staging_traffic (s : State) (p : Policy) : TrafficKept s { s with staging := p } := .of_same rfl rfl rfl id

theorem ownerOf_traffic (d : Domain) (f : Frame) (s : State) : TrafficKept s (ownerOf d f s).1 := by
  unfold ownerOf
  split
  · exact .refl s
  · exact runPost_traffic _ _ _ s
  · rw [runStatus_owner]; exact .refl s
  · exact setBox_traffic s _ _
  · exact setFlag_traffic _ _ s
  · rw [runLoad_eq]; exact staging_traffic s _
  · exact staging_traffic s _
  · exact runCommit_traffic _ s
  · exact runEntryBegin_traffic _ s
  · exact runEntryAbort_traffic s
  · exact runSlotBar_traffic _ s
  · exact runUnlock_traffic s
  · exact .refl s

/-! ### The ports -/

theorem setPort_traffic (s : State) (d : Domain) (p : Port) : TrafficKept s (s.setPort d p) := .of_same rfl rfl rfl id

theorem frames_traffic (s : State) (p : List Progress) (i : List InputEvent) :
    TrafficKept s { s with progress := p, inputs := i } := .of_same rfl rfl rfl id

theorem setReceiver_traffic (d : Domain) (r : Receiver) (s : State) : TrafficKept s (setReceiver d r s) :=
  setPort_traffic s d _

theorem validFrame_traffic (d : Domain) (f : Frame) (s : State) : TrafficKept s (validFrame d f (ownerOf d f) s) := by
  have told : TrafficKept s (if d = .pay then restartSilence s else s) := .ite (restartSilence_traffic s) (.refl s)
  have executed : ∀ u, TrafficKept u (execute d f (ownerOf d f) u) := fun u => by
    unfold execute
    split
    · exact setPort_traffic u _ _
    · exact (ownerOf_traffic d f u).trans (setPort_traffic _ _ _)
  exact told.trans (.ite (setFlag_traffic _ _ _) (executed _))

theorem wholeFrame_traffic (d : Domain) (f : Frame) (s : State) : TrafficKept s (wholeFrame d f (ownerOf d f) s) :=
  .ite (.refl s) ((setReceiver_traffic d _ s).trans (validFrame_traffic d f _))

theorem receive_traffic (d : Domain) (r : Receiver × RxEvent) (s : State) : TrafficKept s (receive d r s) := by
  refine .ite (.refl s) ((setReceiver_traffic d r.1 s).trans ?_)
  unfold rxEvent
  split
  · exact .refl _
  · exact setFlag_traffic _ _ _
  · exact validFrame_traffic _ _ _

theorem discardPartial_traffic (d : Domain) (s : State) : TrafficKept s (discardPartial d s) :=
  .ite ((setReceiver_traffic d _ s).trans (setFlag_traffic _ _ _)) (.refl s)

/-- A link reset empties the link's own queue and leaves the entries of the others (R60). -/
theorem linkCleared_traffic (d : Domain) (s : State) : TrafficKept s (linkCleared d s) := by
  have same := linkCleared_eq d s
  refine .of_fewer (by rw [same]) (by rw [same]) (fun x e he => ⟨e, ?_, .refl e⟩) fun h => .inl (by rwa [same] at h)
  by_cases own : x = d
  · subst own
    rw [DeliveryQueue.all, linkCleared_entries] at he
    cases he
  · rw [DeliveryQueue.all, (linkCleared_other own s).1] at he
    exact he

theorem linkReset_traffic (d : Domain) (s : State) : TrafficKept s (linkReset d s) :=
  (linkCleared_traffic d s).trans (.ite ((restartSilence_traffic _).trans (endSession_traffic _ _)) (.refl _))

theorem fullReset_traffic (s : State) : TrafficKept s (fullReset s) := by
  have empty : ∀ d e, e ∉ ((fullReset s).queue d).all := fun d e he => by rw [fullReset_queue] at he; cases he
  exact ⟨fun _ => (routeInv_iff _).2 fun d e he => absurd he (empty d e),
    fun _ => (lockedInv_iff _).2 fun _ d e he => absurd he (empty d e)⟩

/-- A completed frame leaves its place, and nothing joins a queue (R15). -/
theorem complete_traffic {d : Domain} {src : Source} {f : State → State} (h : ∀ u, TrafficKept u (f u)) (s : State) :
    TrafficKept s (complete d src f s) := .ite ((setPort_traffic s d _).trans (h _)) (.refl s)

theorem replyDone_traffic (d : Domain) (s : State) : TrafficKept s (replyDone d s) := by
  unfold replyDone
  split
  · exact .refl s
  · exact .ite (fullReset_traffic s) (setPort_traffic s d _)

theorem noticeDone_traffic (d : Domain) (s : State) : TrafficKept s (noticeDone d s) := by
  unfold noticeDone
  split
  · exact setBox_traffic s d _
  · exact .refl s
  · exact .refl s

/-! ### The end of a command -/

/-- Of the entries of a queue from which one is offered, each stands for one that was there. -/
theorem sameRoute_of_markSending {es : List Entry} {e : Entry} (h : e ∈ markSending es) : ∃ x ∈ es, x.SameRoute e := by
  induction es with
  | nil => cases h
  | cons x xs ih =>
    unfold markSending at h
    split at h
    · rcases List.mem_cons.1 h with rfl | tail
      · exact ⟨x, List.mem_cons_self, rfl, rfl, rfl, fun idle => by cases idle⟩
      · exact ⟨e, List.mem_cons_of_mem _ tail, .refl e⟩
    · rcases List.mem_cons.1 h with rfl | tail
      · exact ⟨e, List.mem_cons_self, .refl e⟩
      · obtain ⟨y, hy, same⟩ := ih tail
        exact ⟨y, List.mem_cons_of_mem _ hy, same⟩

theorem offer_traffic (s : State) (d : Domain) (c : Class) (n : Nat) :
    TrafficKept s (s.setQueue d ((s.queue d).offer c n)) := by
  refine .setQueue fun e he => ?_
  obtain ⟨k, hk⟩ := mem_all_iff.1 he
  rw [DeliveryQueue.offer, PerClass.get_set] at hk
  split at hk
  · obtain ⟨x, hx, same⟩ := sameRoute_of_markSending hk
    exact ⟨x, mem_all_iff.2 ⟨c, hx⟩, same⟩
  · exact ⟨e, mem_all_iff.2 ⟨k, hk⟩, .refl e⟩

theorem choose_traffic (d : Domain) (s : State) : TrafficKept s (choose d s) := by
  have cases := choose_cases d s
  generalize choose d s = t at cases ⊢
  rcases cases with rfl | ⟨-, -, ⟨r, rs, -, rfl⟩ | ⟨-, session | ⟨-, notice⟩ | ⟨-, -, delivery⟩⟩⟩
  · exact .refl _
  · exact setPort_traffic s d _
  · unfold beginSessionFrame at session
    split at session
    · split at session <;> cases session <;> exact setPort_traffic s _ _
    · split at session <;> cases session
      exact .of_same rfl rfl rfl id
    · cases session
  · unfold beginNotice at notice
    split at notice <;> cases notice
    exact (setBox_traffic s d _).trans (setPort_traffic _ d _)
  · unfold beginDelivery at delivery
    split at delivery
    · cases delivery
    · split at delivery <;> cases delivery
      exact (offer_traffic s d _ _).trans (setPort_traffic _ d _)

theorem finish_traffic (s : State) : TrafficKept s (finish s) :=
  (TrafficKept.foldl (fun s d => choose_traffic d s) _ s).trans
    (.foldl (fun s d => by rw [judgeStall_eq]; exact setPort_traffic s d _) _ _)

/-! ### All commands -/

theorem TrafficKept.of_act {s t : State} {f : State → State} (h : act s f = .next t) (hf : TrafficKept s (f s)) :
    TrafficKept s t := by
  cases h
  exact .ite (.refl s) ((hf.trans (takeReports_traffic _)).trans (finish_traffic _))

theorem TrafficKept.of_actPin {s t : State} {pin f : State → State} (h : actPin s pin f = .next t)
    (hp : TrafficKept s (pin s)) (hf : TrafficKept s (f s)) : TrafficKept s t := by
  unfold actPin at h
  split at h
  · cases h; exact hp
  · exact .of_act h hf

theorem exec_traffic {c : Instr} {s t : State} (h : exec c s = .next t) : TrafficKept s t := by
  cases hc : requestOf c with
  | some df =>
    rw [exec_request hc] at h
    exact .of_act h (wholeFrame_traffic _ _ s)
  | none =>
    cases c with
    | lineError d =>
      change execLineError d s = _ at h
      exact .of_act h (.ite (.refl s) (discardPartial_traffic d s))
    | serialBreak d =>
      change execSerialBreak d s = _ at h
      exact .of_act h (.ite (.refl s) (linkReset_traffic d s))
    | breakEnd d =>
      change execBreakEnd d s = _ at h
      exact .of_act h (.ite ((setPort_traffic s d _).trans (setReceiver_traffic d _ _)) (.refl s))
    | interByteTimeout d => exact .of_act h (.ite (discardPartial_traffic d s) (.refl s))
    | lengthOver512 d kind tag slot length => exact .of_act h (receive_traffic d _ s)
    | frameCheckFail d kind tag slot body check => exact .of_act h (receive_traffic d _ s)
    | readyAsserted d =>
      change execReadyAsserted d s = _ at h
      exact .of_actPin h (setPort_traffic s d _) (setPort_traffic s d _)
    | readyDeasserted d =>
      change execReadyDeasserted d s = _ at h
      exact .of_actPin h (setPort_traffic s d _) (setPort_traffic s d _)
    | stallTimerExpiry d => exact .of_act h (.ite ((setPort_traffic s d _).trans (setFlag_traffic _ _ _)) (.refl s))
    | replyComplete d => exact .of_act h (complete_traffic (replyDone_traffic d) s)
    | entryEndComplete => exact .of_act h (complete_traffic (fun u => placeEnd_traffic u none) s)
    | entryProgressComplete => exact .of_act h (complete_traffic (fun u => frames_traffic u _ u.inputs) s)
    | inputComplete => exact .of_act h (complete_traffic (fun u => frames_traffic u u.progress _) s)
    | noticeComplete d => exact .of_act h (complete_traffic (noticeDone_traffic d) s)
    | deliveryComplete d =>
      exact .of_act h (complete_traffic (fun u => (removeFrom_traffic d _ u).trans (judgeSpace_traffic d _)) s)
    | fullReset => cases h; exact fullReset_traffic s
    | fullResetEnd => cases h; exact .ite ((endFullReset_traffic s).trans (finish_traffic _)) (.refl s)
    | refillTimerExpiry => exact .of_act h (.ite (.of_same rfl rfl rfl id) (.refl s))
    | scanTimerExpiry plate => exact .of_act h (scanExpiry_traffic plate s)
    | burstEnd codes => exact .of_act h (burstDone_traffic codes s)
    | supplyRequestTimerExpiry => exact .of_act h (.ite (.of_arbiter (requestSupply_arbiter s)) (.refl s))
    | supplyConversionEnd code => exact .of_act h (supplyDone_traffic code s)
    | keyInputChange k l =>
      change execKeyInputChange k l s = _ at h
      exact .of_actPin h (setKey_traffic s k _) (setKey_traffic s k _)
    | keyDebounceExpiry k => exact .of_act h (debounceExpiry_traffic k s)
    | totalTimerExpiry => exact .of_act h (.ite (endSession_traffic _ s) (.refl s))
    | firstKeyTimerExpiry => exact .of_act h (.ite (endSession_traffic _ s) (.refl s))
    | interKeyTimerExpiry => exact .of_act h (.ite (endSession_traffic _ s) (.refl s))
    | inputFrameStart lines => exact .of_act h (inputFrameStart_traffic lines s)
    | silenceWatchExpiry lines => exact .of_act h (silenceExpiry_traffic lines s)
    | localFrameEnd => exact .of_act h (gateDo_traffic _ s)
    | tamperPinChange i l =>
      change execTamperPinChange i l s = _ at h
      exact .of_actPin h (setSup_traffic s _) (setSup_traffic s _)
    | tamperFilterExpiry i => exact .of_act h (filterExpiry_traffic i s)
    | paySilenceExpiry => exact .of_act h (.ite ((setSup_traffic s _).trans (endSession_traffic _ _)) (.refl s))
    | repeatTimerExpiry d =>
      change execRepeatTimerExpiry d s = _ at h
      exact .of_act h (setBox_traffic s d _)
    | receivedByte d b =>
      change execReceivedByte d b s = _ at h
      exact .of_act h (receive_traffic d _ s)
    | _ => cases hc

theorem step_traffic {s t : State} (h : step s = .next t) : TrafficKept s t := by
  unfold step at h
  split at h
  · cases h; exact .of_arbiter (panelTick_arbiter s)
  · rename_i rest _
    have taken : TrafficKept s { s with pending := rest } := .of_same rfl rfl rfl id
    exact taken.trans (exec_traffic h)

end Sys2Proof.Machine

open Sys2Proof Sys2Proof.Machine

/-- Settles O54: an entry joins only past the checks of R41, and what takes the ground from an entry, a bar or a commit,
purges it (`step_traffic`). -/
theorem queuedEntriesFitThePolicy : Obligations.QueuedEntriesFitThePolicy := fun _ _ inv h => (step_traffic h).route inv

/-- Settles O55: LOCKED is entered through its purge, a post of APP traffic is refused there, and a commit leaves no
entry whose channel has changed its endpoints (`step_traffic`). -/
theorem lockedHoldsNoAppTraffic : Obligations.LockedHoldsNoAppTraffic := fun _ _ inv h => (step_traffic h).locked inv

end

section
/-! PROOF. O28, O31 and O32: the weighted choice (R54), a completed DELIVERY (R55, R62), the refill and the supply
request (R47, R68, R151). -/

namespace Sys2Proof.Machine

open Sys2Proof

/-! ### The weighted choice (R54) -/

theorem oldest_isSome (q : DeliveryQueue) (c : Class) :
    (q.oldest c).isSome = (q.entries.get c).any fun e => !e.held && !e.sending := List.isSome_find?

/-! ### The marks met on a queue (R62) -/

theorem setFlag_flags (b : NoticeBox) (m : NoticeMode) (f : Flag) : (b.setFlag m f).flags = b.flags ||| f.mask :=
  BitVec.eq_of_getLsbD_eq fun i hi => by
    rw [setFlag_getLsbD, BitVec.getLsbD_or, Flag.mask, BitVec.getLsbD_twoPow]
    have small : f.bit < 16 := by cases f <;> decide
    simp [small, eq_comm]

/-- The box of `src` after the marks on link `d`'s queue have been judged. -/
theorem judgeSpace_box (d src : Domain) (s : State) :
    (judgeSpace d s).box src =
      if ((s.queue d).meets src .priority || (s.queue d).meets src .bulk) = true then
        (s.box src).setFlag (s.noticeMode src) .queueSpace
      else s.box src := by
  have judged := judgeSpace_marksJudged d s
  split
  · rename_i met
    rcases Bool.or_eq_true_iff.1 met with h | h
    · exact judged.met src .priority (mem_allMarks _ _) h
    · exact judged.met src .bulk (mem_allMarks _ _) h
  · rename_i unmet
    obtain ⟨priority, bulk⟩ := Bool.or_eq_false_iff.1 (Bool.eq_false_iff.2 unmet)
    refine judged.unmet src fun k _ => ?_
    cases k with
    | priority => exact priority
    | bulk => exact bulk

/-- Judging the marks on link `d`'s queue changes that queue and the boxes. -/
theorem judgeSpace_eq (d : Domain) (s : State) :
    judgeSpace d s = { s.setQueue d ((judgeSpace d s).queue d) with notices := (judgeSpace d s).notices } := by
  have judged := judgeSpace_marksJudged d s
  obtain ⟨q, n, same⟩ := judged.rest
  have queues : (judgeSpace d s).switch.queues = s.switch.queues.set d ((judgeSpace d s).queue d) :=
    PerDomain.ext_get fun e => by
      by_cases own : e = d
      · rw [own, PerDomain.get_set_same]; rfl
      · rw [PerDomain.get_set_ne _ _ own]; exact judged.other e own
  generalize judgeSpace d s = t at same queues ⊢
  subst same
  rw [show q = _ from queues]
  simp [State.setQueue, State.queue]

/-- The part once the entry in transmission on link `d` has left its queue, before the marks are judged. -/
def delivered (d : Domain) (s : State) : State := removeFrom d (fun e => e.sending) (txOver d s)

theorem delivered_queue (d : Domain) (s : State) :
    (delivered d s).queue d = (s.queue d).without fun e => e.sending := by
  rw [delivered, removeFrom_queue, if_pos rfl]; rfl

/-- A completed DELIVERY changes its port, its queue and the boxes. -/
theorem deliveryDone_eq (d : Domain) (s : State) :
    deliveryDone d (txOver d s) =
      { (s.setPort d { s.port d with tx := none }).setQueue d ((judgeSpace d (delivered d s)).queue d) with
        notices := (judgeSpace d (delivered d s)).notices } := by
  refine (judgeSpace_eq d (delivered d s)).trans ?_
  exact congrArg (fun q => ({ txOver d s with
    switch := { s.switch with queues := q }, notices := (judgeSpace d (delivered d s)).notices } : State))
    (PerDomain.set_set _ _ _ _)

end Sys2Proof.Machine

open Sys2Proof Sys2Proof.Machine

/-- Settles O28, by the four cases of R54's table: which of P and B there is. -/
theorem weightedChoiceFollowsTheTable : Obligations.WeightedChoiceFollowsTheTable := by
  intro q w
  have p := oldest_isSome q .priority
  have b := oldest_isSome q .bulk
  dsimp only [PerClass.get] at p b ⊢
  rw [← p, ← b, DeliveryQueue.choose]
  cases q.oldest .priority with
  | none => cases q.oldest .bulk <;> rfl
  | some _ => cases q.oldest .bulk <;> rfl

/-- Settles O31: the entry in transmission leaves (`removeFrom`), and then the marks on the queue are judged
(`judgeSpace_eq`, `judgeSpace_box`). -/
theorem deliveryCompletes : Obligations.DeliveryCompletes := by
  intro d s live sending left room
  have queue := delivered_queue d s
  have again : ∀ c, ((delivered d s).queue d).roomAgain c = room c := fun c => by
    rw [queue, DeliveryQueue.roomAgain, without_entries]
    cases c <;> rfl
  have judged := judgeSpace_marksJudged d (delivered d s)
  have done := (complete_of_sending sending (deliveryDone d)).trans (deliveryDone_eq d s)
  refine ⟨_, _, act_eq live done rfl, ?_, ?_, ?_, fun src => ?_⟩
  · rw [judged.entries, queue]; rfl
  · rw [judged.run, queue]; rfl
  · intro src c
    rw [judged.wanted, again, decide_eq_true (mem_allMarks src c), Bool.true_and, queue]
    rfl
  · have told : (judgeSpace d (delivered d s)).notices.get src =
        if (room .priority && ((s.queue d).wanted.get src).priority ||
          room .bulk && ((s.queue d).wanted.get src).bulk) = true then
          (s.box src).setFlag (s.active.notices.get src) .queueSpace else s.box src := by
      have met := judgeSpace_box d src (delivered d s)
      rw [DeliveryQueue.meets, DeliveryQueue.meets, again, again, queue] at met
      exact met
    dsimp only
    rw [told]
    refine ⟨?_, rfl⟩
    split
    · exact setFlag_flags _ _ _
    · rfl

/-- Settles O32: the refill and the arbiter's grant on the levels and the ADC alone. -/
theorem refillAndSupplyRequest : Obligations.RefillAndSupplyRequest := by
  refine fun s live => ⟨fun running => ?_, fun running => ?_⟩
  · refine ⟨refilled s.active.slots s.switch.levels, act_eq live (if_pos running) rfl, fun i => ?_⟩
    simp [refilled]
  · refine act_eq live ((if_pos running).trans ?_) rfl
    unfold requestSupply
    split <;> rfl

end

section
/-! PROOF. O13 and O14: the eleven checks of a post, in the terms of the tables, and what each outcome changes (R40–R50,
R61). -/

namespace Sys2Proof.Machine

open Sys2Proof

/-! ### The checks (R41) -/

theorem portCheck_post {d : Domain} {tag slot n : Byte} {payload : List Byte} (h : payload.length ≤ 511) :
    portCheck d ⟨0x01, tag, slot, n :: payload⟩ = none := by
  have fits : lengthFits .post (n :: payload).length = true := by
    rw [lengthFits, List.length_cons]; exact decide_eq_true ⟨by omega, by rw [maxBody]; omega⟩
  rw [portCheck, show requestKindOf 0x01 = some .post from rfl]
  dsimp only
  rw [fits]
  rfl

/-- Check 2: LOCKED shuts out APP and every channel that has an APP endpoint. -/
theorem postLocked_iff (s : State) (d : Domain) (n : Nat) :
    postLocked s d n = true ↔ s.ctl.state = .locked ∧
      (d = .app ∨ ∃ c, s.active.channels[n]? = some c ∧ c.state = .opened ∧ (c.endA = .app ∨ c.endB = .app)) := by
  unfold postLocked openChannel
  rw [Bool.and_eq_true, decide_eq_true_iff, Bool.or_eq_true, decide_eq_true_iff]
  refine and_congr_right fun _ => or_congr_right ?_
  cases s.active.channels[n]? with
  | none => simp
  | some c =>
    by_cases opened : c.state = .opened
    · simp [opened, Channel.touchesApp]
    · simp [opened]

theorem permits_iff (c : Channel) (d : Domain) :
    c.permits d = true ↔
      c.direction = .both ∨ c.direction = .aToB ∧ c.endA = d ∨ c.direction = .bToA ∧ c.endB = d := by
  unfold Channel.permits
  cases c.direction <;> simp

theorem barred_iff (w : Switch) (n : Nat) : w.barred n = true ↔ w.bars[n]? = some true := by
  unfold Switch.barred
  cases w.bars[n]? <;> simp

/-- Check 11 (R50). -/
theorem hasRoom_iff (q : DeliveryQueue) (c : Class) (n : Nat) :
    (!q.hasRoom c n) = true ↔
      23 < q.all.length ∨ 6144 < payloadBytes q.all + n ∨
        c = .bulk ∧ (17 < q.entries.bulk.length ∨ 4608 < payloadBytes q.entries.bulk + n) := by
  cases c <;> simp [DeliveryQueue.hasRoom, maxEntries, maxBytes, maxBulkEntries, maxBulkBytes] <;> omega

/-- Checks 4 to 11 of R41 for a post of `m` payload bytes, in the order of the table. -/
theorem postChecks_eq (s : State) (d : Domain) (slot : Nat) (c : Channel) (m : Nat) :
    postChecks s d slot c m =
      if ¬(c.endA = d ∨ c.endB = d) then some .notEndpoint
      else if ¬(c.direction = .both ∨ c.direction = .aToB ∧ c.endA = d ∨ c.direction = .bToA ∧ c.endB = d) then
        some .direction
      else if ¬(d = .app → slot < 8 ∧ (c.mask.getD 0).getLsbD slot = true) then some .slotDenied
      else if d = .app ∧ s.switch.bars[slot]? = some true then some .slotBarred
      else if m = 0 then some .badLength
      else if c.maxPayload < m then some .tooLong
      else if s.ctl.state ≠ .opened ∧ c.hold = .refuse then some .held
      else if d = .app ∧ c.other d = .rad ∧ (s.switch.levels[slot]?).getD 0 < m + 8 then some .quota
      else if 23 < (s.queue (c.other d)).all.length ∨ 6144 < payloadBytes (s.queue (c.other d)).all + m ∨
          c.cls = .bulk ∧ (17 < (s.queue (c.other d)).entries.bulk.length ∨
            4608 < payloadBytes (s.queue (c.other d)).entries.bulk + m) then some .queueFull
      else none := by
  have endpoint : (!c.isEndpoint d) = true ↔ ¬(c.endA = d ∨ c.endB = d) := by simp [Channel.isEndpoint]
  have allowed : d = .app ∧ (8 ≤ slot ∨ (!c.allowsSlot slot) = true) ↔
      ¬(d = .app → slot < 8 ∧ (c.mask.getD 0).getLsbD slot = true) := by
    simp only [Channel.allowsSlot, Bool.not_eq_true', ← Bool.not_eq_true, ← Nat.not_lt]; tauto
  have metered : c.metered d = true ∧ s.switch.level slot < postCost m ↔
      d = .app ∧ c.other d = .rad ∧ (s.switch.levels[slot]?).getD 0 < m + 8 := by
    rw [Channel.metered, decide_eq_true_iff, and_assoc]; rfl
  exact if_congr endpoint rfl <| if_congr (by rw [← permits_iff]; simp) rfl <| if_congr allowed rfl <|
    if_congr (and_congr_right fun _ => barred_iff _ _) rfl <| if_congr .rfl rfl <| if_congr .rfl rfl <|
    if_congr .rfl rfl <| if_congr metered rfl <| if_congr (hasRoom_iff _ _ _) rfl rfl

/-- Checks 8 to 11, for a post that passes the four on its channel and its slot. -/
theorem postChecks_of_admitted {s : State} {d : Domain} {slot : Nat} {c : Channel} (m : Nat)
    (endpoint : c.endA = d ∨ c.endB = d)
    (way : c.direction = .both ∨ c.direction = .aToB ∧ c.endA = d ∨ c.direction = .bToA ∧ c.endB = d)
    (allowed : d = .app → slot < 8 ∧ (c.mask.getD 0).getLsbD slot = true)
    (free : ¬(d = .app ∧ s.switch.bars[slot]? = some true)) :
    postChecks s d slot c m =
      if m = 0 then some .badLength
      else if c.maxPayload < m then some .tooLong
      else if s.ctl.state ≠ .opened ∧ c.hold = .refuse then some .held
      else if d = .app ∧ c.other d = .rad ∧ (s.switch.levels[slot]?).getD 0 < m + 8 then some .quota
      else if 23 < (s.queue (c.other d)).all.length ∨ 6144 < payloadBytes (s.queue (c.other d)).all + m ∨
          c.cls = .bulk ∧ (17 < (s.queue (c.other d)).entries.bulk.length ∨
            4608 < payloadBytes (s.queue (c.other d)).entries.bulk + m) then some .queueFull
      else none := by
  rw [postChecks_eq, if_neg (not_not.2 endpoint), if_neg (not_not.2 way), if_neg (not_not.2 allowed), if_neg free]

theorem way_of_endpoint {c : Channel} {d : Domain}
    (h : c.endA = d ∧ c.direction ≠ .bToA ∨ c.endB = d ∧ c.direction ≠ .aToB) :
    c.direction = .both ∨ c.direction = .aToB ∧ c.endA = d ∨ c.direction = .bToA ∧ c.endB = d := by
  cases direction : c.direction with
  | aToB => simpa [direction] using h
  | bToA => simpa [direction] using h
  | both => exact .inl rfl

/-! ### The outcomes (R45, R61) -/

section Outcomes

variable {s : State} {d : Domain} {slot n : Byte} {payload : List Byte}

theorem runPost_noPolicy (h : s.generation = 0) : runPost d slot (n :: payload) s = (s, .noPolicy, []) := if_pos h

theorem runPost_locked (policy : s.generation ≠ 0) (locked : postLocked s d n.toNat = true) :
    runPost d slot (n :: payload) s = (s, .locked, []) := by
  rw [runPost, if_neg policy]
  exact if_pos locked

variable (policy : s.generation ≠ 0) (unlocked : postLocked s d n.toNat = false)
include policy unlocked

theorem runPost_noChannel (h : openChannel s.active n.toNat = none) :
    runPost d slot (n :: payload) s = (s, .noChannel, []) := by
  rw [runPost, if_neg policy, show postChannel (n :: payload) = n.toNat from rfl, unlocked, h]; rfl

variable {c : Channel} (found : openChannel s.active n.toNat = some c)
include found

theorem runPost_accepted (passed : postChecks s d slot.toNat c payload.length = none) :
    runPost d slot (n :: payload) s = (acceptPost s d slot.toNat n.toNat c payload, .ok, []) := by
  rw [runPost, if_neg policy, show postChannel (n :: payload) = n.toNat from rfl,
    show postPayload (n :: payload) = payload from rfl, unlocked, found]
  dsimp only
  rw [passed]; rfl

theorem runPost_full (full : postChecks s d slot.toNat c payload.length = some .queueFull) :
    runPost d slot (n :: payload) s =
      (s.setQueue (c.other d) ((s.queue (c.other d)).setWanted d c.cls true), .queueFull, []) := by
  rw [runPost, if_neg policy, show postChannel (n :: payload) = n.toNat from rfl,
    show postPayload (n :: payload) = payload from rfl, unlocked, found]
  dsimp only
  rw [full]; rfl

theorem runPost_refused {st : Status} (fails : postChecks s d slot.toNat c payload.length = some st)
    (room : st ≠ .queueFull) : runPost d slot (n :: payload) s = (s, st, []) := by
  rw [runPost, if_neg policy, show postChannel (n :: payload) = n.toNat from rfl,
    show postPayload (n :: payload) = payload from rfl, unlocked, found]
  dsimp only
  rw [fails]
  cases st with
  | queueFull => exact absurd rfl room
  | _ => rfl

end Outcomes

/-- A post that is executed answers as its owner says (R8–R10). -/
theorem exec_post {d : Domain} {tag slot n : Byte} {payload : List Byte} {s u : State} {st : Status}
    (accepts : s.Accepts d) (short : payload.length ≤ 511)
    (owner : runPost d slot (n :: payload) (s.arrived d) = (u, st, [])) (quiet : u.reports = s.reports) :
    exec (.post d tag slot (n :: payload)) s = .next (finish (u.answered d ⟨0x01, tag, slot, n :: payload⟩ st [])) :=
  exec_passed rfl accepts (portCheck_post short) owner (quiet.trans accepts.1.1.2)

end Sys2Proof.Machine

open Sys2Proof Sys2Proof.Machine

/-- Settles O13: no check of R41 fails, and the acceptance pays and appends (R45). -/
theorem postIsAccepted : Obligations.PostIsAccepted := by
  intro d tag slot n payload c s accepts policy there opened away way admitted some_ fits short holds dest metered level
    paid entries bytes bulk entry s1 s2 s3
  have found : openChannel s.active n.toNat = some c := openChannel_eq_some.2 ⟨there, opened⟩
  have unlocked : postLocked s d n.toNat = false := by
    refine Bool.eq_false_iff.2 fun locked => ?_
    obtain ⟨state, app⟩ := (postLocked_iff s d n.toNat).1 locked
    obtain ⟨notApp, endA, endB⟩ := away state
    rcases app with app | ⟨k, hk, -, ends⟩
    · exact notApp app
    · obtain rfl := Option.some_inj.1 (hk.symm.trans there)
      exact ends.elim endA endB
  have passed : postChecks s d slot.toNat c payload.length = none := by
    have barred : ¬(d = .app ∧ s.switch.bars[slot.toNat]? = some true) := fun ⟨app, bar⟩ => by
      obtain ⟨-, -, lifted⟩ := admitted app
      rw [bar] at lifted; cases lifted
    have allowed : d = .app → slot.toNat < 8 ∧ (c.mask.getD 0).getLsbD slot.toNat = true := fun app => by
      obtain ⟨small, ⟨m, mask, bit⟩, -⟩ := admitted app
      exact ⟨small, by rw [mask]; exact bit⟩
    rw [postChecks_of_admitted _ (way.imp And.left And.left) (way_of_endpoint way) allowed barred, if_neg (by omega),
      if_neg (by omega), if_neg fun ⟨shut, refuse⟩ => holds.elim shut fun k => k refuse,
      if_neg fun ⟨app, rad, poor⟩ => absurd (paid ⟨app, rad⟩) (Nat.not_le.2 poor), if_neg ?room]
    case room =>
      rintro (long | heavy | ⟨cls, full⟩)
      · exact absurd entries (Nat.not_le.2 long)
      · exact absurd bytes (Nat.not_le.2 heavy)
      · obtain ⟨few, light⟩ := bulk cls
        exact full.elim (Nat.not_lt.2 few) (Nat.not_lt.2 light)
  have accepted : acceptPost (s.arrived d) d slot.toNat n.toNat c payload = s3 := by
    by_cases pays : metered
    · have paying : c.metered d = true := decide_eq_true pays
      simp only [s3, s2, if_pos pays, acceptPost, if_pos paying]
      rfl
    · have free : ¬c.metered d = true := fun h => pays (of_decide_eq_true h)
      simp only [s3, s2, if_neg pays, acceptPost, if_neg free]
      rfl
  have owner := runPost_accepted (s := s.arrived d) (d := d) (slot := slot) policy unlocked found passed
  rw [accepted] at owner
  refine exec_post accepts short owner ?_
  rw [← accepted, acceptPost]
  split <;> rfl

/-- Settles O14: the first check that fails decides (`postChecks_eq`), and only QUEUE_FULL leaves a mark. -/
theorem refusedPostChangesNothing : Obligations.RefusedPostChangesNothing := by
  intro d tag slot n payload s accepts short f leaves refused channel opened locks
  have locked : postLocked (s.arrived d) d n.toNat = true ↔ locks := postLocked_iff s d n.toNat
  have answers : ∀ {st}, runPost d slot (n :: payload) (s.arrived d) = (s.arrived d, st, []) → refused st :=
    fun owner => exec_post accepts short owner rfl
  refine ⟨fun none => answers (runPost_noPolicy none),
    fun policy shut => answers (runPost_locked policy (locked.2 shut)),
    fun policy free shut => ?_, fun c policy free there open_ => ?_⟩
  · have unlocked := Bool.eq_false_iff.2 (mt locked.1 free)
    refine answers (runPost_noChannel policy unlocked (Option.eq_none_iff_forall_ne_some.2 fun c hc => ?_))
    exact shut ⟨c, openChannel_eq_some.1 hc⟩
  · have unlocked := Bool.eq_false_iff.2 (mt locked.1 free)
    have found : openChannel (s.arrived d).active n.toNat = some c := openChannel_eq_some.2 ⟨there, open_⟩
    intro m endpoint way allowed barred admitted dest refusing poor q full
    have checks := postChecks_eq s d slot.toNat c payload.length
    have fails : ∀ {st}, postChecks s d slot.toNat c payload.length = some st → st ≠ .queueFull → refused st :=
      fun h room => answers (runPost_refused (s := s.arrived d) policy unlocked found h room)
    have past : admitted → _ := fun ⟨he, hw, ha, hb⟩ => postChecks_of_admitted payload.length he hw ha hb
    refine ⟨fun he => fails ?_ (by decide), fun he hw => fails ?_ (by decide), fun he hw ha => fails ?_ (by decide),
      fun he hw ha hb => fails ?_ (by decide), fun h h0 => fails ?_ (by decide), fun h h0 h1 => fails ?_ (by decide),
      fun h h0 h1 h2 => fails ?_ (by decide), fun h h0 h1 h2 h3 => fails ?_ (by decide), fun h h0 h1 h2 h3 h4 => ?_⟩
    · rw [checks, if_pos he]
    · rw [checks, if_neg (not_not.2 he), if_pos hw]
    · rw [checks, if_neg (not_not.2 he), if_neg (not_not.2 hw), if_pos ha]
    · rw [checks, if_neg (not_not.2 he), if_neg (not_not.2 hw), if_neg (not_not.2 ha), if_pos hb]
    · rw [past h, if_pos h0]
    · rw [past h, if_neg h0, if_pos h1]
    · rw [past h, if_neg h0, if_neg (Nat.not_lt.2 h1), if_pos h2]
    · rw [past h, if_neg h0, if_neg (Nat.not_lt.2 h1), if_neg h2]; exact if_pos h3
    · refine exec_post accepts short (runPost_full (s := s.arrived d) policy unlocked found ?_) rfl
      refine (past h).trans ?_
      rw [if_neg h0, if_neg (Nat.not_lt.2 h1), if_neg h2]
      exact (if_neg h3).trans (if_pos h4)

end

section
/-! PROOF. O24: SLOT-BAR bars, purges and has the marks judged (R56, R57, R62). -/

namespace Sys2Proof.Machine

open Sys2Proof

theorem spares_fromSlot (n : Nat) :
    spares (fromSlot n) = fun e => decide (e.source = .app ∧ e.slot = some n ∧ e.sending = false) :=
  funext fun e => by
    unfold spares fromSlot
    cases e.sending <;> simp

/-- Judging the marks sets no flag but QUEUE_SPACE (R62). -/
theorem spaceJudged_flags_or (s : State) (gone : Entry → Bool) (d : Domain) (b : NoticeBox) :
    (s.spaceJudged gone d b).flags ||| 0x0008 = b.flags ||| 0x0008 := by
  unfold State.spaceJudged
  split
  · rw [setFlag_flags, BitVec.or_assoc]; rfl
  · rfl

theorem setFlag_queue (d e : Domain) (f : Flag) (s : State) : (setFlag d f s).queue e = s.queue e := rfl

/-! ### The outcomes -/

theorem runSlotBar_refused {slot action : Byte} (h : 8 ≤ slot.toNat ∨ 2 ≤ action.toNat) (s : State) :
    runSlotBar [slot, action] s = (s, .badParameter, []) := if_pos h

theorem runSlotBar_unbar {slot action : Byte} (small : slot.toNat < 8) (unbar : action.toNat = 0) (s : State) :
    runSlotBar [slot, action] s = (setFlag .app .slotChange (setBar s slot.toNat false), .ok, [0, 0]) := by
  have valid : ¬(8 ≤ slot.toNat ∨ 2 ≤ action.toNat) := by omega
  have bar : action.toNat ≠ 1 := by omega
  exact (if_neg valid).trans (if_neg bar)

/-- The part once slot `n` is barred, its entries are purged and APP is told. -/
def slotBarred (s : State) (n : Nat) : State := setFlag .app .slotChange (purge (fromSlot n) (setBar s n true))

theorem runSlotBar_bar {slot action : Byte} (small : slot.toNat < 8) (bar : action.toNat = 1) (s : State) :
    runSlotBar [slot, action] s =
      (slotBarred s slot.toNat, .ok, twoBytes (purgeCount (fromSlot slot.toNat) s)) := by
  have valid : ¬(8 ≤ slot.toNat ∨ 2 ≤ action.toNat) := by omega
  exact (if_neg valid).trans (if_pos bar)

/-- A bar changes the bars, the queues and the boxes. -/
theorem slotBarred_queuesOnly (s : State) (n : Nat) : QueuesOnly (setBar s n true) (slotBarred s n) :=
  (purge_purged _ _).rest.trans (setFlag_queuesOnly _ _ _)

theorem slotBarred_queue (s : State) (n : Nat) (d : Domain) :
    (slotBarred s n).queue d = (purge (fromSlot n) (setBar s n true)).queue d := setFlag_queue _ _ _ _

theorem slotBarred_box (s : State) (n : Nat) (d : Domain) :
    (slotBarred s n).box d =
      if d = .app then (s.spaceJudged (spares (fromSlot n)) d (s.box d)).setFlag (s.noticeMode d) .slotChange
      else s.spaceJudged (spares (fromSlot n)) d (s.box d) := by
  have purged := purge_purged (fromSlot n) (setBar s n true)
  have mode : (purge (fromSlot n) (setBar s n true)).noticeMode .app = s.noticeMode .app := by
    rw [State.noticeMode, purged.rest.active]; rfl
  have space : ∀ x, (purge (fromSlot n) (setBar s n true)).box x =
      s.spaceJudged (spares (fromSlot n)) x (s.box x) := purged.box
  rw [slotBarred, setFlag_box, space, space, mode]
  split
  · subst_vars; rfl
  · rfl

end Sys2Proof.Machine

open Sys2Proof Sys2Proof.Machine

/-- Settles O24: the purge is said by `purge_purged`, and SLOT_CHANGE comes after it. -/
theorem slotBarBarsAndPurges : Obligations.SlotBarBarsAndPurges := by
  intro tag sl slot action s accepts f gone
  refine ⟨fun bad => ?_, fun small unbar => ?_, fun small bar => ?_⟩
  · exact exec_passed rfl accepts rfl (runSlotBar_refused bad (s.arrived .pay)) accepts.1.1.2
  · exact exec_passed rfl accepts rfl (runSlotBar_unbar small unbar (s.arrived .pay)) accepts.1.1.2
  have gone_eq : spares (fromSlot slot.toNat) = gone := spares_fromSlot slot.toNat
  have purged := purge_purged (fromSlot slot.toNat) (setBar (s.arrived .pay) slot.toNat true)
  have boxes := slotBarred_box (s.arrived .pay) slot.toNat
  have queues := slotBarred_queue (s.arrived .pay) slot.toNat
  obtain ⟨q, n, same⟩ := slotBarred_queuesOnly (s.arrived .pay) slot.toNat
  have owner := runSlotBar_bar small bar (s.arrived .pay)
  rw [gone_eq] at boxes purged
  generalize slotBarred (s.arrived .pay) slot.toNat = u at boxes queues same owner
  refine ⟨u, _, exec_passed rfl accepts rfl owner ?quiet, ?count, by rw [same]; rfl, by rw [same]; rfl,
    by rw [same]; rfl, fun d => ⟨?run, fun c => ?entries⟩, fun d src c => ?wanted, boxes, ?told, ?flags,
    by rw [same]; rfl⟩
  case quiet => rw [same]; exact accepts.1.1.2
  case count => rw [purgeCount, gone_eq]; rfl
  case run => rw [queues]; exact purged.run d
  case entries => rw [queues]; exact purged.entries d c
  case wanted => rw [queues]; exact purged.wanted d src c
  case told =>
    rw [boxes, if_pos rfl, setFlag_getLsbD]
    exact Bool.or_true _
  case flags =>
    intro d raised
    have space := spaceJudged_flags_or (s.arrived .pay) gone d ((s.arrived .pay).box d)
    by_cases app : d = .app
    · have may : raised = 0x0008 ||| Flag.slotChange.mask := if_pos app
      rw [boxes, if_pos app, setFlag_flags, may, BitVec.or_assoc, BitVec.or_comm Flag.slotChange.mask,
        BitVec.or_assoc, BitVec.or_self, ← BitVec.or_assoc, ← BitVec.or_assoc, space]
      rfl
    · have may : raised = 0x0008 := if_neg app
      rw [boxes, if_neg app, may]
      exact space

end

section
/-! PROOF. O25: an accepted UNLOCK, as the next state it leaves (R128, R136, R141, R118). -/

namespace Sys2Proof.Machine

open Sys2Proof

/-- A stopped output in FOLLOW takes the clear set at once (R141), any other only has it pending. -/
theorem write_clear_gate (g : Gate) :
    (g.write OverlaySet.clear).1 = { g with
      pending := OverlaySet.clear
      active := if g.timing = .follow ∧ g.stopped = true then OverlaySet.clear else g.active } := by
  unfold Gate.write
  by_cases halted : g.timing = .follow ∧ g.stopped = true
  · by_cases shown : g.active = OverlaySet.clear
    · rw [if_neg (fun h => h.2.2.2 shown.symm), if_neg (fun h => by cases h.2), if_pos halted, ← shown]
    · rw [if_pos ⟨halted.1, halted.2, rfl, fun h => shown h.symm⟩, if_pos halted]; rfl
  · rw [if_neg (fun h => halted ⟨h.1, h.2.1⟩), if_neg (fun h => by cases h.2), if_neg halted]

/-- The reports of a released part tell the controller nothing. -/
theorem takeReports_released {s : State} (h : AtMostClear s.reports) :
    takeReports s.released = ({ s with reports := [] } : State).released := by
  have still : ({ s with reports := [] } : State).released = { s.released with reports := [] } := by
    unfold State.released
    split <;> rfl
  have reports : s.released.reports = s.reports := by rw [← enterReleasing_eq_released, enterReleasing_reports]
  have past : s.released.ctl.state ≠ .closing := by
    rw [← enterReleasing_eq_released]; exact enterReleasing_state_ne s
  rw [still]
  rcases h with none | clear
  · rw [takeReports_of_none (reports.trans none)]
    generalize s.released = u at reports
    rw [none] at reports
    rw [← reports]
  · rw [takeReports_of_clear (reports.trans clear), if_neg past]

/-- The part once an UNLOCK has cleared the latches and the lock shown mark, written the clear set and asked for FOLLOW
timing (R128, R136, R141). -/
def unlocked (s : State) : State :=
  { s with
    ctl := { s.ctl with lockShown := false }
    gate := { s.gate with
      pending := OverlaySet.clear
      active := if s.gate.timing = .follow ∧ s.gate.stopped = true then OverlaySet.clear else s.gate.active
      timing := if s.gate.timing = .toLocal then .follow
        else if s.gate.timing = .localTiming then .toFollow else s.gate.timing }
    sup := { s.sup with
      tamper := ⟨{ s.sup.tamper.a with latch := false }, { s.sup.tamper.b with latch := false }⟩ } }

theorem acceptUnlock_eq {s : State} (quiet : s.reports = []) : acceptUnlock s = (unlocked s).released := by
  have written : ∀ u : State, askFollow (writeSet OverlaySet.clear u) = { u with
      gate := (u.gate.write OverlaySet.clear).1.askFollow.1
      reports := u.reports ++ (u.gate.write OverlaySet.clear).2 } := fun u => by
    rw [askFollow, writeSet]
    simp [gateDo, askFollow_noReports]
  rw [acceptUnlock]
  dsimp only
  rw [written, enterReleasing_eq_released, takeReports_released, unlocked, askFollow_gate, write_clear_gate]
  · obtain ⟨⟩ := s
    cases quiet
    rfl
  · rw [show (clearLatches s).reports = s.reports from rfl, quiet]
    exact write_clear_reports _

theorem runUnlock_of_accepted {s : State} (locked : s.ctl.state = .locked) (a : s.sup.tamper.a.inTrip = false)
    (b : s.sup.tamper.b.inTrip = false) (shown : s.ctl.lockShown = true) :
    runUnlock s = (acceptUnlock s, .ok, []) := by
  have still : s.anyTrip = false := by rw [State.anyTrip, a, b]; rfl
  rw [runUnlock, if_neg (not_not.2 locked), still, shown]
  rfl

end Sys2Proof.Machine

open Sys2Proof Sys2Proof.Machine

/-- Settles O25: `acceptUnlock_eq`, by whether the glass is free. -/
theorem unlockReleasesThePart : Obligations.UnlockReleasesThePart := by
  intro tag slot s accepts locked a b shown free
  have tamper := arrived_tamper .pay s
  have owner := runUnlock_of_accepted (s := s.arrived .pay) locked (by rw [tamper]; exact a) (by rw [tamper]; exact b)
    shown
  rw [acceptUnlock_eq (s := s.arrived .pay) accepts.1.1.2] at owner
  have answer : ∀ u, u = (unlocked (s.arrived .pay)).released → u.reports = [] → exec (.unlock .pay tag slot []) s =
      .next (finish (u.answered .pay ⟨0x16, tag, slot, []⟩ .ok [])) := fun u same quiet =>
    exec_passed rfl accepts rfl (by rw [same]; exact owner) quiet
  unfold State.released at answer
  by_cases glass : free
  · refine ⟨_, answer _ (if_pos glass).symm accepts.1.1.2, ?_, rfl, ?_, fun _ => ⟨rfl, fun d c => ?_⟩,
      fun held => absurd glass held, fun _ => rfl, rfl, rfl, rfl, rfl, fun d => ?_, rfl⟩
    · rw [if_pos glass, ← tamper]; rfl
    · rw [if_pos glass]; rfl
    · cases d <;> cases c <;> rfl
    · cases d <;> exact ⟨rfl, rfl⟩
  · refine ⟨_, answer _ (if_neg glass).symm accepts.1.1.2, ?_, rfl, ?_, fun free => absurd free glass,
      fun _ => ⟨rfl, rfl, rfl⟩, fun free => absurd free glass, rfl, rfl, rfl, rfl, fun d => ⟨rfl, rfl⟩, rfl⟩
    · rw [if_neg glass, ← tamper]; rfl
    · rw [if_neg glass]; rfl

end

section
/-! PROOF. A trip outside LOCKED locks the part from every state of the controller, as the next state it leaves (R126,
R51, R58, R62, R96, R135, R139). -/

namespace Sys2Proof.Machine

open Sys2Proof

/-! ### A purge after entries have been marked -/

theorem mapEntries_of_same {f : Entry → Entry} (h : ∀ e, f e = e) (s : State) : mapEntries f s = s := by
  have same : f = id := funext h
  subst same
  simp [mapEntries, allDomains, State.setQueue, State.queue, DeliveryQueue.mapLists, PerDomain.set, PerDomain.get]

/-- Marks that neither the purge nor a payload depends on leave its judging of space as it is. -/
theorem meetsSpace_mapEntries {f : Entry → Entry} {gone : Entry → Bool} (same : ∀ e, gone (f e) = gone e)
    (payload : ∀ e, (f e).payload = e.payload) (s : State) (d x : Domain) (k : Class) :
    (mapEntries f s).meetsSpace gone d x k = s.meetsSpace gone d x k := by
  have left : ∀ es : List Entry, ((es.map f).filter fun e => !gone e) = (es.filter fun e => !gone e).map f :=
    fun es => by
      rw [List.filter_map]
      exact congrArg _ (List.filter_congr fun e _ => by rw [Function.comp_apply, same])
  have some : ((mapEntries f s).queue d).all.any gone = (s.queue d).all.any gone := by
    rw [mapEntries_queue, DeliveryQueue.all, DeliveryQueue.all]
    simp only [DeliveryQueue.mapLists, List.any_append, List.any_map, Function.comp_def, same]
  unfold State.meetsSpace
  dsimp only
  rw [mapEntries_entries, left, List.length_map, payloadBytes_map payload, some, mapEntries_queue]
  rfl

/-! ### The part as the trip finds it locked -/

/-- The events that a trip tells APP: from OPEN, those of leaving it (R96). -/
def lockTold (s : State) : List InputEvent := if s.ctl.state = .opened then s.departure else []

/-- An entry after a trip: from OPEN, one on a HOLD channel is held (R51). -/
def shutEntry (s : State) (e : Entry) : Entry :=
  if s.ctl.state = .opened ∧ e.sending = false ∧ onHoldChannel s.active e = true then { e with held := true } else e

/-- The controller that a trip leaves (R126). -/
def lockCtl (s : State) : Controller :=
  { s.ctl.erased with
    state := .locked
    lockShown := decide ((s.gate.lockAsked (lockSet s.active)).active = lockSet s.active)
    appStroke := if s.ctl.state = .opened then none else s.ctl.appStroke
    keyMarks := if s.ctl.state = .opened then ⟨false, false, false, false⟩ else s.ctl.keyMarks }

/-- The part that a trip has locked, before its queues are marked and purged. -/
def locking (s : State) : State :=
  { s.toldAll (lockTold s) with
    ctl := lockCtl s, gate := s.gate.lockAsked (lockSet s.active)
    reports := s.gate.lockReports (lockSet s.active), entryEnd := (placeTamperEnd s).entryEnd
    sup := { s.sup with silence := .stopped } }

theorem placeTamperEnd_eq (s : State) : placeTamperEnd s = { s with entryEnd := (placeTamperEnd s).entryEnd } := by
  unfold placeTamperEnd
  split
  · rfl
  · split <;> rfl

theorem placeTamperEnd_inSession {s : State} {r : Session} (live : s.inSession) (record : s.ctl.record = some r) :
    (placeTamperEnd s).entryEnd = some ⟨s.ctl.session, .tamper, r.mode,
      if r.mode = .pin then s.ctl.buffer.length else s.ctl.points.length, .absent⟩ := by
  rw [placeTamperEnd, record]
  dsimp only
  rw [if_pos live, buildEnd]
  cases r.mode <;> rfl

theorem placeTamperEnd_noSession {s : State} (none : ¬s.inSession) : (placeTamperEnd s).entryEnd = s.entryEnd := by
  unfold placeTamperEnd
  split
  · rfl
  · exact congrArg State.entryEnd (if_neg none)

theorem lockWritten_exact {s : State} (quiet : s.reports = []) :
    lockWritten s =
      { s with
        ctl := s.ctl.erased, gate := s.gate.lockAsked (lockSet s.active)
        reports := s.gate.lockReports (lockSet s.active), entryEnd := (placeTamperEnd s).entryEnd } := by
  have asked := askLocal_lock s.gate (lockSet s.active)
  rw [lockWritten, placeTamperEnd_eq, askLocal, writeSet]
  simp only [gateDo, State.gate_setCtl, write_lock (lock := lockSet s.active) rfl, asked, State.reports_setCtl, quiet,
    List.append_nil, List.nil_append]
  rfl

theorem enterLocked_locking {s : State} (quiet : s.reports = []) :
    enterLocked s = lockedPurge (mapEntries (shutEntry s) (locking s)) := by
  by_cases opened : s.ctl.state = .opened
  · have marks : shutEntry s = fun e => if !e.sending && onHoldChannel s.active e then { e with held := true } else e :=
      funext fun e => by simp [shutEntry, opened]
    have start : tripped s = locking s := by
      unfold tripped locking lockTold lockCtl
      rw [if_pos opened, if_pos opened, if_pos opened, placeTamperEnd_of_opened opened, toldAll_eq]
      rfl
    have active : (locking s).active = s.active := by rw [locking, toldAll_eq]
    rw [enterLocked_of_opened opened quiet, start, markHeld, active, marks]
  · have kept : ∀ e, shutEntry s e = e := fun e => if_neg fun h => opened h.1
    have start : disarmSilence ((lockWritten s).setCtl (lockedCtl s.active (lockWritten s))) = locking s := by
      rw [lockWritten_exact quiet]
      unfold locking lockTold lockCtl
      rw [if_neg opened, if_neg opened, if_neg opened]
      rfl
    rw [mapEntries_of_same kept, enterLocked_eq, if_neg opened]
    exact congrArg lockedPurge start

/-! ### The locked part -/

/-- The reports of a locked part tell the controller nothing new (R127), from whatever state it was locked. -/
theorem takeReports_locking {s t : State} (rest : QueuesOnly (locking s) t) :
    takeReports t = { t with reports := [] } := by
  obtain ⟨q, n, rfl⟩ := rest
  refine takeReports_of_lock ?_ rfl fun some => ?_
  · change s.gate.lockReports (lockSet s.active) = [] ∨
      s.gate.lockReports (lockSet s.active) = [.setActive .lock]
    unfold Gate.lockReports
    split
    · exact .inr rfl
    · exact .inl rfl
  · change s.gate.lockReports (lockSet s.active) ≠ _ at some
    unfold Gate.lockReports at some
    split at some
    · rename_i idle
      exact decide_eq_true (if_pos idle.1)
    · exact absurd rfl some

/-- What a trip leaves of the part in `s`. -/
structure HasLocked (s u : State) : Prop where
  same : ∃ q n, u = { locking s with switch := { s.switch with queues := q }, notices := n, reports := [] }
  entries : ∀ d c, (u.queue d).entries.get c =
    (((s.queue d).entries.get c).map (shutEntry s)).filter fun e => !spares (onAppChannel s.active) e
  run : ∀ d, (u.queue d).run = (s.queue d).run
  wanted : ∀ d x k, ((u.queue d).wanted.get x).get k =
    (((s.queue d).wanted.get x).get k && !s.meetsSpace (spares (onAppChannel s.active)) d x k)
  box : ∀ x, u.box x = s.spaceJudged (spares (onAppChannel s.active)) x (s.box x)

theorem takeReports_enterLocked_hasLocked {s : State} (quiet : s.reports = []) :
    HasLocked s (takeReports (enterLocked s)) := by
  have told := toldAll_eq s (lockTold s)
  have active : (locking s).active = s.active := by rw [locking, told]
  have switch : (locking s).switch = s.switch := by rw [locking, told]
  have notices : (locking s).notices = s.notices := by rw [locking, told]
  have marked : QueuesOnly (locking s) (mapEntries (shutEntry s) (locking s)) := mapEntries_queuesOnly _ _
  have marks : ∀ e, spares (onAppChannel s.active) (shutEntry s e) = spares (onAppChannel s.active) e := fun e => by
    unfold shutEntry
    split <;> rfl
  have payload : ∀ e, (shutEntry s e).payload = e.payload := fun e => by
    unfold shutEntry
    split <;> rfl
  have space : ∀ d x k, (mapEntries (shutEntry s) (locking s)).meetsSpace (spares (onAppChannel s.active)) d x k =
      s.meetsSpace (spares (onAppChannel s.active)) d x k := fun d x k =>
    (meetsSpace_mapEntries marks payload _ d x k).trans
      (meetsSpace_of_queue (by rw [State.queue, switch]; rfl) _ x k)
  have queue : ∀ d, (mapEntries (shutEntry s) (locking s)).queue d =
      (s.queue d).mapLists fun es => es.map (shutEntry s) := fun d => by
    rw [mapEntries_queue, State.queue, switch]; rfl
  have entries : ∀ d c, ((mapEntries (shutEntry s) (locking s)).queue d).entries.get c =
      ((s.queue d).entries.get c).map (shutEntry s) := fun d c => by
    rw [queue]; cases c <;> rfl
  have box : ∀ d, (mapEntries (shutEntry s) (locking s)).box d = s.box d := fun d => by
    have kept : (mapEntries (shutEntry s) (locking s)).notices = (locking s).notices := by
      simp only [mapEntries, allDomains, List.foldl_cons, List.foldl_nil, State.notices_setQueue]
    rw [State.box, kept, notices]; rfl
  have purged := purge_purged (onAppChannel s.active) (mapEntries (shutEntry s) (locking s))
  have start := enterLocked_locking quiet
  rw [lockedPurge, marked.active, active] at start
  rw [start, takeReports_locking (marked.trans purged.rest)]
  have policy := marked.active.trans active
  generalize mapEntries (shutEntry s) (locking s) = v at *
  generalize purge (onAppChannel s.active) v = t at purged ⊢
  obtain ⟨q, n, same⟩ := marked.trans purged.rest
  refine ⟨⟨q, n, ?_⟩, fun d c => ?_, fun d => ?_, fun d x k => ?_, fun x => ?_⟩
  · rw [same, switch]
  · exact (purged.entries d c).trans (by rw [entries])
  · exact (purged.run d).trans (by rw [queue]; rfl)
  · exact (purged.wanted d x k).trans (by rw [queue, space]; rfl)
  · refine (purged.box x).trans ?_
    unfold State.spaceJudged
    simp only [space, box, policy]

end Sys2Proof.Machine
end

section
/-! PROOF. O47: a filter expiry judges the trip condition of its input, and a trip locks the part (R147–R149, R126). -/

namespace Sys2Proof.Machine

open Sys2Proof

theorem met_iff (sense : Sense) (filtered normal : Level) :
    sense.met filtered normal = true ↔
      sense = .tripLow ∧ filtered = .low ∨ sense = .tripHigh ∧ filtered = .high ∨
        sense = .tripChange ∧ filtered ≠ normal := by
  cases sense <;> simp [Sense.met]

section Expiry

variable {s : State} {i : TamperInput} (running : (s.tamper i).timer.isRunning = true)
include running

/-- Outside the beginning of a trip condition the expiry changes its input alone. -/
theorem filterExpiry_of_quiet {now : Bool}
    (judged : (s.active.supervision.sense.get i).met (s.tamper i).pin (s.tamper i).normal = now)
    (quiet : (now && !(s.tamper i).inTrip) = false) :
    filterExpiry i s =
      s.setTamper i { s.tamper i with filtered := (s.tamper i).pin, timer := .stopped, inTrip := now } := by
  have settled := judgeTamper_of_quiet
    (s := s.setTamper i { s.tamper i with filtered := (s.tamper i).pin, timer := .stopped }) (i := i)
    (by rw [State.begins, State.tamper_setTamper_same]; exact judged ▸ quiet)
  rw [filterExpiry, if_pos running, settled, State.judgedAt, State.tamper_setTamper_same, State.setTamper_setTamper,
    Tamper.judged, State.active_setTamper]
  dsimp only
  rw [judged, quiet, Bool.or_false]

/-- A trip condition that begins latches its input, and outside LOCKED the part locks. -/
theorem filterExpiry_of_trip
    (judged : (s.active.supervision.sense.get i).met (s.tamper i).pin (s.tamper i).normal = true)
    (before : (s.tamper i).inTrip = false) {tripped : State}
    (latched : tripped = s.setTamper i
      { s.tamper i with filtered := (s.tamper i).pin, timer := .stopped, inTrip := true, latch := true }) :
    filterExpiry i s =
      if s.ctl.state = .locked then tripped else takeReports (enterLocked (setFlag .pay .tamper tripped)) := by
  have begun := judgeTamper_of_begins
    (s := s.setTamper i { s.tamper i with filtered := (s.tamper i).pin, timer := .stopped }) (i := i)
    (by rw [State.begins, State.tamper_setTamper_same, Bool.and_eq_true]; exact ⟨judged, by rw [before]; rfl⟩)
  rw [filterExpiry, if_pos running, begun, State.judgedAt, State.tamper_setTamper_same, State.setTamper_setTamper,
    Tamper.judged, State.active_setTamper, latched]
  dsimp only
  rw [judged, before, Bool.not_false, Bool.and_true, Bool.or_true]
  rfl

end Expiry

/-! ### What the locked part shows of its fields -/

section Locked

variable {s u : State} (h : HasLocked s u)
include h

theorem HasLocked.inputs : u.inputs = (lockTold s).foldl (joinInput s.inputSending) s.inputs := by
  obtain ⟨q, n, same⟩ := h.same
  rw [same]
  exact toldAll_inputs s (lockTold s)

theorem HasLocked.lost :
    u.lost = (s.lost || decide (s.ctl.state = .opened ∧ 32 < s.inputs.length + (lockTold s).length)) := by
  obtain ⟨q, n, same⟩ := h.same
  rw [same]
  change (s.toldAll (lockTold s)).lost = _
  by_cases opened : s.ctl.state = .opened
  · have some : s.departure ≠ [] := by
      rw [departure_eq]; exact List.append_ne_nil_of_right_ne_nil _ (List.cons_ne_nil _ _)
    have told : lockTold s = s.departure := if_pos opened
    rw [told, toldAll_lost s some, decide_eq_decide.2 (and_iff_right opened)]
  · have told : lockTold s = [] := if_neg opened
    rw [told, decide_eq_false fun k => opened k.1, Bool.or_false]
    rfl

end Locked

/-- Space judged after TAMPER has been set adds no flag to PAY's but QUEUE_SPACE. -/
theorem setFlag_tamper_flags_or (b : NoticeBox) (m : NoticeMode) :
    (b.setFlag m .tamper).flags ||| 0x0008 = b.flags ||| 0x0048 := by
  rw [setFlag_flags, BitVec.or_assoc]; rfl

end Sys2Proof.Machine

open Sys2Proof Sys2Proof.Machine

/-- Settles O47: the condition is judged (`filterExpiry_of_quiet`, `filterExpiry_of_trip`), and `HasLocked` says what a
trip outside LOCKED leaves. -/
theorem tamperFilterTripsThePart : Obligations.TamperFilterTripsThePart := by
  intro i s live running sense pin met tripped
  have judged : sense.met pin (s.tamper i).normal = true ↔ met := met_iff _ _ _
  refine ⟨fun unmet => ?_, fun holds already => ?_, fun holds before locked => ?_, fun holds before unlocked => ?_⟩
  · exact act_eq live (filterExpiry_of_quiet running (Bool.eq_false_iff.2 (mt judged.1 unmet)) rfl) rfl
  · have same : sense.met pin (s.tamper i).normal = (s.tamper i).inTrip := (judged.2 holds).trans already.symm
    exact act_eq live (filterExpiry_of_quiet running same (by rw [already]; rfl)) rfl
  · exact act_eq live ((filterExpiry_of_trip running (judged.2 holds) before rfl).trans (if_pos locked)) rfl
  intro held gone opened told
  have run := (filterExpiry_of_trip running (judged.2 holds) before rfl).trans (if_neg unlocked)
  have left := takeReports_enterLocked_hasLocked (s := setFlag .pay .tamper (s.setTamper i tripped)) live.2
  generalize takeReports (enterLocked (setFlag .pay .tamper (s.setTamper i tripped))) = u at run left
  have inputs := left.inputs
  have lost := left.lost
  obtain ⟨⟨q, n, same⟩, entries, runs, wanted, box⟩ := left
  have boxes : ∀ src, u.box src = s.spaceJudged gone src
      (if src = .pay then (s.box src).setFlag (s.active.notices.get src) .tamper else s.box src) := fun src => by
    rw [box, setFlag_box]
    split
    · subst_vars; rfl
    · rfl
  have reports : u.reports = s.reports := by rw [same]; exact live.2.symm
  have gate : u.gate = s.gate.lockAsked (lockSet s.active) := by rw [same]; rfl
  refine ⟨u, act_eq live run reports, ?ctl, inputs, lost, wanted, boxes, ?sup, ?pay, fun d other => ?others,
    by rw [gate]; rfl, ?gate, fun r session record => ?ends, fun none => ?noEnd, ?progress, runs, fun d c => ?entries,
    ?beside⟩
  case ctl => rw [gate, same]; rfl
  case sup => rw [same]; rfl
  case pay =>
    rw [boxes, spaceJudged_flags_or]
    exact setFlag_tamper_flags_or _ _
  case others =>
    rw [boxes, spaceJudged_flags_or, if_neg other]
  case gate =>
    intro idle judge
    have shows : (idle = true) ↔ s.gate.Idle := by rw [judge, decide_eq_true_iff]
    rw [gate]
    simp only [shows]
    exact ⟨rfl, rfl, rfl, rfl, rfl, rfl, rfl, rfl, rfl⟩
  case ends =>
    rw [same]
    exact placeTamperEnd_inSession (s := setFlag .pay .tamper (s.setTamper i tripped)) session record
  case noEnd =>
    rw [same]
    exact placeTamperEnd_noSession (s := setFlag .pay .tamper (s.setTamper i tripped)) none
  case progress =>
    rw [same, locking, toldAll_eq]
    rfl
  case entries =>
    rw [entries]
    refine List.filter_congr fun e _ => ?_
    rw [spares, Bool.not_and, Bool.not_not]
    rfl
  case beside =>
    rw [same, locking, toldAll_eq]
    unfold State.besideSession
    rw [live.2]
    rfl

end

section
/-! PROOF. The end of ARMING with the glass free, as the next state it leaves (R105, R106, R121, R132, R135,
R138–R141). -/

namespace Sys2Proof.Machine

open Sys2Proof

/-! ### The secure set is written (R139, R132) -/

theorem write_overlay {o : OverlaySet} (h : o.presentation = .overlay) (g : Gate) :
    g.write o = ({ g with pending := o }, if g.episode = true then [.videoLoss] else []) := by
  unfold Gate.write
  dsimp only
  rw [h, if_neg fun k => by cases k.2.2.1]
  by_cases episode : g.episode = true
  · rw [if_pos ⟨episode, rfl⟩, if_pos episode]
  · rw [if_neg fun k => episode k.1, if_neg episode]

theorem write_full {o : OverlaySet} (h : o.presentation = .full) (g : Gate) :
    g.write o = ({ g with pending := o }, []) := by
  unfold Gate.write
  dsimp only
  rw [h, if_neg (fun k => by cases k.2.2.1), if_neg (fun k => by cases k.2)]

section Ends

variable {s : State} {r : Session} (record : s.ctl.record = some r)
include record

/-- An OVERLAY session leaves the timing as it is. -/
theorem endArming_overlay (overlay : r.presentation = .overlay) :
    endArming s =
      { s.presents r with reports := s.reports ++ if s.gate.episode = true then [.videoLoss] else [] } := by
  have notFull : ¬r.presentation = .full := by rw [overlay]; decide
  have written : (secureSet s.active r).presentation = .overlay := by
    rw [secureSet, overlay]; rfl
  rw [endArming, record]
  dsimp only
  rw [if_neg notFull, writeSet, gateDo, write_overlay written, State.presents, if_pos notFull,
    decide_eq_false fun h => notFull h.1, Bool.not_false, Bool.and_true]
  rfl

/-- A FULL session asks for LOCAL timing, as a lock set does. -/
theorem endArming_full (full : r.presentation = .full) :
    endArming s =
      { s with
        ctl := { s.ctl with state := .presenting }, gate := s.gate.lockAsked (secureSet s.active r)
        reports := s.reports ++ s.gate.lockReports (secureSet s.active r) } := by
  have written : (secureSet s.active r).presentation = .full := by
    rw [secureSet, full]; rfl
  have asked := askLocal_lock s.gate (secureSet s.active r)
  rw [endArming, record]
  dsimp only
  rw [if_pos full, askLocal, writeSet]
  simp only [gateDo, write_full written, asked, List.append_nil]
  rfl

end Ends

/-! ### The reports it brings -/

/-- A second wave of at most the clear set's report tells a controller outside CLOSING nothing. -/
theorem takeReports_of_wave {s u : State} (wave : takeWave s = u) (reports : AtMostClear u.reports)
    (past : u.ctl.state ≠ .closing) : takeReports s = { u with reports := [] } := by
  rw [takeReports, wave]
  rcases reports with none | clear
  · rw [takeWave, none]; rfl
  · rw [takeWave, clear, List.foldl_cons, List.foldl_nil, onReport]
    exact if_neg past

/-- The part as an OVERLAY session in PRESENTING has ended VIDEO_LOST, before the controller moves on (R119, R121,
R141). -/
def presentingLost (r : Session) (s : State) : State :=
  { s with
    ctl := s.ctl.erased
    gate := { s.gate with
      pending := OverlaySet.clear
      active := if s.gate.timing = .follow ∧ s.gate.stopped = true then OverlaySet.clear else s.gate.active }
    entryEnd := some (buildEarlyEnd .videoLost s.ctl r), sup := { s.sup with silence := .stopped } }

theorem endEarly_presentingLost {s : State} {r : Session} (presenting : s.ctl.state = .presenting)
    (overlay : r.presentation = .overlay) :
    endEarly .videoLost r s =
      ({ presentingLost r s with
        reports := s.reports ++ (s.gate.write OverlaySet.clear).2 } : State).released := by
  have notFull : ¬r.presentation = .full := by rw [overlay]; decide
  rw [endEarly]
  dsimp only
  rw [if_pos presenting, removeOverlay, if_neg notFull, enterReleasing_eq_released, writeSet]
  simp only [gateDo, State.gate_setCtl, write_clear_gate]
  rfl

/-- A loss report in PRESENTING ends an OVERLAY session (R121). -/
theorem takeReports_videoLoss {s : State} {r : Session} (loss : s.reports = [.videoLoss])
    (presenting : s.ctl.state = .presenting) (record : s.ctl.record = some r) (overlay : r.presentation = .overlay) :
    takeReports s = ({ presentingLost r s with reports := [] } : State).released := by
  have ends : endSession .videoLost { s with reports := [] } = endEarly .videoLost r { s with reports := [] } := by
    unfold endSession
    dsimp only
    rw [record]
    dsimp only
    rw [presenting]
  have wave : takeWave s = endEarly .videoLost r { s with reports := [] } := by
    rw [takeWave, loss, List.foldl_cons, List.foldl_nil, onReport]
    dsimp only
    rw [record]
    exact (if_pos ⟨.inl presenting, overlay⟩).trans ends
  rw [endEarly_presentingLost (s := { s with reports := [] }) presenting overlay] at wave
  have clear : AtMostClear ([] ++ (s.gate.write OverlaySet.clear).2) := write_clear_reports s.gate
  have none : ∀ t : State, ({ t.released with reports := [] } : State) = ({ t with reports := [] } : State).released :=
    fun t => by unfold State.released; split <;> rfl
  rw [takeReports_of_wave wave ?reports ?past, none]
  · rfl
  case reports => rw [← enterReleasing_eq_released, enterReleasing_reports]; exact clear
  case past => rw [← enterReleasing_eq_released]; exact enterReleasing_state_ne _

/-- The report that the secure set is active presents the session (R106). -/
theorem takeReports_of_secure {s : State} {r : Session} (shown : s.reports = [.setActive .secure])
    (presenting : s.ctl.state = .presenting) (record : s.ctl.record = some r) :
    takeReports s = enterSecure r { s with reports := [] } := by
  have wave : takeWave s = enterSecure r { s with reports := [] } := by
    rw [takeWave, shown, List.foldl_cons, List.foldl_nil, onReport]
    dsimp only
    rw [presenting, record]
  rw [takeReports_of_wave wave (.inl rfl) fun h => by cases h]
  rfl

/-- A FULL session after ARMING (R105, R135): where the output was idle the first local frame shows a set that is new
there, and the session is presented at once (R106). -/
def fullPresented (r : Session) (s : State) : State :=
  let shown := s.gate.Idle ∧ ¬s.gate.active = secureSet s.active r
  { s with
    ctl := if shown then
        { s.ctl with state := .secure, firstKey := .running (1000 * r.firstKey), candidate := .none }
      else { s.ctl with state := .presenting }
    gate := s.gate.lockAsked (secureSet s.active r)
    progress := if shown then joinProgress s.progress ⟨s.ctl.session, .presented, 0⟩ else s.progress }

theorem secureSet_isSecure (p : Policy) (r : Session) : (secureSet p r).isSecure = true := by
  unfold OverlaySet.isSecure OverlaySet.kind secureSet
  cases r.presentation <;> rfl

theorem takeReports_full {s : State} {r : Session} (quiet : s.reports = []) (record : s.ctl.record = some r)
    (full : r.presentation = .full) : takeReports (endArming s) = fullPresented r s := by
  rw [endArming_full record full, quiet, List.nil_append, fullPresented, Gate.lockReports]
  by_cases shown : s.gate.Idle ∧ ¬s.gate.active = secureSet s.active r
  · have kind : (secureSet s.active r).kind = .secure := of_decide_eq_true (secureSet_isSecure s.active r)
    rw [if_pos shown, kind]
    dsimp only
    rw [if_pos shown, if_pos shown]
    refine (takeReports_of_secure rfl rfl (by exact record)).trans ?_
    rw [← quiet]
    rfl
  · rw [if_neg shown]
    dsimp only
    rw [if_neg shown, if_neg shown, takeReports_of_none rfl, ← quiet]

theorem fullPresented_of_waits {s : State} {r : Session}
    (waits : ¬(s.gate.Idle ∧ ¬s.gate.active = secureSet s.active r)) :
    (fullPresented r s).ctl = { s.ctl with state := .presenting } ∧ (fullPresented r s).progress = s.progress :=
  ⟨if_neg waits, if_neg waits⟩

theorem fullPresented_of_shown {s : State} {r : Session}
    (shown : s.gate.Idle ∧ ¬s.gate.active = secureSet s.active r) :
    (fullPresented r s).ctl =
        { s.ctl with state := .secure, firstKey := .running (1000 * r.firstKey), candidate := .none } ∧
      (fullPresented r s).progress = joinProgress s.progress ⟨s.ctl.session, .presented, 0⟩ :=
  ⟨if_pos shown, if_pos shown⟩

theorem fullPresented_session (r : Session) (s : State) : (fullPresented r s).ctl.session = s.ctl.session := by
  unfold fullPresented
  dsimp only
  split <;> rfl

theorem presents_overlay {r : Session} (overlay : r.presentation = .overlay) (s : State) :
    (s.presents r).ctl = { s.ctl with state := .presenting } ∧
      (s.presents r).gate = { s.gate with pending := secureSet s.active r } := by
  have notFull : ¬r.presentation = .full := by rw [overlay]; decide
  rw [State.presents, if_pos notFull, decide_eq_false fun h => notFull h.1, Bool.not_false, Bool.and_true]
  exact ⟨rfl, rfl⟩

end Sys2Proof.Machine
end

section
/-! PROOF. O23: an accepted ENTRY-BEGIN, from the checks it passes to PRESENTING or SECURE (R102–R106, R96, R51,
R139). -/

namespace Sys2Proof.Machine

open Sys2Proof

/-! ### The secure set (R105, R124, R139) -/

theorem resolveCells_glyphless (digits : List Nat) (cells : List Cell) :
    ((resolveCells digits cells).map fun c => { c with glyph := none }) =
      cells.map fun c => { c with glyph := none } := by
  induction cells generalizing digits with
  | nil => rfl
  | cons c cs ih =>
    rw [resolveCells]
    split
    · rw [List.map_cons, List.map_cons, ih]
    · rw [List.map_cons, List.map_cons, ih]

/-- Cells that are no DIGIT are left as they are. -/
theorem resolveCells_others (digits : List Nat) (cells : List Cell) :
    ((resolveCells digits cells).filter fun c => decide (c.role ≠ .digit)) =
      cells.filter fun c => decide (c.role ≠ .digit) := by
  induction cells generalizing digits with
  | nil => rfl
  | cons c cs ih =>
    rw [resolveCells]
    split
    · rename_i digit
      rw [List.filter_cons_of_neg (by simp [digit]), List.filter_cons_of_neg (by simp [digit]), ih]
    · rename_i other
      rw [List.filter_cons_of_pos (by simp [other]), List.filter_cons_of_pos (by simp [other]), ih]

/-- Each DIGIT cell shows its base plus its digit, as long as there are digits. -/
theorem resolveCells_digits {digits : List Nat} {cells : List Cell}
    (enough : (cells.filter fun c => decide (c.role = .digit)).length ≤ digits.length) :
    ((resolveCells digits cells).filter fun c => decide (c.role = .digit)).map Cell.glyph =
      List.zipWith (fun c x => some (c.glyph.getD 0 + x)) (cells.filter fun c => decide (c.role = .digit)) digits := by
  induction cells generalizing digits with
  | nil => rfl
  | cons c cs ih =>
    rw [resolveCells]
    split
    · rename_i digit
      rw [List.filter_cons_of_pos (by simp [digit])] at enough ⊢
      cases digits with
      | nil => cases enough
      | cons x xs =>
        rw [List.filter_cons_of_pos (by simp [digit]), List.map_cons, List.zipWith_cons_cons,
          ← ih (Nat.le_of_succ_le_succ enough)]
        rfl
    · rename_i other
      rw [List.filter_cons_of_neg (by simp [other])] at enough ⊢
      rw [List.filter_cons_of_neg (by simp [other]), ih enough]

theorem secureSet_cells_of_pin {r : Session} (pin : r.mode = .pin) (p : Policy) :
    (secureSet p r).cells = resolveCells r.digitMap p.presentCells := by rw [secureSet, pin]

theorem secureSet_cells_of_calibrate {r : Session} (calibrate : r.mode = .calibrate) (p : Policy) :
    (secureSet p r).cells = p.presentCells.filter fun c => decide (c.role = .label) := by rw [secureSet, calibrate]

/-! ### The checks (R103) -/

/-- A calibration is FULL (R102). -/
theorem sessionOf_calibrate {body : List Byte} {r : Session} (h : sessionOf body = some r)
    (calibrate : r.mode = .calibrate) : r.presentation = .full := by
  unfold sessionOf at h
  dsimp only at h
  split at h
  · cases h
  · cases h; rfl
  · split at h
    · cases h; cases calibrate
    · cases h

theorem layoutChecks_of_fits {p : Policy} {r : Session}
    (fits : r.mode = .pin → p.presentCells ≠ [] ∧ r.digitMap.length = 10 ∧ r.digitMap.Nodup ∧
      (∀ x ∈ r.digitMap, x ≤ 9) ∧ r.least ≤ r.maxLength) : layoutChecks p r = none := by
  unfold layoutChecks
  cases mode : r.mode with
  | calibrate => rfl
  | pin =>
    obtain ⟨cells, ten, distinct, small, order⟩ := fits mode
    have map : isDigitMap r.digitMap = true := Bool.and_eq_true_iff.2
      ⟨decide_eq_true ⟨ten, distinct⟩, List.all_eq_true.2 fun x hx => decide_eq_true (Nat.lt_succ_of_le (small x hx))⟩
    dsimp only
    rw [if_neg cells, map, if_neg (Nat.not_lt.2 order)]
    rfl

theorem runEntryBegin_of_accepted {s : State} {body : List Byte} {r : Session} (policy : s.generation ≠ 0)
    (opened : s.ctl.state = .opened) (told : s.entryEnd = none) (supply : s.sup.level ≠ .belowAbort)
    (asked : sessionOf body = some r) (fits : layoutChecks s.active r = none) :
    runEntryBegin body s = (beginSession r s, .ok, [byte (nextSession s.ctl.session)]) := by
  have passed : openChecks s = none := by
    rw [openChecks, if_neg policy, if_neg (by rw [opened]; decide), if_neg (not_not.2 opened),
      if_neg (not_not.2 told), if_neg supply]
  rw [runEntryBegin, passed, asked]
  dsimp only
  rw [fits]

/-- The answer to an ENTRY-BEGIN that has begun a session, and what the session's beginning leaves alone. -/
theorem exec_entryBegin {tag slot : Byte} {body : List Byte} {r : Session} {s u : State} {out : List Byte}
    (accepts : s.Accepts .pay) (length : body.length = 19)
    (owner : runEntryBegin body (s.arrived .pay) = (beginSession r (s.arrived .pay), .ok, out))
    (same : beginSession r (s.arrived .pay) = u) (quiet : u.reports = []) :
    exec (.entryBegin .pay tag slot body) s = .next (finish (u.answered .pay ⟨0x13, tag, slot, body⟩ .ok out)) ∧
      u.besideSession = (s.arrived .pay).besideSession := by
  have passed : portCheck .pay ⟨0x13, tag, slot, body⟩ = none := by
    have long : lengthFits .entryBegin body.length = true := decide_eq_true length
    rw [portCheck, show requestKindOf 0x13 = some .entryBegin from rfl]
    dsimp only
    rw [long]
    rfl
  have only := beginSession_only r (s.arrived .pay)
  rw [same] at owner only
  exact ⟨exec_passed rfl accepts passed owner quiet, besideSession_of_only only (quiet.trans accepts.1.1.2.symm)⟩

/-! ### ARMING (R104, R96, R51) -/

/-- The controller in ARMING (R104). -/
def armedCtl (r : Session) (c : Controller) : Controller :=
  { c with
    state := .arming, session := nextSession c.session, record := some r, buffer := [], points := []
    candidate := .none, appStroke := none, keyMarks := ⟨false, false, false, false⟩
    total := .running (1000 * r.total) }

/-- What the steps of R104 leave before the glass is looked at. -/
structure Armed (r : Session) (s v : State) : Prop where
  same : ∃ q, v = { s.toldAll s.departure with
    ctl := armedCtl r s.ctl, switch := { s.switch with queues := q }
    sup := { s.sup with silence := .running s.active.supervision.paySilence } }
  queue : ∀ d, v.queue d = (s.queue d).mapLists fun es => es.map fun e =>
    if e.sending = false ∧ onHoldChannel s.active e = true then { e with held := true } else e

/-- Marking entries changes the queues alone. -/
theorem mapEntries_queues (f : Entry → Entry) (s : State) :
    ∃ q, mapEntries f s = { s with switch := { s.switch with queues := q } } := ⟨_, rfl⟩

theorem arming_armed (r : Session) (s : State) : Armed r s (arming r s) := by
  refine ⟨?_, fun d => ?_⟩
  · have left := leaveOpen_eq (s.setCtl (recordedCtl r s.ctl))
    rw [show (s.setCtl (recordedCtl r s.ctl)).departure = s.departure from rfl, toldAll_setCtl, toldAll_eq] at left
    obtain ⟨q, marked⟩ := mapEntries_queues _ _
    refine ⟨q, ?_⟩
    rw [arming]
    dsimp only
    rw [left, markHeld, marked, toldAll_eq]
    rfl
  · refine (leaveOpen_queue (s.setCtl (recordedCtl r s.ctl)) d).trans ?_
    simp only [Bool.and_eq_true, Bool.not_eq_true']
    rfl

theorem Armed.record {r : Session} {s v : State} (h : Armed r s v) : v.ctl.record = some r := by
  obtain ⟨q, same⟩ := h.same
  rw [same]; rfl

theorem Armed.reports {r : Session} {s v : State} (h : Armed r s v) : v.reports = s.reports := by
  obtain ⟨q, same⟩ := h.same
  rw [same, toldAll_eq]

theorem Armed.free {r : Session} {s v : State} (h : Armed r s v) :
    v.glassFree = true ↔ s.frontEnd.scan = .noContact ∨ s.frontEnd.scan = .idle := by
  obtain ⟨q, same⟩ := h.same
  rw [State.glassFree, decide_eq_true_iff, same, toldAll_eq]

/-- The fields that ARMING sets, and those it leaves. -/
theorem Armed.fields {r : Session} {s v : State} (h : Armed r s v) :
    v.ctl = armedCtl r s.ctl ∧ v.gate = s.gate ∧ v.progress = s.progress ∧ v.notices = s.notices ∧
      v.active = s.active := by
  obtain ⟨q, same⟩ := h.same
  rw [same, toldAll_eq]
  exact ⟨rfl, rfl, rfl, rfl, rfl⟩

theorem Armed.marks {r : Session} {s v : State} (h : Armed r s v) (d : Domain) :
    (v.queue d).run = (s.queue d).run ∧ (v.queue d).wanted = (s.queue d).wanted := by
  rw [h.queue]
  exact ⟨rfl, rfl⟩

/-- While the session stays, what its beginning has told APP and held is as ARMING left it. -/
theorem Armed.stays {r : Session} {s v u : State} (h : Armed r s v) (noEnd : s.entryEnd = none)
    (same : ∃ c g p, u = { v with ctl := c, gate := g, progress := p }) :
    u.inputs = s.departure.foldl (joinInput s.inputSending) s.inputs ∧
      u.lost = (s.lost || decide (32 < s.inputs.length + s.departure.length)) ∧ u.entryEnd = none ∧
      u.sup.silence = .running s.active.supervision.paySilence ∧
      ∀ d c, (u.queue d).entries.get c = ((s.queue d).entries.get c).map fun e =>
        if e.sending = false ∧ onHoldChannel s.active e = true then { e with held := true } else e := by
  have some : s.departure ≠ [] := by
    rw [departure_eq]; exact List.append_ne_nil_of_right_ne_nil _ (List.cons_ne_nil _ _)
  obtain ⟨_, _, _, rfl⟩ := same
  obtain ⟨⟨q, shape⟩, queue⟩ := h
  refine ⟨?_, ?_, ?_, ?_, fun d c => ?_⟩
  · rw [shape]; exact toldAll_inputs s _
  · rw [shape]; exact toldAll_lost s some
  · rw [shape, toldAll_eq]; exact noEnd
  · rw [shape]
  · refine (congrArg (fun q : DeliveryQueue => q.entries.get c) (queue d)).trans ?_
    cases c <;> rfl

/-- What APP has been told once FOCUS-RETURNED follows at once (R95). -/
theorem Armed.returned {r : Session} {s v : State} (h : Armed r s v) :
    (v.told focusReturned).inputs = (s.departure ++ [focusReturned]).foldl (joinInput s.inputSending) s.inputs ∧
      (v.told focusReturned).lost = (s.lost || decide (32 < s.inputs.length + s.departure.length + 1)) := by
  have inputs := toldAll_inputs s (s.departure ++ [focusReturned])
  have lost := toldAll_lost s (List.append_ne_nil_of_right_ne_nil s.departure (List.cons_ne_nil focusReturned []))
  rw [toldAll_append] at inputs lost
  rw [List.length_append, ← Nat.add_assoc] at lost
  obtain ⟨q, same⟩ := h.same
  rw [same]
  exact ⟨inputs, lost⟩

/-- Lifting every held mark undoes what leaving OPEN has marked (R51, R52). -/
theorem Armed.unheld {r : Session} {s v : State} (h : Armed r s v) (d : Domain) :
    (v.queue d).unheld = (s.queue d).unheld := by
  have lifts : ∀ es : List Entry, ((es.map fun e =>
      if e.sending = false ∧ onHoldChannel s.active e = true then { e with held := true } else e).map
        fun e => { e with held := false }) = es.map fun e => { e with held := false } := fun es => by
    rw [List.map_map]
    refine List.map_congr_left fun e _ => ?_
    rw [Function.comp_apply]
    split <;> rfl
  rw [h.queue, DeliveryQueue.unheld, DeliveryQueue.unheld]
  simp only [DeliveryQueue.mapLists, lifts]

/-! ### PRESENTING (R105, R106, R132, R135) -/

section Begins

variable {r : Session} {s : State}

theorem beginSession_waits (touched : ¬(s.frontEnd.scan = .noContact ∨ s.frontEnd.scan = .idle)) :
    beginSession r s = arming r s := by
  rw [beginSession_eq, if_neg (mt (arming_armed r s).free.1 touched)]

variable (quiet : s.reports = []) (free : s.frontEnd.scan = .noContact ∨ s.frontEnd.scan = .idle)
include quiet free

theorem beginSession_overlay (overlay : r.presentation = .overlay) (calm : (arming r s).gate.episode = false) :
    beginSession r s = (arming r s).presents r := by
  have armed := arming_armed r s
  have reports := armed.reports.trans quiet
  rw [beginSession_eq, if_pos (armed.free.2 free), endArming_overlay armed.record overlay, calm, reports]
  refine (takeReports_of_none rfl).trans ?_
  exact congrArg (fun l => ({ (arming r s).presents r with reports := l } : State)) reports.symm

theorem beginSession_lost (overlay : r.presentation = .overlay) (episode : (arming r s).gate.episode = true) :
    beginSession r s = (presentingLost r ((arming r s).presents r)).openedAgain := by
  have armed := arming_armed r s
  have reports := armed.reports.trans quiet
  rw [beginSession_eq, if_pos (armed.free.2 free), endArming_overlay armed.record overlay, episode, reports]
  refine (takeReports_videoLoss rfl rfl (by exact armed.record) overlay).trans ?_
  refine (if_pos (of_decide_eq_true (armed.free.2 free))).trans ?_
  rw [← reports]
  rfl

theorem beginSession_full (full : r.presentation = .full) : beginSession r s = fullPresented r (arming r s) := by
  have armed := arming_armed r s
  rw [beginSession_eq, if_pos (armed.free.2 free), takeReports_full (armed.reports.trans quiet) armed.record full]

end Begins

/-- What the secure set of a session shows (R105, R124, R139). -/
theorem secureSet_shows (p : Policy) {r : Session} (ten : r.mode = .pin → r.digitMap.length = 10) :
    (secureSet p r).dots = 0 ∧ (secureSet p r).backdrop = p.geometry.backdrop ∧
      ((secureSet p r).presentation = .full ↔ r.presentation = .full) ∧
      ((secureSet p r).presentation = .overlay ↔ r.presentation = .overlay) ∧
      (r.mode = .pin → p.countRole .digit = 10 →
        ((secureSet p r).cells.map fun c => { c with glyph := none }) =
          (p.presentCells.map fun c => { c with glyph := none }) ∧
        ((secureSet p r).cells.filter fun c => decide (c.role ≠ .digit)) =
          (p.presentCells.filter fun c => decide (c.role ≠ .digit)) ∧
        (((secureSet p r).cells.filter fun c => decide (c.role = .digit)).map Cell.glyph) =
          List.zipWith (fun c x => some (c.glyph.getD 0 + x))
            (p.presentCells.filter fun c => decide (c.role = .digit)) r.digitMap) ∧
      (r.mode = .calibrate → (secureSet p r).cells = p.presentCells.filter fun c => decide (c.role = .label)) := by
  refine ⟨rfl, rfl, ?_, ?_, fun pin digits => ?_, fun calibrate => secureSet_cells_of_calibrate calibrate p⟩
  · rw [secureSet]; cases r.presentation <;> simp [SessionPresentation.overlay?]
  · rw [secureSet]; cases r.presentation <;> simp [SessionPresentation.overlay?]
  · rw [secureSet_cells_of_pin pin]
    have enough : (p.presentCells.filter fun c => decide (c.role = .digit)).length ≤ r.digitMap.length := by
      rw [← List.countP_eq_length_filter, ten pin]
      exact Nat.le_of_eq digits
    exact ⟨resolveCells_glyphless _ _, resolveCells_others _ _, resolveCells_digits enough⟩

end Sys2Proof.Machine

open Sys2Proof Sys2Proof.Machine

/-- Settles O23: the checks pass (`runEntryBegin_of_accepted`), ARMING is as `Armed` says, and with the glass free the
presentation and the loss episode decide what comes after it. -/
theorem entryBeginIsAccepted : Obligations.EntryBeginIsAccepted := by
  intro tag slot body r s accepts length policy opened noEnd supply asked fits n told ctl free
  have quiet : (s.arrived .pay).reports = [] := accepts.1.1.2
  have owner := runEntryBegin_of_accepted (s := s.arrived .pay) policy opened noEnd
    (by rw [arrived_level]; exact supply) asked (layoutChecks_of_fits fits)
  have armed := arming_armed r (s.arrived .pay)
  have reports : (arming r (s.arrived .pay)).reports = [] := armed.reports.trans quiet
  have answer := fun u => exec_entryBegin (u := u) (tag := tag) (slot := slot) accepts length owner
  have shows := secureSet_shows s.active fun pin => (fits pin).2.1
  have waits := beginSession_waits (r := r) (s := s.arrived .pay)
  have overlays := beginSession_overlay (r := r) quiet
  have losses := beginSession_lost (r := r) quiet
  have fulls := beginSession_full (r := r) quiet
  generalize arming r (s.arrived .pay) = v at *
  have stays := fun {u} => armed.stays (u := u) noEnd
  have marks : ∀ d, (v.queue d).run = (s.queue d).run ∧ (v.queue d).wanted = (s.queue d).wanted := armed.marks
  obtain ⟨ctl', gate, progress, notices, active⟩ := armed.fields
  by_cases glass : free
  swap
  · obtain ⟨answered, beside⟩ := answer v (waits glass) reports
    exact ⟨v, answered, beside, by rw [ctl']; rfl, notices, marks, fun _ => stays ⟨_, _, _, rfl⟩,
      fun _ => ⟨ctl', gate, progress⟩, fun f => absurd f glass, fun f => absurd f glass, fun f => absurd f glass,
      fun f => absurd f glass⟩
  cases presentation : r.presentation with
  | full =>
    rw [presentation] at shows
    obtain ⟨answered, beside⟩ := answer (fullPresented r v) (fulls glass presentation) reports
    have asked : (fullPresented r v).gate = s.gate.lockAsked (secureSet s.active r) := by
      rw [fullPresented, gate, active]; rfl
    have waits := fullPresented_of_waits (r := r) (s := v)
    have shown := fullPresented_of_shown (r := r) (s := v)
    rw [gate, ctl', progress] at waits shown
    refine ⟨fullPresented r v, answered, beside, ?number, notices, marks, fun _ => stays ⟨_, _, _, rfl⟩,
      fun touched => absurd glass touched, fun _ overlay => (by cases overlay), fun _ _ => ?set,
      fun _ _ overlay => (by cases overlay), fun _ _ => ?timing⟩
    case number => rw [fullPresented_session, ctl']; rfl
    case set =>
      rw [asked]
      exact ⟨rfl, shows⟩
    case timing =>
      intro idle
      rw [asked]
      refine ⟨rfl, rfl, rfl, rfl, rfl, rfl, fun busy => ?_, fun still plain => ?_⟩
      · obtain ⟨ctl, progress⟩ := waits fun k => busy k.1
        exact ⟨if_neg busy, if_neg busy, if_neg busy, ctl, progress⟩
      · have differs : ¬s.gate.active = secureSet v.active r := fun same => by
          rw [same, secureSet_isSecure] at plain; cases plain
        obtain ⟨ctl, progress⟩ := shown ⟨still, differs⟩
        exact ⟨if_pos still, if_pos still, if_pos still, ctl, progress⟩
  | overlay =>
    rw [presentation] at shows
    cases episode : s.gate.episode with
    | false =>
      obtain ⟨answered, beside⟩ :=
        answer (v.presents r) (overlays glass presentation (by rw [gate]; exact episode)) reports
      refine ⟨v.presents r, answered, beside, by rw [State.presents, ctl']; rfl, notices, marks,
        fun _ => stays ⟨_, _, _, rfl⟩, fun touched => absurd glass touched, fun _ _ _ => ?next, fun _ _ => ?set,
        fun _ ep => (by cases ep), fun _ full => (by cases full)⟩
      case next =>
        have next := presents_overlay presentation v
        rw [ctl', gate, active] at next
        exact ⟨next.1, progress, next.2⟩
      case set =>
        rw [State.presents_pending_set, active]
        exact ⟨rfl, shows⟩
    | true =>
      obtain ⟨answered, beside⟩ := answer _ (losses glass presentation (by rw [gate]; exact episode)) reports
      have pin : r.mode = .pin := by
        cases mode : r.mode with
        | pin => rfl
        | calibrate =>
          have full := sessionOf_calibrate asked mode
          rw [presentation] at full; cases full
      have next := presents_overlay presentation v
      rw [ctl', gate, active] at next
      obtain ⟨inputs, lost⟩ := armed.returned
      refine ⟨_, answered, beside, ?number, notices, fun d => ?marks, ?stays, fun touched => absurd glass touched,
        fun _ _ calm => (by cases calm), fun _ calm => ?set, fun _ _ _ => ?lost, fun _ full => (by cases full)⟩
      case number => rw [State.presents, ctl']; rfl
      case marks => cases d <;> exact marks _
      case stays =>
        rintro (touched | calm | full)
        · exact absurd glass touched
        · cases calm
        · cases full
      case set =>
        rcases calm with calm | full
        · cases calm
        · cases full
      case lost =>
        refine ⟨?_, ?_, rfl, progress, ?_, inputs, lost, fun d => ?_⟩
        · rw [State.presents, ctl']; rfl
        · change some (buildEarlyEnd .videoLost (v.presents r).ctl r) = _
          rw [buildEarlyEnd, next.1, pin]; rfl
        · rw [State.openedAgain, presentingLost, next.2]; rfl
        · cases d <;> exact congrArg DeliveryQueue.entries (armed.unheld _)

end

section
/-! PROOF. O1 and O34: the tick and the step (R67), and how a burst is judged (R69–R72). -/

namespace Sys2Proof.Machine

open Sys2Proof

/-! ### The step -/

theorem step_of_cons {c : Instr} {rest : List Instr} {s : State} (h : s.pending = c :: rest) :
    step s = exec c { s with pending := rest } := by
  rw [step, h]

theorem step_of_nil {s : State} (h : s.pending = []) : step s = .next (panelTick s) := by
  rw [step, h]

/-! ### The rank filter (R69, R70) -/

theorem insertSorted_eq_orderedInsert (v : Nat) (l : List Nat) : insertSorted v l = l.orderedInsert (· ≤ ·) v := by
  induction l with
  | nil => rfl
  | cons w ws ih => rw [insertSorted, List.orderedInsert_cons, ih]

theorem sortCodes_eq_insertionSort (l : List Nat) : sortCodes l = l.insertionSort (· ≤ ·) := by
  induction l with
  | nil => rfl
  | cons v vs ih => rw [sortCodes, ih, insertSorted_eq_orderedInsert, List.insertionSort_cons]

/-- The five codes in ascending order, with the median and the spread that they have. -/
theorem exists_ranked (c : Codes) : ∃ s0 s1 s2 s3 s4 : Nat,
    [s0, s1, s2, s3, s4].Perm [c.c0.toNat, c.c1.toNat, c.c2.toNat, c.c3.toNat, c.c4.toNat] ∧
    s0 ≤ s1 ∧ s1 ≤ s2 ∧ s2 ≤ s3 ∧ s3 ≤ s4 ∧ medianOf c = s2 ∧ spreadOf c = s3 - s1 := by
  have perm : (sortedCodes c).Perm [c.c0.toNat, c.c1.toNat, c.c2.toNat, c.c3.toNat, c.c4.toNat] := by
    rw [sortedCodes, sortCodes_eq_insertionSort]
    exact List.perm_insertionSort _ _
  have sorted : (sortedCodes c).Pairwise (· ≤ ·) := by
    rw [sortedCodes, sortCodes_eq_insertionSort]
    exact List.pairwise_insertionSort _ _
  unfold medianOf spreadOf
  match sortedCodes c, perm.length_eq, perm, sorted with
  | [s0, s1, s2, s3, s4], _, perm, sorted =>
    simp only [List.pairwise_cons, List.mem_cons, forall_eq_or_imp] at sorted
    obtain ⟨⟨h01, -⟩, ⟨h12, -⟩, ⟨h23, -⟩, ⟨h34, -⟩, -⟩ := sorted
    exact ⟨s0, s1, s2, s3, s4, perm, h01, h12, h23, h34, rfl, rfl⟩

/-! ### The decision (R71, R72) -/

theorem spreadPasses_eq_false (b : Burst) (limit : Nat) :
    spreadPasses b limit = false ↔
      limit < spreadOf b.x ∨ limit < spreadOf b.y ∨ limit < spreadOf b.z1 ∨ limit < spreadOf b.z2 := by
  rw [spreadPasses, decide_eq_false_iff_not]
  omega

theorem threshold_eq (t : Touch) {st : ScanState} (h : st ≠ .idle) :
    t.threshold st = if st = .noContact ∨ st = .pending then t.cOn else t.cOff := by
  cases st with
  | idle => exact absurd rfl h
  | noContact => rfl
  | pending => rfl
  | contact => rfl
  | lifting => rfl

/-- Z2 − Z1 is 0 when Z2 is below Z1. -/
theorem contactFigure_eq (x z1 z2 : Nat) :
    contactFigure x z1 z2 =
      if z1 = 0 then 65535 else min 65535 (x * (if z1 ≤ z2 then z2 - z1 else 0) / (16 * z1)) := by
  have below : z2 - z1 = if z1 ≤ z2 then z2 - z1 else 0 := by split <;> omega
  rw [contactFigure, ← below]

end Sys2Proof.Machine

open Sys2Proof Sys2Proof.Machine

/-- Settles O1: the two branches of `step`, and the table of arrangements entry by entry. -/
theorem stepRunsTheFrontCommand : Obligations.StepRunsTheFrontCommand := by
  refine ⟨fun c rest s => step_of_cons, fun s empty idle => ?_, fun s a empty running next => ?_, ⟨rfl, rfl⟩,
    ⟨rfl, rfl⟩, ⟨rfl, rfl⟩, ⟨rfl, rfl⟩⟩
  · rw [step_of_nil empty, panelTick, if_neg idle]
  · have following : s.frontEnd.panel.following = a := by
      simp only [List.mem_cons, Prod.mk.injEq, List.not_mem_nil, or_false] at next
      rcases next with ⟨h, rfl⟩ | ⟨h, rfl⟩ | ⟨h, rfl⟩ | ⟨h, rfl⟩ <;> rw [h] <;> rfl
    rw [step_of_nil empty, panelTick, if_pos running, following]

/-- Settles O34: the ranks by `exists_ranked`; the kind by the spread check, and then by the contact figure against the
scan state's threshold. -/
theorem burstIsJudgedByRankAndContactFigure : Obligations.BurstIsJudgedByRankAndContactFigure := by
  refine ⟨exists_ranked, fun b t st active => ?_⟩
  intro x z1 z2 figure limit wide
  have kind : burstKind b t st = if wide then .rejected
      else if figure ≤ limit then .contact x (medianOf b.y) else .noContact := by
    rw [burstKind, threshold_eq t active, contactFigure_eq]
    simp only [Bool.not_eq_true', spreadPasses_eq_false]
    rfl
  rw [kind]
  by_cases rejected : wide
  · simp [rejected]
  · by_cases low : figure ≤ limit
    · simp [rejected, low]
    · simp [rejected, low, Nat.not_le.1 low]
end

section
/-! PROOF. The whole end of a session, whatever its outcome, from any state in which one is live (R115, R116, R118,
R119, R136, R141): the part it leaves (`sessionEnded`), and that `State.EndsSession` says so. -/

namespace Sys2Proof.Machine

open Sys2Proof

/-! ### The overlay is removed (R136, R139, R141) -/

/-- The gate when the clear set has been written and, in FULL presentation, FOLLOW timing asked for. -/
def Gate.overlayRemoved (p : SessionPresentation) (g : Gate) : Gate :=
  { g with
    pending := OverlaySet.clear
    active := if g.timing = .follow ∧ g.stopped = true then OverlaySet.clear else g.active
    timing := if p = .full then
        (if g.timing = .toLocal then .follow
          else if g.timing = .localTiming then .toFollow else g.timing)
      else g.timing }

theorem removeOverlay_eq (p : SessionPresentation) (s : State) :
    removeOverlay p s =
      { s with gate := s.gate.overlayRemoved p, reports := s.reports ++ (s.gate.write OverlaySet.clear).2 } := by
  unfold removeOverlay
  dsimp only
  split
  · rename_i full
    rw [askFollow, writeSet]
    simp only [gateDo, askFollow_gate, write_clear_gate, List.append_nil, Gate.overlayRemoved, if_pos full]
  · rename_i overlay
    rw [writeSet, gateDo, write_clear_gate, Gate.overlayRemoved, if_neg overlay]

/-- The clear set is reported at the write when it is news on a stopped output (R141). -/
theorem write_clear_reports_eq (g : Gate) :
    (g.write OverlaySet.clear).2 =
      if (g.timing = .follow ∧ g.stopped = true) ∧ g.active ≠ OverlaySet.clear then [.setActive .clear] else [] := by
  unfold Gate.write
  by_cases news : (g.timing = .follow ∧ g.stopped = true) ∧ g.active ≠ OverlaySet.clear
  · rw [if_pos ⟨news.1.1, news.1.2, rfl, fun h => news.2 h.symm⟩, if_pos news]; rfl
  · rw [if_neg (fun h => news ⟨⟨h.1, h.2.1⟩, fun k => h.2.2.2 k.symm⟩), if_neg (fun h => by cases h.2), if_neg news]

/-! ### The part once the session has ended -/

/-- Session `r` is over with outcome `o`, before the controller moves on: the ENTRY-END is placed, the data are erased,
outside ARMING the overlay is removed, and the PAY silence timer is disarmed. -/
def sessionOver (o : SessionOutcome) (r : Session) (s : State) : State :=
  let secure := s.ctl.state = .secure
  { s with
    ctl := s.ctl.erased
    gate := if s.ctl.state = .arming then s.gate else s.gate.overlayRemoved r.presentation
    entryEnd := some ⟨s.ctl.session, o, r.mode,
      if secure then (if r.mode = .pin then s.ctl.buffer.length else s.ctl.points.length) else 0,
      if secure ∧ o = .complete then (if r.mode = .pin then .digits s.ctl.buffer else .points s.ctl.points)
      else .absent⟩
    sup := { s.sup with silence := .stopped } }

/-- From SECURE the controller waits in CLOSING for the clear set, unless a stopped output has taken it as news at the
write (R115, R141). -/
abbrev State.ClosesSlowly (s : State) : Prop :=
  s.ctl.state = .secure ∧ ¬((s.gate.timing = .follow ∧ s.gate.stopped = true) ∧ s.gate.active ≠ OverlaySet.clear)

/-- The part that the end of session `r` leaves. -/
def sessionEnded (o : SessionOutcome) (r : Session) (s : State) : State :=
  if s.ClosesSlowly then (sessionOver o r s).setCtl { (sessionOver o r s).ctl with state := .closing }
  else (sessionOver o r s).released

theorem released_of_free {s : State} (h : s.frontEnd.scan = .noContact ∨ s.frontEnd.scan = .idle) :
    s.released = s.openedAgain := if_pos h

theorem released_of_touched {s : State} (h : ¬(s.frontEnd.scan = .noContact ∨ s.frontEnd.scan = .idle)) :
    s.released = s.setCtl { s.ctl with state := .releasing } := if_neg h

theorem released_ctl (s : State) : s.released.ctl =
    { s.ctl with state := if s.frontEnd.scan = .noContact ∨ s.frontEnd.scan = .idle then .opened else .releasing } := by
  by_cases free : s.frontEnd.scan = .noContact ∨ s.frontEnd.scan = .idle
  · rw [released_of_free free, if_pos free]; rfl
  · rw [released_of_touched free, if_neg free]; rfl

/-- What entering RELEASING leaves alone, but for what APP is told with the glass free. -/
theorem released_kept (s : State) :
    s.released.gate = s.gate ∧ s.released.entryEnd = s.entryEnd ∧
      (s.sup.silence = .stopped → s.released.sup.silence = .stopped) := by
  by_cases free : s.frontEnd.scan = .noContact ∨ s.frontEnd.scan = .idle
  · rw [released_of_free free]; exact ⟨rfl, rfl, fun _ => rfl⟩
  · rw [released_of_touched free]; exact ⟨rfl, rfl, fun h => h⟩

/-- The controller's state before RELEASING is of no consequence. -/
theorem released_setState (s : State) (x : EntryState) :
    (s.setCtl { s.ctl with state := x }).released = s.released := by
  by_cases free : s.frontEnd.scan = .noContact ∨ s.frontEnd.scan = .idle
  · rw [released_of_free free, released_of_free (by exact free)]; rfl
  · rw [released_of_touched free, released_of_touched (by exact free)]; rfl

theorem endSession_of_early {s : State} {r : Session} (early : s.ctl.state = .arming ∨ s.ctl.state = .presenting)
    (record : s.ctl.record = some r) (o : SessionOutcome) : endSession o s = endEarly o r s := by
  rw [endSession, record]
  dsimp only
  rcases early with h | h <;> rw [h]

/-- A session that ends in ARMING or PRESENTING (R119): the controller is released at once. -/
theorem endEarly_eq {s : State} (r : Session) (early : s.ctl.state = .arming ∨ s.ctl.state = .presenting)
    (o : SessionOutcome) : endEarly o r s =
      ({ sessionOver o r s with
        reports := s.reports ++ if s.ctl.state = .arming then [] else (s.gate.write OverlaySet.clear).2 } :
        State).released := by
  have notSecure : ¬s.ctl.state = .secure := by rcases early with h | h <;> rw [h] <;> decide
  have data : (sessionOver o r s).entryEnd = some (buildEarlyEnd o s.ctl r) := by
    simp only [sessionOver, buildEarlyEnd, notSecure, false_and, if_false]
  rw [endEarly, enterReleasing_eq_released, ← data]
  dsimp only
  rcases early with arming | presenting
  · rw [if_neg (show ¬s.ctl.state = .presenting by rw [arming]; decide), if_pos arming, List.append_nil, sessionOver,
      if_pos arming]
    rfl
  · have notArming : ¬s.ctl.state = .arming := by rw [presenting]; decide
    rw [if_pos presenting, if_neg notArming, removeOverlay_eq, sessionOver, if_neg notArming]
    rfl

/-- A session that ends in SECURE (R115): the controller is in CLOSING, with the clear set written. -/
theorem endSecure_eq {s : State} (r : Session) (secure : s.ctl.state = .secure) (o : SessionOutcome) :
    endSecure o r s =
      { (sessionOver o r s).setCtl { (sessionOver o r s).ctl with state := .closing } with
        reports := s.reports ++ (s.gate.write OverlaySet.clear).2 } := by
  have data : buildEnd o s.ctl r = ⟨s.ctl.session, o, r.mode,
      if r.mode = .pin then s.ctl.buffer.length else s.ctl.points.length,
      if o = .complete then (if r.mode = .pin then .digits s.ctl.buffer else .points s.ctl.points) else .absent⟩ := by
    rw [buildEnd]
    cases mode : r.mode <;> rfl
  have notArming : ¬s.ctl.state = .arming := by rw [secure]; decide
  rw [endSecure]
  dsimp only
  rw [removeOverlay_eq, data, sessionOver]
  simp only [secure, true_and, if_true]
  rfl

theorem takeReports_endSession {s : State} {r : Session} (quiet : s.reports = []) (session : s.inSession)
    (record : s.ctl.record = some r) (o : SessionOutcome) : takeReports (endSession o s) = sessionEnded o r s := by
  have same : ({ sessionOver o r s with reports := [] } : State) = sessionOver o r s := by rw [← quiet]; rfl
  have inEarly : ∀ early : s.ctl.state = .arming ∨ s.ctl.state = .presenting,
      takeReports (endSession o s) = sessionEnded o r s := fun early => by
    have notSecure : ¬s.ctl.state = .secure := by rcases early with h | h <;> rw [h] <;> decide
    have quick : ¬s.ClosesSlowly := fun h => notSecure h.1
    rw [endSession_of_early early record, endEarly_eq r early, takeReports_released, sessionEnded, if_neg quick]
    · exact congrArg State.released same
    · rw [quiet]
      dsimp only [List.nil_append]
      split
      · exact .inl rfl
      · exact write_clear_reports s.gate
  rcases session with arming | presenting | secure
  · exact inEarly (.inl arming)
  · exact inEarly (.inr presenting)
  · rw [endSession_of_secure secure record, endSecure_eq r secure, quiet, List.nil_append, write_clear_reports_eq,
      sessionEnded]
    by_cases news : (s.gate.timing = .follow ∧ s.gate.stopped = true) ∧ s.gate.active ≠ OverlaySet.clear
    · have quick : ¬s.ClosesSlowly := fun h => h.2 news
      rw [if_pos news, if_neg quick, takeReports_of_clear rfl, enterReleasing_eq_released]
      refine (if_pos rfl).trans ?_
      refine Eq.trans ?_ (released_setState (sessionOver o r s) .closing)
      exact congrArg (fun u : State => (u.setCtl { u.ctl with state := .closing }).released) same
    · rw [if_neg news, if_pos ⟨secure, news⟩, takeReports_of_none rfl]
      exact congrArg (fun u : State => u.setCtl { u.ctl with state := .closing }) same

/-- The part that the end of a session leaves is the one that the statements speak of. -/
theorem sessionEnded_endsSession (o : SessionOutcome) (r : Session) (s : State) :
    s.EndsSession r o (sessionEnded o r s) := by
  unfold sessionEnded
  by_cases slow : s.ClosesSlowly
  · rw [if_pos slow]
    exact ⟨rfl, by rw [if_pos slow]; rfl, rfl, rfl, fun _ => ⟨rfl, rfl⟩, fun h => absurd slow h⟩
  · rw [if_neg slow]
    obtain ⟨gate, entryEnd, silence⟩ := released_kept (sessionOver o r s)
    refine ⟨entryEnd, ?_, gate, silence rfl, fun h => ?_, fun _ free => ?_⟩
    · rw [if_neg slow, released_ctl]; rfl
    · rw [released_of_touched (by exact h.resolve_left slow)]
      exact ⟨rfl, rfl⟩
    · rw [released_of_free (by exact free)]
      exact ⟨rfl, rfl⟩

/-- The whole end of a session, from any state in which one is live. -/
theorem endSession_endsAlone {s : State} {r : Session} (quiet : s.reports = []) (session : s.inSession)
    (record : s.ctl.record = some r) (o : SessionOutcome) : s.EndsAlone r o (takeReports (endSession o s)) := by
  obtain ⟨ended, still⟩ := endSession_endOnly quiet session o
  refine ⟨?_, ended.progress, ended.notices, ended.queue, besideSession_of_only ended.only (still.trans quiet.symm)⟩
  rw [takeReports_endSession quiet session record]
  exact sessionEnded_endsSession o r s

end Sys2Proof.Machine
end

section
/-! PROOF. What a stroke tells the controller (R92, R93, R107, R108, R124), and what the entry into NO_CONTACT brings
(R77, R105, R118). Each lemma takes the state that the model computes and says which state that is; `Yields w ends`
stands for a command with the effect `w`. -/

namespace Sys2Proof.Machine

open Sys2Proof

/-- The command whose effect is `w` ends there, once it is seen that no report of the gate waits. -/
abbrev Yields (w : State) (ends : State → Prop) : Prop := ∀ u, w = u → u.reports = [] → ends u

/-! ### The entry into NO_CONTACT (R77) -/

theorem noContactReport_of_other {v : State} (arming : v.ctl.state ≠ .arming) (releasing : v.ctl.state ≠ .releasing) :
    noContactReport v = v := by
  unfold noContactReport
  split
  · rename_i h; exact absurd h arming
  · rename_i h; exact absurd h releasing
  all_goals rfl

theorem noContactReport_of_releasing {v : State} (h : v.ctl.state = .releasing) :
    noContactReport v = v.openedAgain := by
  rw [noContactReport, h]
  exact enterOpen_eq_openedAgain v

theorem noContactReport_of_arming {v : State} (h : v.ctl.state = .arming) :
    noContactReport v = takeReports (endArming v) := by
  rw [noContactReport, h]

theorem lockAsked_of_busy {r : Session} (full : r.presentation = .full) {s : State} (busy : ¬s.gate.Idle) :
    s.gate.lockAsked (secureSet s.active r) = (s.presents r).gate := by
  simp only [Gate.lockAsked, if_neg busy, State.presents, full, not_true, if_false, true_and]

theorem lockAsked_of_idle {r : Session} (full : r.presentation = .full) {s : State} (idle : s.gate.Idle) :
    s.gate.lockAsked (secureSet s.active r) = (s.presentsAtOnce r).gate := by
  simp only [Gate.lockAsked, if_pos idle, State.presentsAtOnce, State.presents, full, not_true, if_false, true_and]

theorem fullPresented_of_busy {r : Session} (full : r.presentation = .full) {s : State} (busy : ¬s.gate.Idle) :
    fullPresented r s = s.presents r := by
  have waits : ¬(s.gate.Idle ∧ ¬s.gate.active = secureSet s.active r) := fun h => busy h.1
  rw [fullPresented]
  dsimp only
  rw [if_neg waits, if_neg waits, lockAsked_of_busy full busy]
  rfl

theorem fullPresented_of_idle {r : Session} (full : r.presentation = .full) {s : State} (idle : s.gate.Idle)
    (plain : s.gate.active.isSecure = false) : fullPresented r s = s.presentsAtOnce r := by
  have differs : ¬s.gate.active = secureSet s.active r := fun same => by
    rw [same, secureSet_isSecure] at plain; cases plain
  rw [fullPresented]
  dsimp only
  rw [if_pos ⟨idle, differs⟩, if_pos ⟨idle, differs⟩, lockAsked_of_idle full idle]
  rfl

/-- A loss episode ends an OVERLAY session that has come out of ARMING (R121, R132). -/
theorem takeReports_endArming_lost {v : State} {r : Session} (quiet : v.reports = []) (record : v.ctl.record = some r)
    (overlay : r.presentation = .overlay) (episode : v.gate.episode = true) :
    takeReports (endArming v) = takeReports (endSession .videoLost (v.presents r)) := by
  have early : (v.presents r).ctl.state = .arming ∨ (v.presents r).ctl.state = .presenting := .inr rfl
  have clear : AtMostClear ((v.presents r).reports ++ ((v.presents r).gate.write OverlaySet.clear).2) := by
    rw [show (v.presents r).reports = [] from quiet]
    exact write_clear_reports _
  rw [endSession_of_early (s := v.presents r) early record, endEarly_presentingLost rfl overlay,
    takeReports_released clear, endArming_overlay record overlay, episode, quiet]
  exact takeReports_videoLoss rfl rfl record overlay

/-- The entry into NO_CONTACT: the part that `noContactReport` leaves is the one that `State.GlassFreed` names. -/
theorem noContactReport_glassFreed {v : State} {ends : State → Prop} (quiet : v.reports = [])
    (yields : Yields (noContactReport v) ends) : v.GlassFreed ends := by
  refine ⟨fun arming releasing => yields _ (noContactReport_of_other arming releasing) quiet,
    fun releasing => yields _ (noContactReport_of_releasing releasing) quiet, fun r arming record => ?_⟩
  rw [noContactReport_of_arming arming] at yields
  refine ⟨fun overlay calm => ?_, fun overlay episode => ?_, fun full busy => ?_, fun full idle plain => ?_⟩
  · have armed : endArming v = v.presents r := by
      rw [endArming_overlay record overlay, calm, quiet]
      exact congrArg (fun l => ({ v.presents r with reports := l } : State)) quiet.symm
    exact yields _ (by rw [armed, takeReports_of_none (by exact quiet)]) quiet
  · rw [takeReports_endArming_lost quiet record overlay episode] at yields
    have session : (v.presents r).inSession := .inr (.inl rfl)
    exact ⟨_, yields _ rfl (endSession_endOnly (s := v.presents r) quiet session _).2,
      endSession_endsAlone (s := v.presents r) quiet session record _⟩
  · exact yields _ ((takeReports_full quiet record full).trans (fullPresented_of_busy full busy)) quiet
  · exact yields _ ((takeReports_full quiet record full).trans (fullPresented_of_idle full idle plain)) quiet

/-! ### A DOWN (R92, R107, R108) -/

/-- The point lies in the inner rectangle of the touch cell at index `i` (R107). -/
def Policy.InnerHolds (p : Policy) (x y i : Nat) : Prop :=
  ∃ c, p.cell? i = some c ∧
    (c.role = .digit ∨ c.role = .enter ∨ c.role = .clear ∨ c.role = .back ∨ c.role = .cancel) ∧
    c.x0 + p.touch.guardMargin ≤ x ∧ x + p.touch.guardMargin ≤ c.x1 ∧
    c.y0 + p.touch.guardMargin ≤ y ∧ y + p.touch.guardMargin ≤ c.y1

theorem touches_iff (p : Policy) (x y i : Nat) : p.touches x y i = true ↔ p.InnerHolds x y i := by
  unfold Policy.touches Policy.InnerHolds
  cases p.cell? i with
  | none => simp
  | some c => simp [Cell.innerHolds, isTouch_iff]

theorem Policy.InnerHolds.lt {p : Policy} {x y i : Nat} (h : p.InnerHolds x y i) : i < 20 := by
  obtain ⟨c, here, -⟩ := h
  refine index_lt_of_getElem? (v := p.cells) (a := some c) ?_
  rw [Policy.cell?] at here
  cases cell : p.cells[i]? with
  | none => rw [cell] at here; cases here
  | some o => rw [cell] at here; exact congrArg some here

/-- The candidate is the first touch cell whose inner rectangle holds the point (R107). -/
theorem touchCellAt_eq_some_iff (p : Policy) (x y i : Nat) :
    p.touchCellAt x y = some i ↔ p.InnerHolds x y i ∧ ∀ j, j < i → ¬p.InnerHolds x y j := by
  rw [Policy.touchCellAt, List.find?_range_eq_some]
  simp only [touches_iff, List.mem_range, Bool.not_eq_true', ← Bool.not_eq_true]
  exact ⟨fun ⟨h, _, before⟩ => ⟨h, before⟩, fun ⟨h, before⟩ => ⟨h, Policy.InnerHolds.lt h, before⟩⟩

/-- The candidate that a DOWN at a position takes (R108). -/
def Policy.candidateAt (p : Policy) (q : Position) : Candidate :=
  match p.touchCellAt q.x q.y with
  | some i => .cell i
  | none => .none

theorem candidateAt_ne_void (p : Policy) (q : Position) : p.candidateAt q ≠ .void := by
  unfold Policy.candidateAt
  split <;> exact fun h => by cases h

theorem candidateAt_eq_cell_iff (p : Policy) (q : Position) (i : Nat) :
    p.candidateAt q = .cell i ↔ p.InnerHolds q.x q.y i ∧ ∀ j, j < i → ¬p.InnerHolds q.x q.y j := by
  rw [← touchCellAt_eq_some_iff]
  unfold Policy.candidateAt
  split
  · rename_i h; rw [h, Candidate.cell.injEq, Option.some_inj]
  · rename_i h; simp [h]

/-- What the DOWN of stroke `n` at `q` brings, `v` being the state in which the scan and the mapper have settled: in
OPEN it goes to APP, in SECURE it makes the session stroke and in a PIN session takes its candidate, and elsewhere it is
discarded (R92, R93, R107, R108). -/
def State.DownActs (v : State) (n : Nat) (q : Position) (ends : State → Prop) : Prop :=
  (v.ctl.state = .opened →
    ends (({ v with ctl := { v.ctl with appStroke := some n } } : State).told
      ⟨.down, n, q.x, q.y, none, q.edge, false, false⟩)) ∧
  (∀ r, v.ctl.state = .secure → v.ctl.record = some r → r.mode = .pin →
    ∃ c : Candidate, ends { v with ctl := { v.ctl with sessionStroke := some n, candidate := c } } ∧
      c ≠ .void ∧ ∀ i, c = .cell i ↔
        v.active.InnerHolds q.x q.y i ∧ ∀ j, j < i → ¬v.active.InnerHolds q.x q.y j) ∧
  (∀ r, v.ctl.state = .secure → v.ctl.record = some r → r.mode = .calibrate →
    ends { v with ctl := { v.ctl with sessionStroke := some n } }) ∧
  (v.ctl.state ≠ .opened → v.ctl.state ≠ .secure → ends v)

theorem routeDown_acts {v : State} {n : Nat} {q : Position} {ends : State → Prop} (quiet : v.reports = [])
    (yields : Yields (routeDown n q v) ends) : v.DownActs n q ends := by
  unfold routeDown at yields
  refine ⟨fun opened => ?_, fun r secure record pin => ?_, fun r secure record calibrate => ?_,
    fun notOpened notSecure => ?_⟩
  · rw [opened] at yields
    exact yields _ (by rw [queueInput_eq_told]; rfl) quiet
  · rw [secure, record] at yields
    refine ⟨_, yields _ ?_ quiet, candidateAt_ne_void v.active q, candidateAt_eq_cell_iff v.active q⟩
    simp only [sessionDown, pin]
    rfl
  · rw [secure, record] at yields
    refine yields _ ?_ quiet
    simp only [sessionDown, calibrate]
    rfl
  · refine yields _ ?_ quiet
    split
    · rename_i h; exact absurd h notOpened
    · rename_i h _; exact absurd h notSecure
    · rfl

/-! ### A position update (R92, R93, R108) -/

/-- What a position update of stroke `n` to `q` brings, `moved` saying whether it went as far as the threshold: in OPEN
a MOVE of the APP stroke, in SECURE the end of the candidate that the session stroke has left. -/
def State.UpdateActs (v : State) (n : Nat) (q : Position) (moved : Prop) [Decidable moved] (ends : State → Prop) :
    Prop :=
  (v.ctl.state = .opened → v.ctl.appStroke = some n →
    ends (if moved then v.told ⟨.move, n, q.x, q.y, none, q.edge, false, false⟩ else v)) ∧
  (v.ctl.state = .opened → v.ctl.appStroke ≠ some n → ends v) ∧
  (v.ctl.state = .secure → v.ctl.sessionStroke ≠ some n → ends v) ∧
  (∀ r, v.ctl.state = .secure → v.ctl.record = some r →
    r.mode = .calibrate ∨ v.ctl.candidate = .none ∨ v.ctl.candidate = .void → ends v) ∧
  (∀ r i, v.ctl.state = .secure → v.ctl.record = some r → r.mode = .pin → v.ctl.sessionStroke = some n →
    v.ctl.candidate = .cell i →
    (v.active.InnerHolds q.x q.y i → ends v) ∧
    (¬v.active.InnerHolds q.x q.y i → ends { v with
      ctl := { v.ctl with candidate := .void }
      progress := joinProgress v.progress ⟨v.ctl.session, .void, v.ctl.buffer.length⟩ })) ∧
  (v.ctl.state ≠ .opened → v.ctl.state ≠ .secure → ends v)

theorem sessionUpdate_of_idle {r : Session} {v : State} (q : Position)
    (h : r.mode = .calibrate ∨ v.ctl.candidate = .none ∨ v.ctl.candidate = .void) : sessionUpdate r q v = v := by
  unfold sessionUpdate
  split
  · rename_i pin cell
    rw [pin, cell] at h
    rcases h with h | h | h <;> cases h
  · rfl

theorem sessionUpdate_of_cell {r : Session} {v : State} {i : Nat} (q : Position) (pin : r.mode = .pin)
    (cell : v.ctl.candidate = .cell i) :
    sessionUpdate r q v = if v.active.touches q.x q.y i then v else
      { v with
        ctl := { v.ctl with candidate := .void }
        progress := joinProgress v.progress ⟨v.ctl.session, .void, v.ctl.buffer.length⟩ } := by
  rw [sessionUpdate, pin, cell]
  rfl

theorem routeUpdate_of_discarded {v : State} (n : Nat) (q : Position) (move : Bool)
    (h : (v.ctl.state = .opened ∧ v.ctl.appStroke ≠ some n) ∨ (v.ctl.state = .secure ∧ v.ctl.sessionStroke ≠ some n) ∨
      (v.ctl.state ≠ .opened ∧ v.ctl.state ≠ .secure)) : routeUpdate n q move v = v := by
  unfold routeUpdate
  split
  · rename_i opened
    rw [opened] at h
    rcases h with h | h | h
    · exact if_neg fun k => h.2 k.2
    · cases h.1
    · exact absurd rfl h.1
  · rename_i secure _
    rw [secure] at h
    rcases h with h | h | h
    · cases h.1
    · exact if_neg h.2
    · exact absurd rfl h.2
  · rfl

theorem routeUpdate_acts {v : State} {n : Nat} {q : Position} {moved : Prop} [Decidable moved] {ends : State → Prop}
    (quiet : v.reports = []) (yields : Yields (routeUpdate n q (decide moved) v) ends) :
    v.UpdateActs n q moved ends := by
  have discarded := fun h => yields v (routeUpdate_of_discarded n q (decide moved) h) quiet
  refine ⟨fun opened app => ?_, fun opened other => discarded (.inl ⟨opened, other⟩),
    fun secure other => discarded (.inr (.inl ⟨secure, other⟩)), fun r secure record idle => ?_,
    fun r i secure record pin session cell => ?_,
    fun notOpened notSecure => discarded (.inr (.inr ⟨notOpened, notSecure⟩))⟩
  · unfold routeUpdate at yields
    rw [opened] at yields
    refine yields _ ?_ (by split <;> exact quiet)
    by_cases far : moved
    · simp only [far, app, decide_true, true_and, if_true, queueInput_eq_told]; rfl
    · simp only [far, decide_false, Bool.false_eq_true, false_and, if_false]
  · by_cases session : v.ctl.sessionStroke = some n
    · unfold routeUpdate at yields
      rw [secure, record] at yields
      exact yields _ ((if_pos session).trans (sessionUpdate_of_idle q idle)) quiet
    · exact discarded (.inr (.inl ⟨secure, session⟩))
  · unfold routeUpdate at yields
    rw [secure, record] at yields
    dsimp only at yields
    rw [if_pos session, sessionUpdate_of_cell q pin cell] at yields
    exact ⟨fun inside => yields _ (if_pos ((touches_iff _ _ _ _).2 inside)) quiet,
      fun outside => yields _ (if_neg (mt (touches_iff _ _ _ _).1 outside)) quiet⟩

/-! ### An UP (R92, R93, R108, R124) -/

/-- The part once its stroke has ended, before the UP acts: the mapper is at rest and the stroke's marks are gone (R88,
R93). -/
def strokeEnded (v : State) : State :=
  { v with
    mapper := { v.mapper with strokeOpen := false, tracking := false }
    ctl := { v.ctl with
      appStroke := if v.ctl.appStroke = some v.mapper.stroke then none else v.ctl.appStroke
      sessionStroke := if v.ctl.sessionStroke = some v.mapper.stroke then none else v.ctl.sessionStroke } }

theorem mapperUp_of_app {v : State} (unstable : Bool) (opened : v.ctl.state = .opened)
    (app : v.ctl.appStroke = some v.mapper.stroke) :
    mapperUp unstable v = (strokeEnded v).told
      ⟨.up, v.mapper.stroke, v.heldPosition.x, v.heldPosition.y, none, v.heldPosition.edge, false, unstable⟩ := by
  rw [mapperUp, routeUp, opened]
  dsimp only
  rw [if_pos app, queueInput_eq_told]
  rfl

theorem mapperUp_of_session {v : State} {r : Session} (unstable : Bool) (secure : v.ctl.state = .secure)
    (record : v.ctl.record = some r) (session : v.ctl.sessionStroke = some v.mapper.stroke) :
    mapperUp unstable v = takeReports (sessionUp r v.mapper.sx v.mapper.sy (strokeEnded v)) := by
  rw [mapperUp, routeUp, secure, record]
  dsimp only
  rw [if_pos session]
  rfl

/-- An UP without its mark, and one outside OPEN and SECURE, is discarded. -/
theorem mapperUp_of_discarded {v : State} (unstable : Bool)
    (h : (v.ctl.state = .opened ∧ v.ctl.appStroke ≠ some v.mapper.stroke) ∨
      (v.ctl.state = .secure ∧ v.ctl.sessionStroke ≠ some v.mapper.stroke) ∨
      (v.ctl.state ≠ .opened ∧ v.ctl.state ≠ .secure)) : mapperUp unstable v = strokeEnded v := by
  unfold mapperUp routeUp
  split
  · rename_i opened
    rw [show v.ctl.state = .opened from opened] at h
    rcases h with h | h | h
    · exact if_neg h.2
    · cases h.1
    · exact absurd rfl h.1
  · rename_i secure _
    rw [show v.ctl.state = .secure from secure] at h
    rcases h with h | h | h
    · cases h.1
    · exact if_neg h.2
    · exact absurd rfl h.2
  · rfl

/-! ### The press of a candidate on a running output (R108, R111) -/

/-- What a press in SECURE on a running output can come to: the controller stays in SECURE or goes to CLOSING, and the
gate has nothing to report. -/
structure Pressed (v u : State) : Prop where
  quiet : u.reports = v.reports
  state : u.ctl.state = .secure ∨ u.ctl.state = .closing

section Press

variable {v : State} {r : Session} (secure : v.ctl.state = .secure)
include secure

theorem Pressed.nothing : Pressed v v := ⟨rfl, .inl secure⟩

theorem Pressed.progress (e : ProgressEvent) (n : Nat) : Pressed v (pushProgress e n v) := ⟨rfl, .inl secure⟩

/-- The end of the session on a running output reports nothing at once (R115, R141). -/
theorem Pressed.ends (record : v.ctl.record = some r) (running : v.gate.stopped = false) (o : SessionOutcome) :
    Pressed v (endSession o v) := by
  rw [endSession_of_secure secure record, endSecure_eq r secure, write_clear_of_running running]
  exact ⟨List.append_nil _, .inr rfl⟩

theorem pressEnter_pressed (record : v.ctl.record = some r) (running : v.gate.stopped = false) :
    Pressed v (pressEnter r v) := by
  unfold pressEnter
  dsimp only
  split
  · have ended := Pressed.ends (v := acceptedKey r v) secure record running .complete
    exact ⟨ended.quiet, ended.state⟩
  · exact .progress secure _ _

end Press

/-- A set that does not stand in OVERLAY during a loss episode is written to a running output without a report
(R132, R141). -/
theorem write_of_running {g : Gate} {o : OverlaySet} (running : g.stopped = false)
    (calm : g.episode = false ∨ o.presentation ≠ .overlay) : g.write o = ({ g with pending := o }, []) := by
  unfold Gate.write
  dsimp only
  rw [running, if_neg fun h => Bool.false_ne_true h.2.1, if_neg]
  rintro ⟨episode, overlay⟩
  rcases calm with calm | other
  · rw [calm] at episode; cases episode
  · exact other overlay

/-- An accepted key on a running output: no report, the session, the controller's state and the output run on. -/
theorem accepted_of_running {v : State} (r : Session) (ds : List Nat) (running : v.gate.stopped = false)
    (calm : v.gate.episode = false ∨ v.gate.pending.presentation ≠ .overlay) :
    let u := pushProgress .accepted ds.length (setBuffer ds (acceptedKey r v))
    u.reports = v.reports ∧ u.ctl.state = v.ctl.state ∧ u.ctl.record = v.ctl.record ∧ u.gate.stopped = false := by
  have written : (acceptedKey r v).gate.write { v.gate.pending with dots := ds.length } =
      ({ v.gate with pending := { v.gate.pending with dots := ds.length } }, []) := write_of_running running calm
  have ctl := (accepted_fields r ds v).1
  dsimp only at ctl ⊢
  rw [ctl]
  refine ⟨?_, rfl, rfl, ?_⟩
  all_goals
    unfold setBuffer
    dsimp only
    split
  · rfl
  · exact (congrArg (fun w : Gate × List GateReport => v.reports ++ w.2) written).trans (List.append_nil _)
  · exact running
  · exact (congrArg (fun w : Gate × List GateReport => w.1.stopped) written).trans running

section Keys

variable {v : State} {r : Session} (secure : v.ctl.state = .secure) (running : v.gate.stopped = false)
  (calm : v.gate.episode = false ∨ v.gate.pending.presentation ≠ .overlay)
include secure running calm

theorem pressed_accepted (k : Session) (ds : List Nat) :
    Pressed v (pushProgress .accepted ds.length (setBuffer ds (acceptedKey k v))) := by
  obtain ⟨quiet, state, -, -⟩ := accepted_of_running k ds running calm
  exact ⟨quiet, .inl (state.trans secure)⟩

theorem pressBack_pressed : Pressed v (pressBack r v) := by
  by_cases empty : v.ctl.buffer.length = 0
  · rw [pressBack, if_pos empty]
    exact .progress secure _ _
  · rw [pressBack_of_digits empty]
    exact pressed_accepted secure running calm r _

variable (record : v.ctl.record = some r)
include record

theorem pressDigit_pressed (digit : Nat) : Pressed v (pressDigit r digit v) := by
  by_cases room : v.ctl.buffer.length < r.maxLength
  · have accepted := pressed_accepted secure running calm r (v.ctl.buffer ++ [digit])
    obtain ⟨quiet, state, kept, still⟩ := accepted_of_running r (v.ctl.buffer ++ [digit]) running calm
    rw [pressDigit_of_room room]
    dsimp only
    split
    · have ended := Pressed.ends (state.trans secure) (kept.trans record) still .complete
      exact ⟨ended.quiet.trans quiet, ended.state⟩
    · exact accepted
  · rw [pressDigit, if_neg room]
    exact .progress secure _ _

/-- The press of a candidate (R111), role by role. -/
theorem pressCell_pressed (i : Nat) : Pressed v (pressCell r i v) := by
  unfold pressCell
  split
  · exact .nothing secure
  · split
    · exact pressDigit_pressed secure running calm record _
    · exact pressBack_pressed secure running calm
    · exact pressed_accepted secure running calm r []
    · exact pressEnter_pressed secure record running
    · exact .ends secure record running _
    all_goals exact .nothing secure

end Keys

/-! ### The points of a CALIBRATE session (R124) -/

theorem addPoint_eq (r : Session) (sx sy : Nat) (v : State) :
    addPoint r sx sy v =
      let points := v.ctl.points ++ [(sx, sy)]
      let u : State := { v with ctl := { v.ctl with
        points := points, firstKey := .stopped, interKey := .running (1000 * r.interKey) } }
      if points.length = r.least then endSession .complete u else u := rfl

/-- The part once its stroke has ended with a point for a CALIBRATE session (R124). -/
def pointAdded (v : State) : State :=
  { strokeEnded v with ctl := { (strokeEnded v).ctl with
    points := v.ctl.points ++ [(v.mapper.sx, v.mapper.sy)] } }

/-- What an UP brings (R92, R93, R108, R124): the part that the mapper and the entry into NO_CONTACT leave is the one
that `State.UpActs` names. -/
theorem mapperUp_upActs {v : State} {unstable : Bool} {ends : State → Prop} (quiet : v.reports = [])
    (yields : Yields (noContactReport (mapperUp unstable v)) ends) : v.UpActs (strokeEnded v) unstable ends := by
  -- outside ARMING and RELEASING the entry into NO_CONTACT adds nothing
  have settles : ∀ {u : State}, u.ctl.state = .opened ∨ u.ctl.state = .secure ∨ u.ctl.state = .closing →
      mapperUp unstable v = u → u.reports = [] → ends u := fun {u} state same still => by
    refine yields _ ?_ still
    rw [same]
    refine noContactReport_of_other (fun h => ?_) fun h => ?_ <;>
      rcases state with k | k | k <;> rw [h] at k <;> cases k
  have discarded := fun h => mapperUp_of_discarded (v := v) unstable h
  refine ⟨fun opened app => settles (.inl opened) (mapperUp_of_app unstable opened app) quiet,
    fun opened other => settles (.inl opened) (discarded (.inl ⟨opened, other⟩)) quiet,
    fun secure other => settles (.inr (.inl secure)) (discarded (.inr (.inl ⟨secure, other⟩))) quiet,
    fun r secure record session running calm => ?_, fun notOpened notSecure => ?_⟩
  · have up := mapperUp_of_session unstable secure record session
    refine ⟨fun i pin cell => ?_, fun pin idle => ?_, fun calibrate => ⟨fun more => ?_, fun last => ?_⟩⟩
    · have pressed := pressCell_pressed (v := strokeEnded v) secure running calm record i
      have still : (pressCell r i (strokeEnded v)).reports = [] := pressed.quiet.trans quiet
      refine settles (.inr pressed.state) (up.trans ?_) still
      simp only [sessionUp, pin, show (strokeEnded v).ctl.candidate = .cell i from cell]
      exact takeReports_of_none still
    · refine settles (.inr (.inl secure)) (up.trans ?_) quiet
      have noPress : sessionUp r v.mapper.sx v.mapper.sy (strokeEnded v) =
          { strokeEnded v with ctl := { (strokeEnded v).ctl with candidate := .none } } := by
        rw [sessionUp, pin]
        rcases idle with none | void
        · rw [show (strokeEnded v).ctl.candidate = .none from none]; rfl
        · rw [show (strokeEnded v).ctl.candidate = .void from void]; rfl
      rw [noPress]
      exact takeReports_of_none quiet
    · refine settles (.inr (.inl secure)) (up.trans ?_) quiet
      rw [sessionUp, calibrate]
      dsimp only
      rw [addPoint_eq]
      dsimp only
      rw [if_neg (by exact more)]
      exact takeReports_of_none quiet
    · have pressed := Pressed.ends (v := pointAdded v) secure record running .complete
      rw [endSession_of_secure (s := pointAdded v) secure record] at pressed
      have still := pressed.quiet.trans quiet
      refine ⟨_, settles (.inr pressed.state) (up.trans ?_) still,
        endSecure_endsAlone (s := pointAdded v) secure running .complete⟩
      rw [sessionUp, calibrate]
      dsimp only
      rw [addPoint_eq]
      dsimp only
      rw [if_pos (by exact last), endSession_of_secure (r := r) (by exact secure) (by exact record)]
      exact takeReports_of_none still
  · rw [discarded (.inr (.inr ⟨notOpened, notSecure⟩))] at yields
    exact noContactReport_glassFreed quiet yields

end Sys2Proof.Machine
end

section
/-! PROOF. O33 and O35: a scan from pen detection or the end of a burst through the scan state machine to the stroke
(R65–R68, R73–R77, R82–R89). -/

namespace Sys2Proof.Machine

open Sys2Proof

/-! ### The rows of the scan tables (R73–R75) -/

section Rows

variable {f : FrontEnd} (t : Touch)

theorem apply_noContact_of_noContact (h : f.scan = .noContact) :
    f.apply t .noContact = ({ f with reject := 0 }, []) := by
  simp only [FrontEnd.apply, FrontEnd.noContactScan, h]

theorem apply_noContact_of_pending (h : f.scan = .pending) :
    f.apply t .noContact = ({ f with reject := 0, scan := .noContact, down := 0 }, [.drop]) := by
  simp only [FrontEnd.apply, FrontEnd.noContactScan, h]

theorem apply_noContact_begins_lift (h : f.scan = .contact) (more : 2 ≤ t.upDebounce) :
    f.apply t .noContact = ({ f with reject := 0, scan := .lifting, lift := 1 }, []) := by
  simp only [FrontEnd.apply, FrontEnd.noContactScan, h, if_neg (show ¬t.upDebounce ≤ 1 by omega)]

theorem apply_noContact_counts_lift (h : f.scan = .lifting) (more : f.lift + 1 < t.upDebounce) :
    f.apply t .noContact = ({ f with reject := 0, lift := f.lift + 1 }, []) := by
  simp only [FrontEnd.apply, FrontEnd.noContactScan, h, if_pos more]

theorem apply_noContact_completes_lift
    (h : f.scan = .contact ∧ t.upDebounce ≤ 1 ∨ f.scan = .lifting ∧ t.upDebounce ≤ f.lift + 1) :
    f.apply t .noContact =
      ({ f with reject := 0, scan := .noContact, lift := if f.scan = .lifting then 0 else f.lift }, [.up false]) := by
  rcases h with ⟨contact, last⟩ | ⟨lifting, last⟩
  · simp only [FrontEnd.apply, FrontEnd.noContactScan, contact, if_pos last, reduceCtorEq, if_false]
  · simp only [FrontEnd.apply, FrontEnd.noContactScan, lifting, if_neg (Nat.not_lt.2 last), if_true]

theorem apply_rejected_counts (few : f.reject < 15) :
    f.apply t .rejected = ({ f with reject := f.reject + 1 }, []) := by
  simp only [FrontEnd.apply, FrontEnd.rejectedScan, if_pos (show f.reject + 1 < 16 by omega)]

/-- The sixteenth rejected scan settles the stroke (R75). -/
theorem apply_sixteenth (last : f.reject = 15) :
    (f.scan = .noContact → f.apply t .rejected = ({ f with reject := 0 }, [])) ∧
    (f.scan = .pending → f.apply t .rejected = ({ f with reject := 0, scan := .noContact, down := 0 }, [.drop])) ∧
    (f.scan = .contact ∨ f.scan = .lifting → f.apply t .rejected =
      ({ f with reject := 0, scan := .noContact, lift := if f.scan = .lifting then 0 else f.lift }, [.up true])) := by
  simp only [FrontEnd.apply, FrontEnd.rejectedScan, last, Nat.lt_irrefl, if_false]
  refine ⟨fun h => ?_, fun h => ?_, fun h => ?_⟩
  · rw [h]
  · rw [h]
  · rcases h with h | h <;> simp only [h, reduceCtorEq, if_true, if_false]

theorem apply_contact_of_noContact (x y : Nat) (h : f.scan = .noContact) :
    f.apply t (.contact x y) =
      if t.downDebounce ≤ 1 then
        ({ f with reject := 0, scan := .contact, down := 0, lift := 0 }, [.start x y, .down x y])
      else ({ f with reject := 0, scan := .pending, down := 1, lift := 0 }, [.start x y]) := by
  simp only [FrontEnd.apply, FrontEnd.contactScan, h]

theorem apply_contact_of_pending (x y : Nat) (h : f.scan = .pending) :
    f.apply t (.contact x y) =
      if f.down + 1 < t.downDebounce then ({ f with reject := 0, down := f.down + 1 }, [.track x y])
      else ({ f with reject := 0, scan := .contact, down := 0 }, [.down x y]) := by
  simp only [FrontEnd.apply, FrontEnd.contactScan, h]

theorem apply_contact_of_touched (x y : Nat) (h : f.scan = .contact ∨ f.scan = .lifting) :
    f.apply t (.contact x y) =
      ({ f with reject := 0, scan := .contact, lift := if f.scan = .lifting then 0 else f.lift }, [.track x y]) := by
  rcases h with h | h <;>
    simp only [FrontEnd.apply, FrontEnd.contactScan, h, reduceCtorEq, if_true, if_false]

/-- The scan state machine does not look at the progress of the scan. -/
theorem apply_withProgress (p : ScanProgress) (k : ScanKind) :
    ({ f with progress := p } : FrontEnd).apply t k = ({ (f.apply t k).1 with progress := p }, (f.apply t k).2) := by
  cases k with
  | contact x y => unfold FrontEnd.apply FrontEnd.contactScan; dsimp only; split <;> (try split) <;> rfl
  | noContact => unfold FrontEnd.apply FrontEnd.noContactScan; dsimp only; split <;> (try split) <;> rfl
  | rejected => unfold FrontEnd.apply FrontEnd.rejectedScan; dsimp only; split <;> (try split) <;> rfl

end Rows

/-! ### The end of a scan (R77, R89) -/

theorem endScan_withProgress (t : Touch) (k : ScanKind) (p : ScanProgress) (s : State) :
    endScan t k { s with frontEnd := { s.frontEnd with progress := p } } = endScan t k s := by
  unfold endScan
  dsimp only
  rw [apply_withProgress]

/-- What an UP brings turns on the controller, the mapper, the tables and the gate before it. -/
theorem State.UpActs.of_same {s v up : State} {unstable : Bool} {ends : State → Prop}
    (h : v.UpActs up unstable ends) (ctl : v.ctl = s.ctl) (mapper : v.mapper = s.mapper) (active : v.active = s.active)
    (gate : v.gate = s.gate) : s.UpActs up unstable ends := by
  simpa only [State.UpActs, ctl, mapper, active, gate] using h

section Ends

variable {v : State} {t : Touch} {k : ScanKind} {f : FrontEnd} {l : List TouchReport} {ends : State → Prop}

theorem endScan_of_apply (row : v.frontEnd.apply t k = (f, l)) (idle : f.progress = .none) :
    endScan t k v =
      if v.frontEnd.scan ≠ .noContact ∧ f.scan = .noContact then
        noContactReport (l.foldl takeTouch { v with frontEnd := f })
      else l.foldl takeTouch { v with frontEnd := f } := by
  have same : { f with progress := .none } = f := by rw [← idle]
  rw [endScan, row]
  dsimp only
  rw [same]

variable (yields : Yields (endScan t k v) ends) (row : v.frontEnd.apply t k = (f, l)) (idle : f.progress = .none)
include yields row idle

/-- A scan that does not enter NO_CONTACT ends with the mapper's reports. -/
theorem scan_stays (stays : v.frontEnd.scan = .noContact ∨ f.scan ≠ .noContact) :
    Yields (l.foldl takeTouch { v with frontEnd := f }) ends := by
  have still : ¬(v.frontEnd.scan ≠ .noContact ∧ f.scan = .noContact) := by
    rintro ⟨before, after⟩
    rcases stays with h | h
    · exact before h
    · exact h after
  rwa [endScan_of_apply row idle, if_neg still] at yields

/-- A scan that enters NO_CONTACT ends with the no-contact report after the mapper's. -/
theorem scan_enters (before : v.frontEnd.scan ≠ .noContact) (after : f.scan = .noContact) :
    Yields (noContactReport (l.foldl takeTouch { v with frontEnd := f })) ends := by
  rwa [endScan_of_apply row idle, if_pos ⟨before, after⟩] at yields

end Ends

section NoContact

variable {v : State} {t : Touch} {k : ScanKind} {f : FrontEnd} {ends : State → Prop} (quiet : v.reports = [])
  (yields : Yields (endScan t k v) ends) (idle : f.progress = .none)
include quiet yields idle

/-- A scan with no report changes the front end alone. -/
theorem silentScan_ends (row : v.frontEnd.apply t k = (f, []))
    (stays : v.frontEnd.scan = .noContact ∨ f.scan ≠ .noContact) : ends { v with frontEnd := f } :=
  scan_stays yields row idle stays _ rfl quiet

/-- A DROP (R73): the mapper stops tracking and the glass is free. -/
theorem drop_glassFreed (row : v.frontEnd.apply t k = (f, [.drop])) (before : v.frontEnd.scan ≠ .noContact)
    (after : f.scan = .noContact) :
    ({ v with frontEnd := f, mapper := { v.mapper with tracking := false } } : State).GlassFreed ends :=
  noContactReport_glassFreed (by exact quiet) (scan_enters yields row idle before after)

/-- An UP (R74, R75), told of a state `s` with the same controller, mapper, tables and gate. -/
theorem up_upActs {s : State} {unstable : Bool} (row : v.frontEnd.apply t k = (f, [.up unstable]))
    (before : v.frontEnd.scan ≠ .noContact) (after : f.scan = .noContact) (ctl : v.ctl = s.ctl)
    (mapper : v.mapper = s.mapper) (active : v.active = s.active) (gate : v.gate = s.gate) :
    s.UpActs (strokeEnded { v with frontEnd := f }) unstable ends := by
  have acts := mapperUp_upActs (v := { v with frontEnd := f }) quiet (scan_enters yields row idle before after)
  exact acts.of_same ctl mapper active gate

end NoContact

/-! ### The mapper's reports (R82, R83, R86, R87) -/

/-- Smoothing leaves a position at its median where it is (R83). -/
theorem smooth_of_reached (a n : Nat) : smooth a (n * 16) n = n * 16 := by
  rw [smooth]
  push_cast
  rw [sub_self, Int.zero_tdiv, add_zero]
  exact Int.toNat_natCast (n * 16)

theorem smoothed_start (m : Mapper) (a x y : Nat) : (m.start x y).smoothed a x y = m.start x y := by
  rw [Mapper.smoothed, Mapper.start, smooth_of_reached, smooth_of_reached]

/-- The mapper once a stroke has begun at `q` (R86). -/
def Mapper.begun (m : Mapper) (q : Position) : Mapper :=
  { m with stroke := (m.stroke + 1) % 256, strokeOpen := true, lastX := q.x, lastY := q.y }

theorem mapperDown_of_tracking (x y : Nat) {v : State} (h : v.mapper.tracking = true) :
    mapperDown x y v =
      let m := v.mapper.smoothed v.active.touch.shift x y
      let q := v.active.mapPosition m.sx m.sy
      routeDown ((m.stroke + 1) % 256) q { v with mapper := m.begun q } := if_pos h

theorem mapperTrack_of_closed (x y : Nat) {v : State} (h : v.mapper.tracking = true)
    (closed : v.mapper.strokeOpen = false) :
    mapperTrack x y v = { v with mapper := v.mapper.smoothed v.active.touch.shift x y } := by
  refine (if_pos h).trans (if_neg ?_)
  rw [show (v.mapper.smoothed v.active.touch.shift x y).strokeOpen = false from closed]
  exact Bool.false_ne_true

/-- A position went as far as the threshold (R87). -/
abbrev Mapper.WentFar (m : Mapper) (threshold : Nat) (q : Position) : Prop :=
  (threshold ≤ q.x - m.lastX ∨ threshold ≤ m.lastX - q.x) ∨ threshold ≤ q.y - m.lastY ∨ threshold ≤ m.lastY - q.y

theorem moved_eq (m : Mapper) (threshold : Nat) (q : Position) :
    m.moved threshold q = decide (m.WentFar threshold q) := by
  have far : ∀ v w : Nat, threshold ≤ distance v w ↔ threshold ≤ v - w ∨ threshold ≤ w - v := fun v w => by
    rw [distance]; omega
  simp only [Mapper.moved, Mapper.WentFar, far]

theorem mapperTrack_of_open (x y : Nat) {v : State} (h : v.mapper.tracking = true)
    (opened : v.mapper.strokeOpen = true) :
    mapperTrack x y v =
      let m := v.mapper.smoothed v.active.touch.shift x y
      let q := v.active.mapPosition m.sx m.sy
      let far := m.WentFar v.active.touch.moveThreshold q
      routeUpdate m.stroke q (decide far)
        { v with mapper := if far then { m with lastX := q.x, lastY := q.y } else m } := by
  refine (if_pos h).trans ((if_pos opened).trans ?_)
  dsimp only
  rw [moved_eq]
  simp only [decide_eq_true_eq]

/-! ### A scan begins (R65, R66) -/

theorem scanExpiry_of_busy (plate : Word16) {s : State} (running : s.frontEnd.timer.isRunning = true)
    (busy : s.frontEnd.progress ≠ .none) :
    scanExpiry plate s = { s with frontEnd := { s.frontEnd with timer := .running s.active.touch.scanPeriod } } :=
  (if_pos running).trans (if_neg busy)

/-- The front end as a scan begins: the timer runs again, and the burst settings are the active touch record
(R65, R67, log entry 23). -/
def State.scanBegun (s : State) : FrontEnd :=
  { s.frontEnd with timer := .running s.active.touch.scanPeriod, settings := s.active.touch }

section Begins

variable {plate : Word16} {s : State} (running : s.frontEnd.timer.isRunning = true)
  (idle : s.frontEnd.progress = .none)
include running idle

theorem scanExpiry_of_pen (pen : plate.toNat < s.active.touch.penThreshold * 256) :
    scanExpiry plate s = requestBurst { s with frontEnd := { s.scanBegun with progress := .penDetect } } :=
  (if_pos running).trans ((if_pos idle).trans (if_pos (decide_eq_true pen)))

theorem scanExpiry_of_noPen (noPen : ¬plate.toNat < s.active.touch.penThreshold * 256) :
    scanExpiry plate s = endScan s.active.touch .noContact { s with frontEnd := s.scanBegun } := by
  refine ((if_pos running).trans ((if_pos idle).trans (if_neg ?_))).trans
    (endScan_withProgress _ _ .penDetect { s with frontEnd := s.scanBegun })
  exact fun pen => noPen (of_decide_eq_true pen)

end Begins

/-! ### A burst ends (R67, R68) -/

/-- With no burst waiting the ADC goes to a supply request that waits and is free otherwise (R68). -/
theorem grantNext_of_noBurst_eq {s : State} (h : s.frontEnd.progress ≠ .burstWaiting) :
    grantNext s = { s with adc := if s.adc.supplyWaiting then ⟨.supply, false⟩ else ⟨.free, false⟩ } := by
  obtain ⟨_, _, _, _, _, _, _, _, _, _, _, _, ⟨use, waiting⟩⟩ := s
  rw [grantNext, decide_eq_false h]
  cases waiting <;> rfl

/-- The part once a burst has ended, before its codes are judged. -/
def burstOver (s : State) : State :=
  { s with
    frontEnd := { s.frontEnd with progress := .none, panel := .detect }
    adc := if s.adc.supplyWaiting then ⟨.supply, false⟩ else ⟨.free, false⟩ }

theorem burstDone_of_running (codes : Burst) {s : State} (use : s.adc.use = .burst)
    (running : s.frontEnd.progress = .burstRunning) :
    burstDone codes s =
      endScan s.frontEnd.settings (burstKind codes s.frontEnd.settings s.frontEnd.scan) (burstOver s) := by
  rw [burstDone, if_pos ⟨use, running⟩]
  dsimp only
  rw [grantNext_of_noBurst_eq fun h => by cases h]
  rfl

end Sys2Proof.Machine

open Sys2Proof Sys2Proof.Machine

/-- Settles O33: a scan with no pen ends as its row of the tables says, by `drop_glassFreed` and `up_upActs` where it
enters NO_CONTACT. -/
theorem scanBeginsWithPenDetection : Obligations.ScanBeginsWithPenDetection := by
  intro plate s live running f g pen
  have answer : Yields (scanExpiry plate s) fun u => exec (.scanTimerExpiry plate) s = .next (finish u) :=
    fun u same quiet => act_eq live same (quiet.trans live.2.symm)
  have noPen := fun idle h => scanExpiry_of_noPen (plate := plate) running idle h
  refine ⟨fun busy => answer _ (scanExpiry_of_busy plate running busy) live.2, fun idle dry scan => ?_,
    fun idle wet free => answer _ ((scanExpiry_of_pen running idle wet).trans (if_pos free)) live.2,
    fun idle wet taken => answer _ ((scanExpiry_of_pen running idle wet).trans (if_neg taken)) live.2,
    fun idle dry => ?_⟩
  · rw [noPen idle dry] at answer
    exact silentScan_ends (v := { s with frontEnd := g }) live.2 answer idle (apply_noContact_of_noContact _ scan)
      (.inl scan)
  · rw [noPen idle dry] at answer
    refine ⟨fun contact more => ?_, fun lifting more => ?_, fun pending => ?_, fun last => ?_⟩
    · exact silentScan_ends (v := { s with frontEnd := g }) live.2 answer idle
        (apply_noContact_begins_lift _ contact more) (.inr fun h => by cases h)
    · exact silentScan_ends (v := { s with frontEnd := g }) live.2 answer idle
        (apply_noContact_counts_lift _ lifting more) (.inr fun h => by cases lifting.symm.trans h)
    · exact drop_glassFreed (v := { s with frontEnd := g }) live.2 answer idle (apply_noContact_of_pending _ pending)
        (fun h => by cases pending.symm.trans h) rfl
    · have before : s.frontEnd.scan ≠ .noContact := fun h => by
        rcases last with ⟨k, -⟩ | ⟨k, -⟩ <;> cases k.symm.trans h
      have row := apply_noContact_completes_lift (f := g) s.active.touch last
      exact up_upActs (v := { s with frontEnd := g }) live.2 answer (by exact idle) row before rfl rfl rfl rfl rfl

end

section
/-! PROOF. O35: the end of a burst, scan by scan and state by state. -/

namespace Sys2Proof.Machine

open Sys2Proof

/-! ### The rows that a no-contact scan and the sixteenth rejected scan share -/

theorem apply_drops {f : FrontEnd} {k : ScanKind} (t : Touch) (pending : f.scan = .pending)
    (h : k = .noContact ∨ k = .rejected ∧ f.reject = 15) :
    f.apply t k = ({ f with reject := 0, scan := .noContact, down := 0 }, [.drop]) := by
  rcases h with rfl | ⟨rfl, last⟩
  · exact apply_noContact_of_pending t pending
  · exact (apply_sixteenth t last).2.1 pending

theorem apply_ends_stroke {f : FrontEnd} {k : ScanKind} (t : Touch)
    (h : f.scan = .contact ∧ (k = .noContact ∧ t.upDebounce ≤ 1 ∨ k = .rejected ∧ f.reject = 15) ∨
      f.scan = .lifting ∧ (k = .noContact ∧ t.upDebounce ≤ f.lift + 1 ∨ k = .rejected ∧ f.reject = 15)) :
    f.apply t k = ({ f with reject := 0, scan := .noContact, lift := if f.scan = .lifting then 0 else f.lift },
      [.up (decide (k = .rejected))]) := by
  rcases h with ⟨contact, ⟨rfl, last⟩ | ⟨rfl, last⟩⟩ | ⟨lifting, ⟨rfl, last⟩ | ⟨rfl, last⟩⟩
  · exact apply_noContact_completes_lift t (.inl ⟨contact, last⟩)
  · exact (apply_sixteenth t last).2.2 (.inl contact)
  · exact apply_noContact_completes_lift t (.inr ⟨lifting, last⟩)
  · exact (apply_sixteenth t last).2.2 (.inr lifting)

/-! ### The reports of a contact scan -/

section Contact

variable {v : State} {t : Touch} {k : ScanKind} {f : FrontEnd} {ends : State → Prop} {x y : Nat}
  (quiet : v.reports = []) (yields : Yields (endScan t k v) ends)
include quiet yields

theorem start_ends (row : v.frontEnd.apply t k = (f, [.start x y])) (idle : f.progress = .none)
    (stays : v.frontEnd.scan = .noContact ∨ f.scan ≠ .noContact) :
    ends { v with frontEnd := f, mapper := v.mapper.start x y } :=
  scan_stays yields row idle stays _ rfl quiet

/-- A stroke that begins with its first contact scan (R82, R86). -/
theorem startDown_downActs (row : v.frontEnd.apply t k = (f, [.start x y, .down x y])) (idle : f.progress = .none)
    (stays : v.frontEnd.scan = .noContact ∨ f.scan ≠ .noContact) :
    let q := v.active.mapPosition (x * 16) (y * 16)
    ({ v with frontEnd := f, mapper := (v.mapper.start x y).begun q } : State).DownActs
      ((v.mapper.stroke + 1) % 256) q ends := by
  have down := mapperDown_of_tracking x y (v := { v with frontEnd := f, mapper := v.mapper.start x y }) rfl
  dsimp only at down
  rw [smoothed_start] at down
  have yields := scan_stays yields row idle stays
  rw [List.foldl_cons, List.foldl_cons, List.foldl_nil] at yields
  exact routeDown_acts quiet (fun u h => yields u (down.trans h))

/-- A stroke that begins at the end of its debounce (R83, R86). -/
theorem down_downActs (row : v.frontEnd.apply t k = (f, [.down x y])) (idle : f.progress = .none)
    (stays : v.frontEnd.scan = .noContact ∨ f.scan ≠ .noContact) (tracking : v.mapper.tracking = true) :
    let m := v.mapper.smoothed v.active.touch.shift x y
    let q := v.active.mapPosition m.sx m.sy
    ({ v with frontEnd := f, mapper := m.begun q } : State).DownActs ((v.mapper.stroke + 1) % 256) q ends := by
  have down := mapperDown_of_tracking x y (v := { v with frontEnd := f }) tracking
  have yields := scan_stays yields row idle stays
  exact routeDown_acts quiet (fun u h => yields u (down.trans h))

theorem track_ends (row : v.frontEnd.apply t k = (f, [.track x y])) (idle : f.progress = .none)
    (stays : v.frontEnd.scan = .noContact ∨ f.scan ≠ .noContact) (tracking : v.mapper.tracking = true)
    (closed : v.mapper.strokeOpen = false) :
    ends { v with frontEnd := f, mapper := v.mapper.smoothed v.active.touch.shift x y } :=
  scan_stays yields row idle stays _ (mapperTrack_of_closed x y (v := { v with frontEnd := f }) tracking closed) quiet

/-- A position update of an open stroke (R83, R87). -/
theorem track_updateActs (row : v.frontEnd.apply t k = (f, [.track x y])) (idle : f.progress = .none)
    (stays : v.frontEnd.scan = .noContact ∨ f.scan ≠ .noContact) (tracking : v.mapper.tracking = true)
    (opened : v.mapper.strokeOpen = true) :
    let m := v.mapper.smoothed v.active.touch.shift x y
    let q := v.active.mapPosition m.sx m.sy
    let far := m.WentFar v.active.touch.moveThreshold q
    ({ v with frontEnd := f, mapper := if far then { m with lastX := q.x, lastY := q.y } else m } :
      State).UpdateActs m.stroke q far ends := by
  have update := mapperTrack_of_open x y (v := { v with frontEnd := f }) tracking opened
  have yields := scan_stays yields row idle stays
  exact routeUpdate_acts quiet (fun u h => yields u (update.trans h))

end Contact

end Sys2Proof.Machine

open Sys2Proof Sys2Proof.Machine

/-- Settles O35: the burst's scan (`burstDone_of_running`) by its row of the tables, and each report of the row by what
it brings: `State.DownActs`, `State.UpdateActs`, `State.UpActs` and `State.GlassFreed`. -/
theorem burstEndDrivesTheStroke : Obligations.BurstEndDrivesTheStroke := by
  intro codes s live use running t scan kind f base ends inner sixteenth event
  have yields : Yields (endScan t kind (burstOver s)) ends := fun u same quiet =>
    act_eq live ((burstDone_of_running codes use running).trans same) (quiet.trans live.2.symm)
  have quiet : (burstOver s).reports = [] := live.2
  let e := (burstOver s).frontEnd
  have left : ∀ {x : ScanState}, scan = x → x ≠ .noContact → scan ≠ .noContact := fun h k => h ▸ k
  refine ⟨fun rejected few => ?counts, fun last free => ?rests, fun x y contact => ?contact, fun dry free => ?_,
    fun dry contact more => ?_, fun dry lifting more => ?_, fun pending dry => ?dropped, fun up => ?lifted⟩
  case counts =>
    rw [rejected] at yields
    exact silentScan_ends (v := burstOver s) quiet yields rfl (apply_rejected_counts (f := e) t few) (Decidable.em _)
  case rests =>
    rw [last.1] at yields
    exact silentScan_ends (v := burstOver s) quiet yields rfl ((apply_sixteenth (f := e) t last.2).1 free) (.inl free)
  case contact =>
    rw [contact] at yields
    intro a m q n started begun touched
    refine ⟨fun free more => ?_, fun free one => ?_, fun pending more tracking closed => ?_,
      fun pending last tracking => ?_, fun held tracking opened => ?_⟩
    · have row := (apply_contact_of_noContact (f := e) t x y free).trans (if_neg (by omega))
      exact start_ends (v := burstOver s) quiet yields row rfl (.inl free)
    · have row := (apply_contact_of_noContact (f := e) t x y free).trans (if_pos one)
      exact startDown_downActs (v := burstOver s) quiet yields row rfl (.inl free)
    · have row := (apply_contact_of_pending (f := e) t x y pending).trans (if_pos more)
      exact track_ends (v := burstOver s) quiet yields row rfl (.inr (left pending (by decide))) tracking closed
    · have row := (apply_contact_of_pending (f := e) t x y pending).trans (if_neg (Nat.not_lt.2 last))
      exact down_downActs (v := burstOver s) quiet yields row rfl (.inr fun h => by cases h) tracking
    · have row := apply_contact_of_touched (f := e) t x y held
      exact track_updateActs (v := burstOver s) quiet yields row rfl (.inr fun h => by cases h) tracking opened
  · rw [dry] at yields
    exact silentScan_ends (v := burstOver s) quiet yields rfl (apply_noContact_of_noContact (f := e) t free) (.inl free)
  · rw [dry] at yields
    exact silentScan_ends (v := burstOver s) quiet yields rfl (apply_noContact_begins_lift (f := e) t contact more)
      (.inr fun h => by cases h)
  · rw [dry] at yields
    exact silentScan_ends (v := burstOver s) quiet yields rfl (apply_noContact_counts_lift (f := e) t lifting more)
      (.inr (left lifting (by decide)))
  case dropped =>
    exact drop_glassFreed (v := burstOver s) quiet yields rfl (apply_drops (f := e) t pending dry)
      (left pending (by decide)) rfl
  case lifted =>
    have before : scan ≠ .noContact := by
      rcases up with ⟨h, -⟩ | ⟨h, -⟩
      · exact left h (by decide)
      · exact left h (by decide)
    exact up_upActs (v := burstOver s) quiet yields rfl (apply_ends_stroke (f := e) t up) before rfl rfl rfl rfl rfl
end

section
/-! PROOF. O37: a supply conversion, from the measurement to the flags and the session that it ends (R68, R115, R119,
R122, R151–R154). -/

namespace Sys2Proof.Machine

open Sys2Proof

/-! ### The level (R153) -/

section Level

variable {old : SupplyLevel} {warn abort m : Nat}

theorem next_eq_belowAbort_iff :
    old.next warn abort m = .belowAbort ↔ m < abort ∨ old = .belowAbort ∧ m < abort + 50 := by
  cases old with
  | normal => simp only [SupplyLevel.next]; split_ifs <;> simp <;> omega
  | belowWarn => simp only [SupplyLevel.next]; split_ifs <;> simp <;> omega
  | belowAbort => simp only [SupplyLevel.next]; split_ifs <;> simp <;> omega

theorem next_eq_normal_iff (fits : abort + 100 ≤ warn) :
    old.next warn abort m = .normal ↔ warn + 50 ≤ m ∨ old = .normal ∧ warn ≤ m := by
  cases old with
  | normal => simp only [SupplyLevel.next]; split_ifs <;> simp <;> omega
  | belowWarn => simp only [SupplyLevel.next]; split_ifs <;> simp <;> omega
  | belowAbort => simp only [SupplyLevel.next]; split_ifs <;> simp <;> omega

end Level

/-! ### The flags and the supply report (R154) -/

/-- SUPPLY_WARN has been set for PAY and APP where `warns` holds, and SUPPLY_LOW for PAY where `low` does. -/
def supplyFlagged (warns low : Prop) [Decidable warns] [Decidable low] (s : State) : State :=
  let s1 := if warns then warnSupply s else s
  if low then setFlag .pay .supplyLow s1 else s1

theorem warnSupply_box (s : State) (src : Domain) :
    (warnSupply s).box src =
      if src ≠ .rad then (s.box src).setFlag (s.active.notices.get src) .supplyWarn else s.box src := by
  cases src <;> rfl

section Flagged

variable (warns low : Prop) [Decidable warns] [Decidable low] (s : State)

theorem supplyFlagged_notices : ∃ n, supplyFlagged warns low s = { s with notices := n } := by
  unfold supplyFlagged
  dsimp only
  split <;> split <;> exact ⟨_, rfl⟩

theorem supplyFlagged_box (src : Domain) :
    (supplyFlagged warns low s).box src =
      let b := if src ≠ .rad ∧ warns then (s.box src).setFlag (s.active.notices.get src) .supplyWarn else s.box src
      if src = .pay ∧ low then b.setFlag (s.active.notices.get src) .supplyLow else b := by
  have warned : (if warns then warnSupply s else s).box src =
      if src ≠ .rad ∧ warns then (s.box src).setFlag (s.active.notices.get src) .supplyWarn else s.box src := by
    by_cases h : warns
    · simp only [h, if_true, and_true, warnSupply_box]
    · simp only [h, if_false, and_false]
  have mode : (if warns then warnSupply s else s).noticeMode .pay = s.active.notices.get .pay := by
    split <;> rfl
  dsimp only
  rw [← warned]
  unfold supplyFlagged
  by_cases h : low
  · simp only [h, if_true, and_true, setFlag_box, mode]
    split
    · rename_i pay; rw [pay]
    · rfl
  · simp only [h, if_false, and_false]

theorem supplyFlagged_flags :
    ((supplyFlagged warns low s).box .pay).flags =
      (s.box .pay).flags ||| ((if warns then 0x0080 else 0) ||| if low then 0x0100 else 0) ∧
    ((supplyFlagged warns low s).box .app).flags = (s.box .app).flags ||| (if warns then 0x0080 else 0) := by
  have warn : Flag.supplyWarn.mask = 0x0080 := rfl
  have bit : Flag.supplyLow.mask = 0x0100 := rfl
  rw [supplyFlagged_box, supplyFlagged_box]
  constructor
  · by_cases warns <;> by_cases low <;> simp [*, setFlag_flags, BitVec.or_assoc]
  · by_cases warns <;> simp [*, setFlag_flags]

end Flagged

/-- The move of the level sets the flags of R154, and on entering BELOW_ABORT the supply report follows. -/
theorem supplyMove_next {old : SupplyLevel} {warn abort m : Nat} (fits : abort + 100 ≤ warn) (s : State) :
    supplyMove old (old.next warn abort m) s =
      let flagged := supplyFlagged (old = .normal ∧ m < warn) (old ≠ .belowAbort ∧ m < abort) s
      if old ≠ .belowAbort ∧ m < abort then takeReports (endSession .supplyLow flagged) else flagged := by
  unfold supplyFlagged
  cases old with
  | normal =>
    by_cases low : m < abort
    · have warns : m < warn := by omega
      simp [SupplyLevel.next, supplyMove, lowSupply, low, warns]
    · by_cases warns : m < warn <;> simp [SupplyLevel.next, supplyMove, low, warns]
  | belowWarn =>
    by_cases low : m < abort
    · simp [SupplyLevel.next, supplyMove, lowSupply, low]
    · simp only [SupplyLevel.next, low, if_false]
      split <;> simp [supplyMove]
  | belowAbort =>
    simp only [SupplyLevel.next]
    split_ifs <;> simp_all [supplyMove]

/-! ### The session that it ends (R122) -/

/-- The end of a session turns on the controller, the gate, the glass, and what APP has been told before it. -/
theorem State.EndsSession.of_same {s v u : State} {r : Session} {o : SessionOutcome} (h : v.EndsSession r o u)
    (ctl : v.ctl = s.ctl) (gate : v.gate = s.gate) (scan : v.frontEnd.scan = s.frontEnd.scan)
    (inputs : v.inputs = s.inputs) (lost : v.lost = s.lost) (ports : v.ports = s.ports) : s.EndsSession r o u := by
  simpa only [State.EndsSession, State.told, State.inputSending, State.port, ctl, gate, scan, inputs, lost, ports]
    using h

/-- The supply report, which comes where `low` holds, may end the session and changes nothing beside it. -/
theorem supplyReport_frame {s : State} (quiet : s.reports = []) (low : Prop) [Decidable low] :
    let u := if low then takeReports (endSession .supplyLow s) else s
    SessionOnly s u ∧ u.progress = s.progress ∧ u.notices = s.notices ∧ u.reports = [] ∧
      (¬low ∨ ¬s.inSession → u = s) := by
  by_cases ends : low ∧ s.inSession
  · obtain ⟨ended, still⟩ := endSession_endOnly quiet ends.2 .supplyLow
    dsimp only
    rw [if_pos ends.1]
    exact ⟨ended.only, ended.progress, ended.notices, still,
      fun h => absurd ends fun k => h.elim (· k.1) (· k.2)⟩
  · have none : (if low then takeReports (endSession .supplyLow s) else s) = s := by
      split
      · rename_i entered
        rw [endSession_of_noSession fun session => ends ⟨entered, session⟩, takeReports_of_none quiet]
      · rfl
    dsimp only
    rw [none]
    exact ⟨.refl s, rfl, rfl, quiet, fun _ => rfl⟩

/-! ### The conversion's end (R68) -/

/-- What the ADC goes to at the end of an activity (R68); where a burst and a supply request both wait, the free value
decides (log entry 4). -/
theorem grantNext_grants (s : State) :
    (s.adc.supplyWaiting = false → s.frontEnd.progress ≠ .burstWaiting →
      (grantNext s).adc = ⟨.free, false⟩ ∧ (grantNext s).frontEnd = s.frontEnd) ∧
    (s.adc.supplyWaiting = false → s.frontEnd.progress = .burstWaiting → (grantNext s).adc = ⟨.burst, false⟩ ∧
      (grantNext s).frontEnd = { s.frontEnd with progress := .burstRunning, panel := .x }) ∧
    (s.adc.supplyWaiting = true → s.frontEnd.progress ≠ .burstWaiting →
      (grantNext s).adc = ⟨.supply, false⟩ ∧ (grantNext s).frontEnd = s.frontEnd) ∧
    (s.adc.supplyWaiting = true → s.frontEnd.progress = .burstWaiting →
      (grantNext s).adc = (if Config.arbiterGrantsBurst s.arbiterCount then ⟨.burst, true⟩ else ⟨.supply, false⟩) ∧
      (grantNext s).frontEnd = if Config.arbiterGrantsBurst s.arbiterCount
        then { s.frontEnd with progress := .burstRunning, panel := .x } else s.frontEnd) := by
  refine ⟨fun alone none => ?_, fun alone burst => ?_, fun supply none => ?_, fun supply burst => ?_⟩
  · rw [grantNext_of_noBurst_eq none, alone]; exact ⟨rfl, rfl⟩
  · rw [grantNext, decide_eq_true burst, alone]
    exact ⟨congrArg (Adc.mk .burst) alone, rfl⟩
  · rw [grantNext_of_noBurst_eq none, supply]; exact ⟨rfl, rfl⟩
  · rw [grantNext, decide_eq_true burst, supply]
    dsimp only
    split
    · exact ⟨congrArg (Adc.mk .burst) supply, rfl⟩
    · exact ⟨rfl, rfl⟩

/-- The part once the ADC has been granted and the measurement of `m` mV taken, before the flags. -/
def measured (m : Nat) (s : State) : State :=
  { s with
    frontEnd := (grantNext s).frontEnd, adc := (grantNext s).adc, arbiterCount := (grantNext s).arbiterCount
    sup := { s.sup with
      measurement := m
      level := s.sup.level.next s.active.supervision.warn s.active.supervision.abort m } }

theorem supplyDone_of_supply (code : AdcCode) {s : State} (use : s.adc.use = .supply) :
    supplyDone code s =
      supplyMove s.sup.level
        (s.sup.level.next s.active.supervision.warn s.active.supervision.abort (millivolts code))
        (measured (millivolts code) s) := by
  obtain ⟨p, a, g, n, granted⟩ := grantNext_arbiter s
  rw [supplyDone, if_pos use, measured, granted]
  rfl

theorem grantNext_scan (s : State) : (grantNext s).frontEnd.scan = s.frontEnd.scan := by
  obtain ⟨p, a, g, n, granted⟩ := grantNext_arbiter s
  rw [granted]

/-- What a measurement leaves alone: in `u` the ADC has been granted, the flags have been set to `n`, and a session may
have ended. -/
theorem besideSession_of_measured {m : Nat} {s u : State} {n : PerDomain NoticeBox}
    (only : SessionOnly { measured m s with notices := n } u) (quiet : u.reports = s.reports) :
    ({ u with sup := s.sup, adc := s.adc, frontEnd := s.frontEnd, arbiterCount := s.arbiterCount } :
      State).besideSession = s.besideSession := by
  refine besideSession_of_only ?_ quiet
  exact
    { pending := only.pending, inReset := only.inReset, ports := only.ports, staging := only.staging
      active := only.active, generation := only.generation, frontEnd := rfl, adc := rfl, mapper := only.mapper
      keys := only.keys, arbiterCount := rfl, bars := only.bars, levels := only.levels
      refillTimer := only.refillTimer, requestTimer := rfl, measurement := rfl, level := rfl, tamper := rfl }

end Sys2Proof.Machine

open Sys2Proof Sys2Proof.Machine

/-- Settles O37: the part that the measurement and the flags leave (`measured`, `supplyFlagged`), and the supply report's
effect on it when the level enters BELOW_ABORT. -/
theorem supplyIsMeasured : Obligations.SupplyIsMeasured := by
  intro code s live use fits m warn abort old low
  have flags := supplyFlagged_flags (old = .normal ∧ m < warn) low (measured m s)
  have boxes := supplyFlagged_box (old = .normal ∧ m < warn) low (measured m s)
  obtain ⟨n, noted⟩ := supplyFlagged_notices (old = .normal ∧ m < warn) low (measured m s)
  generalize hz : supplyFlagged (old = .normal ∧ m < warn) low (measured m s) = z at flags boxes noted
  have effect : supplyDone code s = if low then takeReports (endSession .supplyLow z) else z := by
    rw [← hz]
    exact (supplyDone_of_supply code use).trans (supplyMove_next fits (measured m s))
  have zquiet : z.reports = [] := by rw [noted]; exact live.2
  obtain ⟨only, progress, notices, quiet, calm⟩ := supplyReport_frame zquiet low
  generalize reached : (if low then takeReports (endSession .supplyLow z) else z) = u at *
  subst noted
  have box : ∀ d, u.box d = n.get d := fun d => congrArg (PerDomain.get · d) notices
  obtain ⟨idle, burst, supply, both⟩ := grantNext_grants s
  refine ⟨u, act_eq live effect (quiet.trans live.2.symm), only.measurement, millivolts_le code, only.tamper, ?_, ?_,
    ?_, ?_, fun src => ?_, only.requestTimer, ?_, ?_, ?_, ?_, fun entered session r record => ?ends, fun none => ?calm,
    progress, besideSession_of_measured only (quiet.trans live.2.symm)⟩
  · rw [only.level]; exact next_eq_belowAbort_iff
  · rw [only.level]; exact next_eq_normal_iff fits
  · rw [box]; exact flags.1
  · rw [box]; exact flags.2
  · rw [box]; exact boxes src
  · rw [only.adc, only.frontEnd]; exact idle
  · rw [only.adc, only.frontEnd]; exact burst
  · rw [only.adc, only.frontEnd]; exact supply
  · rw [only.adc, only.frontEnd]; exact both
  case ends =>
    obtain ⟨whole, -, -, queue, -⟩ := endSession_endsAlone zquiet session record .supplyLow
    rw [(if_pos entered).symm.trans reached] at whole queue
    exact ⟨whole.of_same rfl rfl (grantNext_scan s) rfl rfl rfl, queue⟩
  case calm =>
    rw [calm none]
    exact ⟨rfl, rfl, rfl, rfl, rfl, rfl, rfl⟩
end

section
/-! PROOF. O36: smoothing (R83), rounding to the pixel (R84), and the clamp with its EDGE flag (R85). -/

namespace Sys2Proof.Machine

open Sys2Proof

/-! ### Smoothing (R83) -/

theorem le_tdiv_of_nonpos {d : Int} (h : d ≤ 0) (b : Int) : d ≤ d.tdiv b := by
  have opposite := Int.tdiv_le_self b (Int.neg_nonneg_of_nonpos h)
  rw [Int.neg_tdiv] at opposite
  omega

/-- The quotient rounded toward zero lies between 0 and the difference, so the sum stays a natural number. -/
theorem smooth_eq (a s16 median : Nat) :
    (smooth a s16 median : Int) = s16 + Int.tdiv ((median : Int) * 16 - s16) (2 ^ a) := by
  refine Int.toNat_of_nonneg ?_
  rcases Int.le_total 0 ((median : Int) * 16 - s16) with up | down
  · have step : 0 ≤ Int.tdiv ((median : Int) * 16 - s16) (2 ^ a) := Int.tdiv_nonneg up (by positivity)
    omega
  · have step := le_tdiv_of_nonpos down (2 ^ a)
    omega

theorem smooth_between_of_le {s16 median : Nat} (h : s16 ≤ median * 16) (a : Nat) :
    s16 ≤ smooth a s16 median ∧ smooth a s16 median ≤ median * 16 := by
  have up : (0 : Int) ≤ median * 16 - s16 := by omega
  have value := smooth_eq a s16 median
  have low : 0 ≤ Int.tdiv ((median : Int) * 16 - s16) (2 ^ a) := Int.tdiv_nonneg up (by positivity)
  have high := Int.tdiv_le_self (2 ^ a) up
  omega

theorem smooth_between_of_ge {s16 median : Nat} (h : median * 16 ≤ s16) (a : Nat) :
    median * 16 ≤ smooth a s16 median ∧ smooth a s16 median ≤ s16 := by
  have down : (median : Int) * 16 - s16 ≤ 0 := by omega
  have value := smooth_eq a s16 median
  have low := le_tdiv_of_nonpos down (2 ^ a)
  have high := tdiv_nonpos down (show (0 : Int) ≤ 2 ^ a by positivity)
  omega

/-! ### Mapping (R84, R85) -/

/-- The rounded coordinate is the pixel whose interval holds the numerator plus half a pixel (R84). -/
theorem roundPixel_holds (num : Int) :
    roundPixel num * 2 ^ 20 ≤ num + 2 ^ 19 ∧ num + 2 ^ 19 < (roundPixel num + 1) * 2 ^ 20 := by
  rw [roundPixel, Int.fdiv_eq_ediv_of_nonneg _ (by decide)]
  omega

theorem clampPixel_eq {size : Nat} (h : 1 ≤ size) (v : Int) :
    (clampPixel size v : Int) = max 0 (min ((size : Int) - 1) v) := by
  rw [clampPixel]
  omega

theorem offEdge_eq_false_iff {size : Nat} (h : 1 ≤ size) (v : Int) :
    offEdge size v = false ↔ 0 ≤ v ∧ v < size := by
  rw [offEdge, decide_eq_false_iff_not, not_not, clampPixel_eq h]
  omega

end Sys2Proof.Machine

open Sys2Proof Sys2Proof.Machine

/-- Settles O36: a truncated quotient lies between 0 and what it divides (`smooth_eq`), and the mapped coordinates
before the clamp are the rounded ones (`roundPixel_holds`). -/
theorem positionsAreSmoothedAndMapped : Obligations.PositionsAreSmoothedAndMapped := by
  refine ⟨fun a s16 median => ⟨smooth_eq a s16 median, fun up => smooth_between_of_le up a,
    fun down => smooth_between_of_ge down a⟩, fun p sx sy wide high => ?_⟩
  refine ⟨p.mapping.mapX sx sy, p.mapping.mapY sx sy, roundPixel_holds _, roundPixel_holds _,
    clampPixel_eq wide _, clampPixel_eq high _, ?_⟩
  rw [Policy.mapPosition, Bool.or_eq_false_iff, offEdge_eq_false_iff wide, offEdge_eq_false_iff high]
end

section
/-! PROOF. O38 and O39: the levels of the side keys' inputs and of the tamper pins with their timers (R90, R147), and
where a debounced key goes (R92, R94, R109, R125). -/

namespace Sys2Proof.Machine

open Sys2Proof

/-! ### Pins (R90, R147) -/

/-- A side key's input differs from the debounced level unless it is low exactly while the key counts as pressed
(R90). -/
theorem SideKey.input_eq (k : SideKey) (level : Level) (debounce : Nat) :
    k.input level debounce = { k with
      pin := level
      timer := if (level = .low ↔ k.pressed = true) then .stopped
        else if k.timer.isRunning then k.timer else .running debounce } := by
  unfold SideKey.input
  cases level <;> cases k.pressed <;> rfl

theorem Tamper.input_eq (t : Tamper) (level : Level) :
    t.input level = { t with
      pin := level
      timer := if level = t.filtered then .stopped
        else if t.timer.isRunning then t.timer else .running 1 } := by
  unfold Tamper.input
  rw [ite_not]
  rfl

/-! ### The events of a debounced key (R90, R97, R99) -/

/-- Side key `k` has its debounced level, and its debounce timer is stopped (R90). -/
def State.debounced (s : State) (k : Key) (pressed : Bool) : State :=
  s.setKey k { s.key k with pressed := pressed, timer := .stopped }

/-- The APP mark of side key `k` takes the value `v` (R92, R94). -/
def State.keyMarked (s : State) (k : Key) (v : Bool) : State :=
  { s with ctl := { s.ctl with keyMarks := s.ctl.keyMarks.set k v } }

section Debounce

variable {s : State} {k : Key} (running : (s.key k).timer.isRunning = true)
include running

theorem debounceExpiry_of_low (low : (s.key k).pin = .low) :
    debounceExpiry k s = routePress k (s.debounced k true) := by
  rw [debounceExpiry, if_pos running, low]
  rfl

theorem debounceExpiry_of_high (high : (s.key k).pin = .high) :
    debounceExpiry k s = routeRelease k (s.debounced k false) := by
  rw [debounceExpiry, if_pos running, high]
  rfl

end Debounce

theorem told_of_room {s : State} (room : s.inputs.length < 32) (e : InputEvent) :
    s.told e = { s with inputs := s.inputs ++ [e] } := by
  have joins : joinInput s.inputSending s.inputs e = s.inputs ++ [e] := if_pos room
  rw [State.told, joins, decide_eq_false (Nat.not_le.2 room), Bool.or_false]

theorem told_of_full {s : State} (full : 32 ≤ s.inputs.length) (e : InputEvent) :
    s.told e = { s with inputs := joinInput s.inputSending s.inputs e, lost := true } := by
  rw [State.told, decide_eq_true full, Bool.or_true]

/-! ### The routing of a PRESS and of a RELEASE (R92, R94) -/

theorem routePress_of_opened {s : State} (opened : s.ctl.state = .opened) (k : Key) :
    routePress k s = (s.told (keyInput .press k)).keyMarked k true := by
  rw [← queueInput_eq_told, routePress, opened]
  rfl

theorem routePress_of_secure {s : State} {r : Session} (secure : s.ctl.state = .secure)
    (record : s.ctl.record = some r) (k : Key) : routePress k s = sessionPress r k s := by
  rw [routePress, secure, record]

theorem routePress_of_other {s : State} (opened : s.ctl.state ≠ .opened) (secure : s.ctl.state ≠ .secure) (k : Key) :
    routePress k s = s := by
  unfold routePress
  split
  · contradiction
  · contradiction
  · rfl

theorem routeRelease_of_marked {s : State} {k : Key} (opened : s.ctl.state = .opened)
    (marked : s.ctl.keyMarks.get k = true) :
    routeRelease k s = (s.told (keyInput .release k)).keyMarked k false := by
  rw [← queueInput_eq_told]
  exact if_pos ⟨opened, marked⟩

theorem routeRelease_of_unmarked {s : State} {k : Key}
    (h : s.ctl.state ≠ .opened ∨ s.ctl.keyMarks.get k = false) : routeRelease k s = s := by
  refine if_neg fun ⟨opened, marked⟩ => ?_
  rcases h with other | unmarked
  · exact other opened
  · rw [unmarked] at marked; cases marked

/-- A key pressed in OPEN is told to APP and marked, whether the queue has room or not (R92, R94, R99). -/
theorem debounceExpiry_press_of_opened {s : State} {k : Key} (running : (s.key k).timer.isRunning = true)
    (low : (s.key k).pin = .low) (opened : s.ctl.state = .opened) :
    debounceExpiry k s = ((s.debounced k true).told (keyInput .press k)).keyMarked k true :=
  (debounceExpiry_of_low running low).trans (routePress_of_opened (s := s.debounced k true) opened k)

/-! ### A PRESS in SECURE (R109, R125) -/

theorem sessionPress_eq (r : Session) (k : Key) (s : State) :
    sessionPress r k s =
      if k = .cancel then endSession .cancelled s
      else if r.mode = .pin ∧ k = .clear then pressClear r s
      else if r.mode = .pin ∧ k = .enter then pressEnter r s else s := by
  unfold sessionPress
  cases r.mode <;> cases k <;> rfl

theorem sessionPress_pressed {s : State} {r : Session} (secure : s.ctl.state = .secure)
    (running : s.gate.stopped = false) (calm : s.gate.episode = false ∨ s.gate.pending.presentation ≠ .overlay)
    (record : s.ctl.record = some r) (k : Key) : Pressed s (sessionPress r k s) := by
  unfold sessionPress
  split
  · exact .ends secure record running _
  · exact pressed_accepted secure running calm r []
  · exact pressEnter_pressed secure record running
  all_goals exact .nothing secure

end Sys2Proof.Machine

open Sys2Proof Sys2Proof.Machine

/-- Settles O38: the key and the input with their pins' new levels, `SideKey.input_eq` and `Tamper.input_eq`. -/
theorem pinsStartAndStopTheirTimers : Obligations.PinsStartAndStopTheirTimers := by
  intro k i level s
  refine ⟨fun reset => ⟨?_, ?_⟩, fun live => ⟨?_, ?_⟩⟩
  · change execKeyInputChange k level s = _
    exact actPin_of_reset reset _ _
  · change execTamperPinChange i level s = _
    exact actPin_of_reset reset _ _
  · change execKeyInputChange k level s = _
    rw [execKeyInputChange, actPin_of_running live.1]
    exact act_eq live (congrArg (s.setKey k) (SideKey.input_eq _ _ _)) rfl
  · change execTamperPinChange i level s = _
    rw [execTamperPinChange, actPin_of_running live.1]
    exact act_eq live (congrArg (s.setTamper i) (Tamper.input_eq _ _)) rfl

/-- Settles O39: the expiry is a PRESS or a RELEASE (`debounceExpiry_of_low`, `debounceExpiry_of_high`), and the
controller's state routes it; in SECURE the gate reports nothing at once (`sessionPress_pressed`). -/
theorem keyEventsAreRouted : Obligations.KeyEventsAreRouted := by
  intro k s live running settled event mark
  refine ⟨fun low opened room => ?press, fun high opened room marked => ?release, fun high discarded => ?unmarked,
    fun low opened secure => ?ignored, fun r low secure record flows calm => ?session⟩
  all_goals change act s (debounceExpiry k) = _
  case press =>
    rw [act_eq live (debounceExpiry_press_of_opened running low opened) rfl,
      told_of_room (s := s.debounced k true) room]
    rfl
  case release =>
    have routed := (debounceExpiry_of_high running high).trans
      (routeRelease_of_marked (s := s.debounced k false) opened marked)
    rw [act_eq live routed rfl, told_of_room (s := s.debounced k false) room]
    rfl
  case unmarked =>
    exact act_eq live ((debounceExpiry_of_high running high).trans
      (routeRelease_of_unmarked (s := s.debounced k false) discarded)) rfl
  case ignored =>
    exact act_eq live ((debounceExpiry_of_low running low).trans
      (routePress_of_other (s := s.debounced k true) opened secure k)) rfl
  case session =>
    have routed := (debounceExpiry_of_low running low).trans
      (routePress_of_secure (s := s.debounced k true) secure record k)
    have quiet := (sessionPress_pressed (s := s.debounced k true) secure flows calm record k).quiet
    rw [act_eq live routed quiet, sessionPress_eq]
    rfl
end

section
/-! PROOF. O40: what a full input-event queue gives up (R97–R99). -/

namespace Sys2Proof.Machine

open Sys2Proof

theorem isMove_iff {e : InputEvent} : e.isMove = true ↔ e.kind = .move := decide_eq_true_iff

/-! ### What is given up (R98) -/

theorem dropOldest_of_move {xs ys : List InputEvent} {m : InputEvent} (move : m.kind = .move)
    (first : ∀ x ∈ xs, x.kind ≠ .move) : dropOldest (xs ++ m :: ys) = xs ++ ys := by
  have here : (xs ++ m :: ys).any InputEvent.isMove = true :=
    List.any_eq_true.2 ⟨m, List.mem_append_cons_self, isMove_iff.2 move⟩
  rw [dropOldest, if_pos here, List.eraseP_append_right _ fun x hx => mt isMove_iff.1 (first x hx),
    List.eraseP_cons_of_pos (isMove_iff.2 move)]

theorem dropOldest_of_noMove {es : List InputEvent} (none : ∀ x ∈ es, x.kind ≠ .move) :
    dropOldest es = es.drop 1 := by
  refine if_neg fun h => ?_
  obtain ⟨m, mem, move⟩ := List.any_eq_true.1 h
  exact none m mem (isMove_iff.1 move)

/-! ### Joining the queue (R97, R98) -/

theorem joinInput_of_room {es : List InputEvent} (room : es.length < 32) (sending : Bool) (e : InputEvent) :
    joinInput sending es e = es ++ [e] := if_pos room

section Full

variable {es : List InputEvent} {e : InputEvent} (full : es.length = 32) (sending : Bool)
include full

theorem joinInput_of_full_move (move : e.kind = .move) : joinInput sending es e = es := by
  rw [joinInput, if_neg (show ¬es.length < maxInputs from Nat.not_lt.2 full.ge), if_pos (isMove_iff.2 move)]

/-- The event in transmission is spared, and the rest gives up one event (R97). -/
theorem joinInput_of_full (other : e.kind ≠ .move) :
    joinInput sending es e =
      let spared := if sending then 1 else 0
      es.take spared ++ dropOldest (es.drop spared) ++ [e] := by
  rw [joinInput, if_neg (show ¬es.length < maxInputs from Nat.not_lt.2 full.ge), if_neg (mt isMove_iff.1 other)]
  cases sending <;> rfl

theorem length_joinInput_of_full : (joinInput sending es e).length = 32 := by
  by_cases move : e.kind = .move
  · rw [joinInput_of_full_move full sending move, full]
  · have few : (if sending then 1 else 0) ≤ 1 := by split <;> decide
    rw [joinInput_of_full full sending move]
    generalize (if sending then 1 else 0) = spared at few
    have rest : es.drop spared ≠ [] := List.ne_nil_of_length_pos (by rw [List.length_drop]; omega)
    have dropped := dropOldest_length rest
    rw [List.length_drop] at dropped
    rw [List.length_append, List.length_append, List.length_take, List.length_singleton]
    omega

theorem head?_joinInput_of_full : (joinInput true es e).head? = es.head? := by
  by_cases move : e.kind = .move
  · rw [joinInput_of_full_move full true move]
  · rw [joinInput_of_full full true move]
    cases es with
    | nil => cases full
    | cons x xs => rfl

end Full

end Sys2Proof.Machine

open Sys2Proof Sys2Proof.Machine

/-- Settles O40: a full queue keeps what is spared and lets the rest give up one event (`joinInput_of_full`), which
`dropOldest_of_move` and `dropOldest_of_noMove` name. -/
theorem fullInputQueueGivesUpMovesFirst : Obligations.FullInputQueueGivesUpMovesFirst := by
  refine ⟨fun k s live running low opened full => ?press, fun sending es e => ⟨queueInput_eq_told e, ?_⟩⟩
  case press =>
    change act s (debounceExpiry k) = _
    rw [act_eq live (debounceExpiry_press_of_opened running low opened) rfl,
      told_of_full (s := s.debounced k true) full.ge]
    rfl
  intro new spared
  refine ⟨fun room => joinInput_of_room room sending e, fun full => ⟨length_joinInput_of_full full sending, ?_,
    joinInput_of_full_move full sending, fun other xs m ys split late move first => ?_, fun other none => ?_⟩⟩
  · rintro rfl
    exact head?_joinInput_of_full full
  · have rest : es.drop spared = xs.drop spared ++ m :: ys := by rw [split, List.drop_append_of_le_length late]
    have front : es.take spared = xs.take spared := by rw [split, List.take_append_of_le_length late]
    calc new = es.take spared ++ dropOldest (es.drop spared) ++ [e] := joinInput_of_full full sending other
      _ = xs.take spared ++ (xs.drop spared ++ ys) ++ [e] := by rw [front, rest, dropOldest_of_move move first]
      _ = xs ++ ys ++ [e] := by rw [← List.append_assoc, List.take_append_drop]
  · calc new = es.take spared ++ dropOldest (es.drop spared) ++ [e] := joinInput_of_full full sending other
      _ = es.take spared ++ es.drop (spared + 1) ++ [e] := by rw [dropOldest_of_noMove none, List.drop_drop]
end

section
/-! PROOF. O21: the fields of an ENTRY-BEGIN (R102). -/

namespace Sys2Proof.Machine

open Sys2Proof

theorem clamp_eq_min {lo hi : Nat} (h : lo ≤ hi) (v : Nat) : clamp lo hi v = if v < lo then lo else min hi v := by
  unfold clamp
  split <;> omega

theorem timeoutOf_eq {lo hi : Nat} (h : lo ≤ hi) (default v : Nat) :
    timeoutOf default lo hi v = if v = 0 then default else if v < lo then lo else min hi v := by
  rw [timeoutOf, clamp_eq_min h]

theorem modeOf_eq (n : Nat) : modeOf n = [Mode.pin, .calibrate][n]? := by
  match n with
  | 0 | 1 | _ + 2 => rfl

theorem presentationOf_eq (n : Nat) : presentationOf n = [SessionPresentation.overlay, .full][n]? := by
  match n with
  | 0 | 1 | _ + 2 => rfl

theorem presentationOf_of_le {n : Nat} (h : n ≤ 1) :
    presentationOf n = some (if n = 0 then .overlay else .full) := by
  interval_cases n <;> rfl

theorem sessionOf_pin {body : List Byte} (mode : byteAt body 0 = 0) (presentation : byteAt body 1 ≤ 1)
    (auto : byteAt body 14 ≤ 1) :
    sessionOf body = some
      { mode := .pin, presentation := if byteAt body 1 = 0 then .overlay else .full, digitMap := entryDigitMap body
        least := clamp 4 12 (byteAt body 12), maxLength := clamp 4 12 (byteAt body 13)
        autoEnter := decide (byteAt body 14 = 1), firstKey := timeoutOf 30 5 120 (byteAt body 15)
        interKey := timeoutOf 15 2 60 (byteAt body 16), total := timeoutOf 90 10 300 (wordAt body 17) } := by
  rw [sessionOf, mode, presentationOf_of_le presentation, yesNoOf_of_le auto]
  rfl

theorem sessionOf_calibration {body : List Byte} (mode : byteAt body 0 = 1) :
    sessionOf body = some
      { mode := .calibrate, presentation := .full, digitMap := [], least := clamp 3 8 (byteAt body 12)
        maxLength := 0, autoEnter := false, firstKey := timeoutOf 30 5 120 (byteAt body 15)
        interKey := timeoutOf 15 2 60 (byteAt body 16), total := timeoutOf 90 10 300 (wordAt body 17) } := by
  rw [sessionOf, mode]
  rfl

/-- A code that is not listed makes no session: the mode, and for a PIN session the presentation and auto-enter. -/
theorem sessionOf_unlisted {body : List Byte}
    (unlisted : 2 ≤ byteAt body 0 ∨ byteAt body 0 = 0 ∧ (2 ≤ byteAt body 1 ∨ 2 ≤ byteAt body 14)) :
    sessionOf body = none := by
  have none : ∀ {α : Type} {l : List α} {n : Nat}, l.length = 2 → 2 ≤ n → l[n]? = none := fun two h =>
    List.getElem?_eq_none (two ▸ h)
  rw [sessionOf]
  rcases unlisted with mode | ⟨mode, presentation | auto⟩
  · rw [modeOf_eq, none rfl mode]
  · rw [mode, presentationOf_eq, none rfl presentation]; rfl
  · rw [mode, yesNoOf_eq, none rfl auto]
    cases presentationOf (byteAt body 1) <;> rfl

end Sys2Proof.Machine

open Sys2Proof Sys2Proof.Machine

/-- Settles O21: the session that the codes ask for, its numbers by `clamp_eq_min` and `timeoutOf_eq`. -/
theorem sessionFieldsAreClamped : Obligations.SessionFieldsAreClamped := by
  intro body _ at' time limit
  have limits : ∀ {lo hi : Nat}, lo ≤ hi → ∀ v, clamp lo hi v = limit lo hi v := fun h v => clamp_eq_min h v
  have times : ∀ {lo hi : Nat}, lo ≤ hi → ∀ default v, timeoutOf default lo hi v = time default lo hi v :=
    fun h default v => timeoutOf_eq h default v
  refine ⟨fun mode presentation auto => ⟨_, sessionOf_pin mode presentation auto, rfl, ?_, rfl, limits (by decide) _,
    limits (by decide) _, decide_eq_true_iff, times (by decide) _ _, times (by decide) _ _, times (by decide) _ _⟩,
    fun mode => ⟨_, sessionOf_calibration mode, rfl, rfl, limits (by decide) _, times (by decide) _ _,
      times (by decide) _ _, times (by decide) _ _⟩, sessionOf_unlisted⟩
  change (if at' 1 = 0 then SessionPresentation.overlay else .full) = .overlay ↔ _
  split <;> simp [*]
end

section
/-! PROOF. O22: the owners' refusals for ENTRY-BEGIN, ENTRY-ABORT and UNLOCK (R103, R120, R128). -/

namespace Sys2Proof.Machine

open Sys2Proof

/-- A request whose owner refuses it is answered with the status alone (R10). -/
theorem exec_refused {c : Instr} {d : Domain} {f : Frame} {s : State} {st : Status}
    (request : requestOf c = some (d, f)) (accepts : s.Accepts d) (passed : portCheck d f = none)
    (owner : ownerOf d f (s.arrived d) = (s.arrived d, st, [])) :
    exec c s = .next (finish ((s.arrived d).answered d f st [])) :=
  exec_passed request accepts passed owner accepts.1.1.2

theorem portCheck_entryBegin {body : List Byte} (length : body.length = 19) (tag slot : Byte) :
    portCheck .pay ⟨0x13, tag, slot, body⟩ = none := by
  have long : lengthFits .entryBegin body.length = true := decide_eq_true length
  rw [portCheck, show requestKindOf 0x13 = some .entryBegin from rfl]
  dsimp only
  rw [long]
  rfl

/-! ### The checks of R103 -/

theorem runEntryBegin_of_closed {s : State} {st : Status} (h : openChecks s = some st) (body : List Byte) :
    runEntryBegin body s = (s, st, []) := by rw [runEntryBegin, h]

section Checks

variable {s : State} (policy : s.generation ≠ 0)
include policy

theorem openChecks_locked (locked : s.ctl.state = .locked) : openChecks s = some .locked := by
  rw [openChecks, if_neg policy, if_pos locked]

theorem openChecks_elsewhere (unlocked : s.ctl.state ≠ .locked) (left : s.ctl.state ≠ .opened) :
    openChecks s = some .busy := by
  rw [openChecks, if_neg policy, if_neg unlocked, if_pos left]

theorem openChecks_opened (opened : s.ctl.state = .opened) :
    openChecks s = if s.entryEnd ≠ none then some .busy
      else if s.sup.level = .belowAbort then some .supplyLow else none := by
  rw [openChecks, if_neg policy, if_neg (by rw [opened]; decide), if_neg (not_not.2 opened)]

end Checks

theorem presentCells_eq_nil_iff (p : Policy) : p.presentCells = [] ↔ ∀ i : Fin 20, p.cells[i] = none := by
  rw [Policy.presentCells, List.filterMap_eq_nil_iff]
  constructor
  · exact fun h i => h _ (by simp)
  · intro h c hc
    obtain ⟨i, hi, rfl⟩ := Vector.getElem_of_mem (Vector.mem_toList_iff.1 hc)
    exact h ⟨i, hi⟩

/-- A digit map is a permutation of 0–9 (R103, check 7). -/
theorem isDigitMap_iff (ds : List Nat) : isDigitMap ds = true ↔ ds.Perm (List.range 10) := by
  simp only [isDigitMap, Bool.and_eq_true, decide_eq_true_eq, List.all_eq_true]
  constructor
  · rintro ⟨⟨ten, distinct⟩, small⟩
    have sub : ds ⊆ List.range 10 := fun x hx => List.mem_range.2 (small x hx)
    exact (List.subperm_of_subset distinct sub).perm_of_length_le (by simp [ten])
  · intro perm
    exact ⟨⟨by simpa using perm.length_eq, perm.nodup_iff.2 List.nodup_range⟩, fun x hx =>
      List.mem_range.1 (perm.mem_iff.1 hx)⟩

theorem sessionOf_digitMap {body : List Byte} {r : Session} (h : sessionOf body = some r) (pin : r.mode = .pin) :
    r.digitMap = entryDigitMap body := by
  unfold sessionOf at h
  dsimp only at h
  split at h
  · cases h
  · cases h; cases pin
  · split at h
    · cases h; rfl
    · cases h

theorem layoutChecks_pin {p : Policy} {r : Session} (pin : r.mode = .pin) :
    layoutChecks p r =
      if p.presentCells = [] then some .noLayout else if ¬r.digitMap.Perm (List.range 10) then some .badParameter
      else if r.maxLength < r.least then some .badParameter else none := by
  rw [layoutChecks, pin]
  simp only [← isDigitMap_iff, Bool.not_eq_true', Bool.not_eq_true, gt_iff_lt]

end Sys2Proof.Machine

open Sys2Proof Sys2Proof.Machine

/-- Settles O22: each refusal is the answer of its owner to the request that has arrived, whose arrival none of the
checks looks at. -/
theorem controllerRefusalsChangeNothing : Obligations.ControllerRefusalsChangeNothing := by
  intro tag slot body s accepts length begins unlocks
  have refused : ∀ {st}, runEntryBegin body (s.arrived .pay) = (s.arrived .pay, st, []) → begins st :=
    exec_refused rfl accepts (portCheck_entryBegin length tag slot)
  have closed : ∀ {st}, openChecks (s.arrived .pay) = some st → begins st := fun h =>
    refused (runEntryBegin_of_closed h body)
  have barred : ∀ {st}, runUnlock (s.arrived .pay) = (s.arrived .pay, st, []) → unlocks st := fun h =>
    exec_refused (f := ⟨0x16, tag, slot, []⟩) rfl accepts rfl h
  have level := arrived_level .pay s
  have tamper := arrived_tamper .pay s
  have passes : s.generation ≠ 0 → s.ctl.state = .opened → s.entryEnd = none → s.sup.level ≠ .belowAbort →
      openChecks (s.arrived .pay) = none := fun policy opened none supply => by
    rw [openChecks_opened (by exact policy) (by exact opened), if_neg (not_not.2 (by exact none)), level, if_neg supply]
  refine ⟨fun none => closed (if_pos none), fun policy locked => closed (openChecks_locked policy locked),
    fun policy unlocked left => closed (openChecks_elsewhere policy unlocked left), fun policy opened told => closed ?_,
    fun policy opened none supply => closed ?_, fun policy opened none supply unlisted => refused ?_,
    fun r policy opened none supply asked pin => ?layout, fun noSession => ?abort,
    fun unlocked => barred (if_pos unlocked), fun locked trips => barred ?_, fun locked a b hidden => barred ?_⟩
  · rw [openChecks_opened (by exact policy) (by exact opened), if_pos (by exact told)]
  · rw [openChecks_opened (by exact policy) (by exact opened), if_neg (not_not.2 (by exact none)), level, if_pos supply]
  · rw [runEntryBegin, passes policy opened none supply, unlisted]
  case layout =>
    intro empty digits permutation
    have map : r.digitMap = digits := sessionOf_digitMap asked pin
    have cells : empty ↔ s.active.presentCells = [] := (presentCells_eq_nil_iff _).symm
    have checks : ∀ {st}, layoutChecks s.active r = some st → begins st := fun h => refused (by
      rw [runEntryBegin, passes policy opened none supply, asked]
      dsimp only
      rw [show layoutChecks (s.arrived .pay).active r = _ from h])
    rw [layoutChecks_pin pin, map] at checks
    exact ⟨fun none => checks (if_pos (cells.1 none)),
      fun some other => checks (by rw [if_neg (mt cells.2 some), if_pos other]),
      fun some ten order => checks (by rw [if_neg (mt cells.2 some), if_neg (not_not.2 ten), if_pos order])⟩
  case abort => exact exec_refused rfl accepts rfl (if_neg noSession)
  · have trip : (s.arrived .pay).anyTrip = true := by rw [State.anyTrip, tamper]; exact Bool.or_eq_true_iff.2 trips
    rw [runUnlock, if_neg (not_not.2 (by exact locked)), if_pos trip]
  · have still : (s.arrived .pay).anyTrip = false := by rw [State.anyTrip, tamper, a, b]; rfl
    rw [runUnlock, if_neg (not_not.2 (by exact locked)), still, show (s.arrived .pay).ctl.lockShown = false from hidden]
    rfl
end

section
/-! PROOF. An output frame boundary as the controller finds it (R138, R140): what a set that becomes active brings (R106,
R117, R127), and O45, the end of a local frame (R134, R137). -/

namespace Sys2Proof.Machine

open Sys2Proof

/-! ### One report that a set is active -/

theorem takeWave_of_none {s : State} (h : s.reports = []) : takeWave s = s := by
  obtain ⟨⟩ := s
  subst h
  rfl

theorem onReport_setActive_reports (s : State) (k : SetKind) : (onReport s (.setActive k)).reports = s.reports := by
  cases k with
  | clear => unfold onReport; dsimp only; split; exacts [enterReleasing_reports s, rfl]
  | secure => unfold onReport; dsimp only; split <;> rfl
  | lock => unfold onReport; dsimp only; split <;> rfl

theorem takeReports_of_setActive {s : State} {k : SetKind} (h : s.reports = [.setActive k]) :
    takeReports s = onReport { s with reports := [] } (.setActive k) := by
  have wave : takeWave s = onReport { s with reports := [] } (.setActive k) := by rw [takeWave, h]; rfl
  rw [takeReports, wave, takeWave_of_none (onReport_setActive_reports _ k)]

theorem onReport_presents {s : State} {r : Session} (presenting : s.ctl.state = .presenting)
    (record : s.ctl.record = some r) :
    onReport s (.setActive .secure) = { s with
      ctl := { s.ctl with state := .secure, firstKey := .running (1000 * r.firstKey), candidate := .none }
      progress := joinProgress s.progress ⟨s.ctl.session, .presented, 0⟩ } := by
  rw [onReport, presenting, record]; rfl

/-- In no state but PRESENTING is the secure set's report of consequence. -/
theorem onReport_secure {s : State} (other : s.ctl.state ≠ .presenting) : onReport s (.setActive .secure) = s := by
  unfold onReport
  dsimp only
  split
  · rename_i presenting _; exact absurd presenting other
  · rfl

theorem onReport_closing {s : State} (closing : s.ctl.state = .closing) :
    onReport s (.setActive .clear) = s.released := by
  rw [onReport, if_pos closing, enterReleasing_eq_released]

theorem onReport_clear {s : State} (other : s.ctl.state ≠ .closing) : onReport s (.setActive .clear) = s :=
  if_neg other

theorem onReport_locked {s : State} (locked : s.ctl.state = .locked) :
    onReport s (.setActive .lock) = { s with ctl := { s.ctl with lockShown := true } } := if_pos locked

/-! ### Kinds of sets (R139, R140) -/

theorem kind_of_isSecure {o : OverlaySet} (h : o.isSecure = true) : o.kind = .secure := of_decide_eq_true h

theorem kind_of_none {o : OverlaySet} (h : o.presentation = .none) : o.kind = .clear := by rw [OverlaySet.kind, h]

theorem kind_of_lock {o : OverlaySet} (h : o.presentation = .lock) : o.kind = .lock := by rw [OverlaySet.kind, h]

theorem lamp_high {g : Gate} (h : g.active.isSecure = true) : g.lamp = .high := if_pos h

theorem lamp_low {g : Gate} (h : g.active.presentation = .none) : g.lamp = .low :=
  if_neg (by rw [OverlaySet.isSecure, kind_of_none h]; decide)

/-! ### A boundary -/

/-- The part once its gate stands as `g` at a boundary: a pending set that differs becomes active, and the controller has
its report. -/
def State.shows (s : State) (g : Gate) : State :=
  if g.pending = g.active then { s with gate := g }
  else onReport { s with gate := { g with active := g.pending } } (.setActive g.pending.kind)

/-- The gate at an output frame start, the layout waiting taken (R138). -/
def Gate.framed (g : Gate) : Gate := { g with layout := g.waiting.getD g.layout, waiting := none }

theorem frameStart_eq_boundary (g : Gate) : g.frameStart = g.framed.boundary := by
  have taken : g.takeLayout = g.framed := by
    unfold Gate.takeLayout Gate.framed
    cases h : g.waiting with
    | none => cases g; cases h; rfl
    | some l => rfl
  rw [Gate.frameStart, taken]

theorem takeReports_boundary {s : State} (quiet : s.reports = []) {f : Gate → Gate × List GateReport} {g : Gate}
    (h : f s.gate = g.boundary) : takeReports (gateDo f s) = s.shows g := by
  rw [gateDo, h, quiet, Gate.boundary, State.shows]
  obtain ⟨⟩ := s
  cases quiet
  split
  · exact takeReports_of_none rfl
  · exact takeReports_of_setActive rfl

section Shows

variable {s : State} {g : Gate}

theorem shows_same (same : g.pending = g.active) : s.shows g = { s with gate := g } := if_pos same

variable (news : g.pending ≠ g.active)
include news

/-- A changed secure set presents the session that waits for it (R106). -/
theorem shows_presents {r : Session} (secure : g.pending.isSecure = true) (presenting : s.ctl.state = .presenting)
    (record : s.ctl.record = some r) :
    s.shows g = { s with
      gate := { g with active := g.pending }
      ctl := { s.ctl with state := .secure, firstKey := .running (1000 * r.firstKey), candidate := .none }
      progress := joinProgress s.progress ⟨s.ctl.session, .presented, 0⟩ } := by
  rw [State.shows, if_neg news, kind_of_isSecure secure]
  exact onReport_presents (by exact presenting) record

theorem shows_secure (secure : g.pending.isSecure = true) (other : s.ctl.state ≠ .presenting) :
    s.shows g = { s with gate := { g with active := g.pending } } := by
  rw [State.shows, if_neg news, kind_of_isSecure secure]
  exact onReport_secure (by exact other)

/-- The clear set takes CLOSING on (R117). -/
theorem shows_closing (clear : g.pending.presentation = .none) (closing : s.ctl.state = .closing) :
    s.shows g = ({ s with gate := { g with active := g.pending } } : State).released := by
  rw [State.shows, if_neg news, kind_of_none clear]
  exact onReport_closing (by exact closing)

theorem shows_clear (clear : g.pending.presentation = .none) (other : s.ctl.state ≠ .closing) :
    s.shows g = { s with gate := { g with active := g.pending } } := by
  rw [State.shows, if_neg news, kind_of_none clear]
  exact onReport_clear (by exact other)

/-- The lock set is found shown (R127). -/
theorem shows_lock (lock : g.pending.presentation = .lock) (locked : s.ctl.state = .locked) :
    s.shows g = { s with
      gate := { g with active := g.pending }, ctl := { s.ctl with lockShown := true } } := by
  rw [State.shows, if_neg news, kind_of_lock lock]
  exact onReport_locked (by exact locked)

end Shows

/-! ### The end of a local frame (R134, R137) -/

theorem localEnd_of_local {g : Gate} (timing : g.timing = .localTiming) : g.localEnd = g.framed.boundary := by
  rw [Gate.localEnd, timing]; exact frameStart_eq_boundary g

theorem exec_localFrameEnd {s : State} (live : s.Live) (timing : s.gate.timing = .localTiming) :
    exec .localFrameEnd s = .next (finish (s.shows s.gate.framed)) := by
  rw [← takeReports_boundary live.2 (localEnd_of_local timing)]
  exact act_of_running live.1 _

end Sys2Proof.Machine

open Sys2Proof Sys2Proof.Machine

/-- Settles O45: in LOCAL the next frame's start, by the set it shows; in every other timing state the gate's own move. -/
theorem localFrameEnds : Obligations.LocalFrameEnds := by
  intro s live g
  have frame : ∀ {u : State}, s.gate.timing = .localTiming → s.shows s.gate.framed = u →
      exec .localFrameEnd s = .next (finish u) := fun timing h => h ▸ exec_localFrameEnd live timing
  refine ⟨fun timing same => frame timing (shows_same (by exact same)),
    fun timing news lock locked => frame timing (shows_lock (by exact news) lock locked),
    fun r timing news secure presenting record => frame timing (shows_presents (by exact news) secure presenting record),
    fun timing news secure shown => frame timing (shows_secure (by exact news) secure (by rw [shown]; decide)),
    fun timing => ?_, fun notLocal notLeaving => ?_⟩
  · refine act_eq live ?_ rfl
    rw [gateDo, Gate.localEnd, timing, List.append_nil]
    rfl
  · refine act_idle live ?_
    have none : s.gate.localEnd = (s.gate, []) := by
      unfold Gate.localEnd
      cases timing : s.gate.timing with
      | localTiming => exact absurd timing notLocal
      | toFollow => exact absurd timing notLeaving
      | follow => rfl
      | toLocal => rfl
      | rejoin => rfl
    rw [gateDo, none, List.append_nil]
end

section
/-! PROOF. O42: the ends of a session by timer, silence, abort and PAY break (R114, R115, R120, R123). -/

namespace Sys2Proof.Machine

open Sys2Proof

/-- The expiry of a session timer that runs is the end of the session. -/
theorem act_timerExpiry {s : State} {r : Session} {t : Timer} {o : SessionOutcome} (live : s.Live)
    (session : s.inSession) (record : s.ctl.record = some r) (running : t.isRunning = true) :
    ∃ u : State, act s (timerExpiry t o) = .next (finish u) ∧ s.EndsAlone r o u := by
  refine ⟨_, (act_of_running live.1 _).trans ?_, endSession_endsAlone live.2 session record o⟩
  rw [timerExpiry, if_pos running]

/-- The PAY silence timer that runs out is disarmed already where it ends the session. -/
theorem State.EndsAlone.of_disarmed {s u : State} {r : Session} {o : SessionOutcome}
    (h : (disarmSilence s).EndsAlone r o u) : s.EndsAlone r o u := h

/-- Nothing that a PAY break clears has a part in the end of the session (R6, R123). -/
theorem State.EndsSession.of_break {s u : State} {r : Session} {o : SessionOutcome}
    (h : (restartSilence (linkCleared .pay s)).EndsSession r o u) : s.EndsSession r o u := by
  have sending : (restartSilence (linkCleared .pay s)).inputSending = s.inputSending := by
    rw [restartSilence_eq_setSup]
    change ((linkCleared .pay s).ports.get .app).tx.any _ = _
    rw [linkCleared_ports, PerDomain.get_set]
    rfl
  simp only [State.EndsSession, State.told, sending] at h ⊢
  rwa [restartSilence_eq_setSup, linkCleared_eq] at h

end Sys2Proof.Machine

open Sys2Proof Sys2Proof.Machine

/-- Settles O42: each cause ends the session (`endSession_endsAlone`) in the state that its command has come to. -/
theorem sessionEndsWithItsOutcome : Obligations.SessionEndsWithItsOutcome := by
  intro r s live session record alone
  refine ⟨act_timerExpiry live session record, act_timerExpiry live session record,
    act_timerExpiry live session record, fun running => ?silent, fun noBreak => ?broken, fun tag slot accepts => ?aborted⟩
  case silent =>
    change alone .paySilent (execPaySilenceExpiry s)
    refine ⟨_, (act_of_running live.1 _).trans ?_,
      (endSession_endsAlone (s := disarmSilence s) live.2 session record .paySilent).of_disarmed⟩
    rw [if_pos running]
  case broken =>
    have quiet : (restartSilence (linkCleared .pay s)).reports = [] :=
      (restartSilence_reports _).trans ((linkCleared_reports _ s).trans live.2)
    have same : (restartSilence (linkCleared .pay s)).ctl = s.ctl := (restartSilence_ctl _).trans (linkCleared_ctl _ s)
    refine ⟨_, execSerialBreak_eq ⟨live, noBreak⟩, ?_⟩
    rw [linkReset_pay]
    exact (endSession_endsAlone quiet (by rwa [State.inSession, same]) (by rw [same]; exact record) _).1.of_break
  case aborted =>
    have ended := endSession_endsAlone (s := s.arrived .pay) live.2 session record .aborted
    have quiet : (takeReports (endSession .aborted (s.arrived .pay))).reports = [] :=
      (endSession_endOnly (s := s.arrived .pay) live.2 session .aborted).2
    exact ⟨_, exec_passed rfl accepts rfl (if_pos session) quiet, ended⟩
end

section
/-! PROOF. Judging and losses (R129–R131), and what a loss tells the controller (R121). -/

namespace Sys2Proof.Machine

open Sys2Proof

/-! ### The judging of an input frame (R129) -/

theorem wellFormed_iff (l : Layout) (lines : List Nat) :
    l.wellFormed lines = true ↔ lines = List.replicate l.h l.w := by
  simp [Layout.wellFormed, List.eq_replicate_iff]

/-- The gate once the input frame in progress, if any, has ended and has been judged. -/
def Gate.judged (lines : List Nat) (g : Gate) : Gate :=
  let bad := lines ≠ List.replicate g.layout.h g.layout.w
  { g with
    inFrame := false
    malformed := if g.inFrame then (if bad then min 2 (g.malformed + 1) else 0) else g.malformed
    episode := g.episode && (!g.inFrame || decide bad) }

theorem judged_eq (lines : List Nat) (g : Gate) :
    g.judged lines = if g.inFrame then { g.judge lines with inFrame := false } else g := by
  obtain ⟨timing, stopped, watch, inFrame, malformed, episode, active, pending, layout, waiting⟩ := g
  cases inFrame with
  | false => simp only [Gate.judged, Bool.not_false, Bool.true_or, Bool.and_true]; rfl
  | true =>
    by_cases good : lines = List.replicate layout.h layout.w
    · rw [if_pos rfl, Gate.judge, if_pos ((wellFormed_iff _ _).2 good)]
      simp [Gate.judged, good]
    · rw [if_pos rfl, Gate.judge, if_neg (mt (wellFormed_iff _ _).1 good)]
      simp [Gate.judged, good]

theorem judgeFrame_eq (lines : List Nat) (s : State) : judgeFrame lines s = s.setGate (s.gate.judged lines) := by
  rw [judgeFrame, judged_eq]
  split <;> rfl

/-! ### The beginning of a loss episode (R131) -/

/-- The loss episode has begun and PAY has its flag; the controller has not been told. -/
def lossFlagged (s : State) : State := setFlag .pay .videoLost { s with gate := { s.gate with episode := true } }

theorem declareLoss_of_new {s : State} (follows : s.gate.timing.followsInput = true) (new : s.gate.episode = false) :
    declareLoss s = { lossFlagged s with reports := s.reports ++ [.videoLoss] } := if_pos ⟨follows, new⟩

theorem declareLoss_of_known {s : State} (known : s.gate.episode = true) : declareLoss s = s :=
  if_neg fun h => by rw [known] at h; exact absurd h.2 (by decide)

theorem declareLoss_of_own {s : State} (own : s.gate.timing.followsInput = false) : declareLoss s = s :=
  if_neg fun h => by rw [own] at h; exact absurd h.1 (by decide)

/-! ### What a loss tells the controller (R121) -/

/-- The keypad of session `r` is shown, or waits to be, over the input (R121). -/
def State.Overlays (s : State) (r : Session) : Prop :=
  s.ctl.record = some r ∧ r.presentation = .overlay ∧ (s.ctl.state = .presenting ∨ s.ctl.state = .secure)

theorem State.Overlays.inSession {s : State} {r : Session} (h : s.Overlays r) : s.inSession := .inr h.2.2

theorem onReport_loss_of_overlays {s : State} {r : Session} (h : s.Overlays r) :
    onReport s .videoLoss = endSession .videoLost s := by
  obtain ⟨record, overlay, shown⟩ := h
  unfold onReport
  dsimp only
  rw [record]
  exact if_pos ⟨shown, overlay⟩

theorem onReport_loss_of_hidden {s : State} (h : ¬∃ r, s.Overlays r) : onReport s .videoLoss = s := by
  unfold onReport
  dsimp only
  cases record : s.ctl.record with
  | none => rfl
  | some r => exact if_neg fun k => h ⟨r, record, k.2, k.1⟩

theorem endSession_reports {s : State} {r : Session} (session : s.inSession) (record : s.ctl.record = some r)
    (o : SessionOutcome) :
    (endSession o s).reports = s.reports ++
      if s.ctl.state = .arming then [] else (s.gate.write OverlaySet.clear).2 := by
  have early : ∀ h : s.ctl.state = .arming ∨ s.ctl.state = .presenting, (endSession o s).reports = s.reports ++
      if s.ctl.state = .arming then [] else (s.gate.write OverlaySet.clear).2 := fun h => by
    rw [endSession_of_early h record, endEarly_eq r h, ← enterReleasing_eq_released, enterReleasing_reports]
  rcases session with h | h | h
  · exact early (.inl h)
  · exact early (.inr h)
  · rw [endSession_of_secure h record, endSecure_eq r h, if_neg (by rw [h]; decide)]

/-- The end of a session has nothing more to tell after one wave. -/
theorem takeWave_endSession {s : State} {r : Session} (quiet : s.reports = []) (session : s.inSession)
    (record : s.ctl.record = some r) (o : SessionOutcome) : takeWave (endSession o s) = sessionEnded o r s := by
  rw [← takeReports_endSession quiet session record]
  refine (takeWave_of_none ?_).symm
  have told := endSession_reports session record o
  rw [quiet, List.nil_append] at told
  have clear : (endSession o s).reports = [] ∨ (endSession o s).reports = [.setActive .clear] := by
    rw [told]
    split
    · exact .inl rfl
    · exact write_clear_reports s.gate
  rcases clear with none | clear
  · rw [takeWave_of_none none]; exact none
  · rw [takeWave, clear]
    exact onReport_setActive_reports { endSession o s with reports := [] } .clear

section Told

variable {s : State} (loss : s.reports = [.videoLoss])
include loss

theorem takeReports_loss_of_overlays {r : Session} (h : s.Overlays r) :
    takeReports s = sessionEnded .videoLost r { s with reports := [] } := by
  have wave : takeWave s = endSession .videoLost { s with reports := [] } := by
    rw [takeWave, loss]
    exact onReport_loss_of_overlays (s := { s with reports := [] }) h
  rw [takeReports, wave]
  exact takeWave_endSession (s := { s with reports := [] }) rfl h.inSession h.1 _

theorem takeReports_loss_of_hidden (h : ¬∃ r, s.Overlays r) : takeReports s = { s with reports := [] } := by
  have wave : takeWave s = { s with reports := [] } := by
    rw [takeWave, loss]
    exact onReport_loss_of_hidden (s := { s with reports := [] }) h
  rw [takeReports, wave, takeWave_of_none rfl]

end Told

/-! ### A loss declared where no report waits -/

section Declared

variable {s : State} (quiet : s.reports = []) (follows : s.gate.timing.followsInput = true)
include quiet follows

theorem takeReports_declareLoss_of_overlays (new : s.gate.episode = false) {r : Session} (h : s.Overlays r) :
    takeReports (declareLoss s) = sessionEnded .videoLost r (lossFlagged s) := by
  rw [declareLoss_of_new follows new, quiet]
  refine (takeReports_loss_of_overlays (s := { lossFlagged s with reports := [.videoLoss] }) rfl h).trans (congrArg (sessionEnded .videoLost r) ?_)
  rw [← quiet]; rfl

/-- With no keypad over the input a loss begins the episode and no more. -/
theorem takeReports_declareLoss_of_hidden (h : ¬∃ r, s.Overlays r) :
    takeReports (declareLoss s) = if s.gate.episode then s else lossFlagged s := by
  cases episode : s.gate.episode with
  | true => rw [declareLoss_of_known episode, takeReports_of_none quiet]; rfl
  | false =>
    rw [declareLoss_of_new follows episode, quiet]
    refine (takeReports_loss_of_hidden (s := { lossFlagged s with reports := [.videoLoss] }) rfl h).trans ?_
    rw [← quiet]; rfl

end Declared

/-! ### A loss and a boundary -/

theorem released_setGate (s : State) (g : Gate) : (s.setGate g).released = s.released.setGate g := by
  by_cases free : s.frontEnd.scan = .noContact ∨ s.frontEnd.scan = .idle
  · rw [released_of_free free, released_of_free (by exact free)]; rfl
  · rw [released_of_touched free, released_of_touched (by exact free)]; rfl

theorem released_lossFlagged (s : State) : (lossFlagged s).released = lossFlagged s.released := by
  by_cases free : s.frontEnd.scan = .noContact ∨ s.frontEnd.scan = .idle
  · rw [released_of_free free, released_of_free (by exact free)]; rfl
  · rw [released_of_touched free, released_of_touched (by exact free)]; rfl

theorem onReport_setActive_lossFlagged (s : State) (k : SetKind) :
    onReport (lossFlagged s) (.setActive k) = lossFlagged (onReport s (.setActive k)) := by
  cases k with
  | clear =>
    by_cases closing : s.ctl.state = .closing
    · rw [onReport_closing (by exact closing), onReport_closing closing, released_lossFlagged]
    · rw [onReport_clear (by exact closing), onReport_clear closing]
  | secure =>
    unfold onReport
    dsimp only [lossFlagged, setFlag, State.setBox]
    split <;> rfl
  | lock =>
    by_cases locked : s.ctl.state = .locked
    · rw [onReport_locked (by exact locked), onReport_locked locked]; rfl
    · exact (if_neg (by exact locked)).trans (congrArg lossFlagged (if_neg locked).symm)

/-- A loss that ends no session stands beside what the boundary after it shows. -/
theorem shows_lossFlagged (s : State) (g : Gate) :
    (lossFlagged s).shows { g with episode := true } = lossFlagged (s.shows g) := by
  unfold State.shows
  dsimp only
  split
  · rfl
  · exact onReport_setActive_lossFlagged (s.setGate { g with active := g.pending }) g.pending.kind

/-! ### The end of a keypad over the input, and the boundary after it -/

/-- With the clear set active at last the session is wholly over, at its end or at the boundary after it. -/
theorem sessionEnded_shows_clear {s : State} {r : Session} {o : SessionOutcome} {g : Gate}
    (keypad : s.ctl.state = .secure → s.gate.active ≠ OverlaySet.clear)
    (pending : g.pending = OverlaySet.clear) (active : g.active = (s.gate.overlayRemoved r.presentation).active) :
    (sessionEnded o r s).shows g =
      ((sessionOver o r s).setGate { g with active := OverlaySet.clear }).released := by
  unfold sessionEnded
  by_cases slow : s.ClosesSlowly
  · have running : ¬(s.gate.timing = .follow ∧ s.gate.stopped = true) := fun h => slow.2 ⟨h, keypad slow.1⟩
    have news : g.pending ≠ g.active := by
      rw [pending, active, Gate.overlayRemoved, if_neg running]
      exact (keypad slow.1).symm
    rw [if_pos slow, shows_closing news (by rw [pending]; rfl) rfl]
    refine Eq.trans ?_ (released_setState ((sessionOver o r s).setGate { g with active := OverlaySet.clear }) .closing)
    rw [pending]; rfl
  · rw [if_neg slow]
    have past : (sessionOver o r s).released.ctl.state ≠ .closing := by
      rw [released_ctl]; dsimp only; split <;> decide
    rw [released_setGate]
    by_cases same : g.pending = g.active
    · rw [shows_same same, pending.symm.trans same]; rfl
    · rw [shows_clear same (by rw [pending]; rfl) past, pending]; rfl

/-- The session lost in the words of the statements. -/
theorem sessionOver_videoLost (s : State) (r : Session) (g : Gate) :
    ((sessionOver .videoLost r s).setGate g).released =
      ((s.setGate g).lostSession r
        (if s.ctl.state = .secure then if r.mode = .pin then s.ctl.buffer.length else s.ctl.points.length
        else 0)).released := by
  refine (released_setState _ .closing).symm.trans (congrArg State.released ?_)
  have noData : ¬(s.ctl.state = .secure ∧ SessionOutcome.videoLost = .complete) := fun h => by cases h.2
  simp only [sessionOver, State.lostSession, State.setCtl, State.setGate, Controller.erased, if_neg noData]

theorem lostSession_lossFlagged (s : State) (g : Gate) (r : Session) (n : Nat) :
    (((lossFlagged s).setGate g).lostSession r n).released =
      setFlag .pay .videoLost ((s.setGate g).lostSession r n).released := by
  by_cases free : s.frontEnd.scan = .noContact ∨ s.frontEnd.scan = .idle
  · rw [released_of_free (by exact free), released_of_free (by exact free)]; rfl
  · rw [released_of_touched (by exact free), released_of_touched (by exact free)]; rfl

end Sys2Proof.Machine
end

section
/-! PROOF. O43: an input frame start (R129–R131, R133, R135, R137). -/

namespace Sys2Proof.Machine

open Sys2Proof

/-! ### The frame before it is judged, which may be a loss (R129, R131) -/

/-- An input frame in progress that ends malformed and leaves the count at 2 with no episode in progress is a loss. -/
def Gate.LosesAtJudging (lines : List Nat) (g : Gate) : Prop :=
  g.inFrame = true ∧ lines ≠ List.replicate g.layout.h g.layout.w ∧ (g.judged lines).malformed = 2 ∧
    (g.judged lines).episode = false

theorem Gate.losesAtJudging_of_declared {lines : List Nat} {g : Gate}
    (declared : (g.inFrame && !g.layout.wellFormed lines && decide ((g.judged lines).malformed = 2)) = true)
    (new : (g.judged lines).episode = false) : g.LosesAtJudging lines := by
  rw [Bool.and_eq_true, Bool.and_eq_true, Bool.not_eq_true', decide_eq_true_eq] at declared
  exact ⟨declared.1.1, fun good => by rw [(wellFormed_iff _ _).2 good] at declared; exact absurd declared.1.2 (by decide),
    declared.2, new⟩

theorem Gate.LosesAtJudging.declared {lines : List Nat} {g : Gate} (h : g.LosesAtJudging lines) :
    (g.inFrame && !g.layout.wellFormed lines && decide ((g.judged lines).malformed = 2)) = true := by
  obtain ⟨inFrame, bad, two, -⟩ := h
  rw [inFrame, Bool.eq_false_iff.2 (mt (wellFormed_iff _ _).1 bad), two]
  rfl

theorem endInputFrame_of_loss {lines : List Nat} {s : State} (h : s.gate.LosesAtJudging lines) :
    endInputFrame lines s = declareLoss (s.setGate (s.gate.judged lines)) := by
  rw [endInputFrame, judgeFrame_eq]
  exact if_pos h.declared

/-- No loss comes of the judging but the one that the rules name. -/
theorem endInputFrame_of_noLoss {lines : List Nat} {s : State} (h : ¬s.gate.LosesAtJudging lines) :
    endInputFrame lines s = s.setGate (s.gate.judged lines) := by
  rw [endInputFrame, judgeFrame_eq]
  split
  · rename_i declared
    cases episode : (s.gate.judged lines).episode with
    | true => exact declareLoss_of_known episode
    | false => exact absurd (Gate.losesAtJudging_of_declared declared episode) h
  · rfl

/-! ### The start (R130, R133, R135, R137) -/

/-- The timing states in which an input frame start is an output frame start. -/
abbrev Gate.Follows (g : Gate) : Prop := g.timing = .follow ∨ g.timing = .toLocal ∨ g.timing = .rejoin

theorem followsInput_iff (g : Gate) : g.timing.followsInput = true ↔ g.Follows := by
  cases h : g.timing <;> simp [Timing.followsInput, Gate.Follows, h]

/-- An input frame has begun; the output has not been told. -/
def Gate.begun (g : Gate) : Gate := { g with inFrame := true, watch := .running 100 }

/-- The output has taken the start of an input frame for its own, the layout waiting with it. -/
def Gate.outputStarted (g : Gate) : Gate :=
  { g with
    timing := if g.timing = .toLocal then .localTiming else .follow
    stopped := if g.timing = .toLocal then g.stopped else false
    layout := g.waiting.getD g.layout, waiting := none }

theorem inputStart_of_follows {g : Gate} (follows : g.Follows) : g.inputStart = g.outputStarted.boundary := by
  rcases follows with h | h | h <;> rw [Gate.inputStart, h] <;> dsimp only <;>
    rw [frameStart_eq_boundary, Gate.outputStarted, h] <;> rfl

theorem inputStart_of_own {g : Gate} (own : ¬g.Follows) : g.inputStart = (g, []) := by
  unfold Gate.inputStart
  cases h : g.timing with
  | localTiming => rfl
  | toFollow => rfl
  | follow => exact absurd (.inl h) own
  | toLocal => exact absurd (.inr (.inl h)) own
  | rejoin => exact absurd (.inr (.inr h)) own

theorem sessionEnded_gate {o : SessionOutcome} {r : Session} {s : State} (started : s.ctl.state ≠ .arming) :
    (sessionEnded o r s).gate = s.gate.overlayRemoved r.presentation := by
  obtain ⟨-, -, gate, -⟩ := sessionEnded_endsSession o r s
  rw [gate, if_neg started]
  rfl

theorem sessionEnded_reports (o : SessionOutcome) (r : Session) (s : State) : (sessionEnded o r s).reports = s.reports := by
  unfold sessionEnded
  split
  · rfl
  · rw [← enterReleasing_eq_released, enterReleasing_reports]; rfl

theorem takeReports_setGate {s : State} (quiet : s.reports = []) (g : Gate) : takeReports (s.setGate g) = s.setGate g :=
  takeReports_of_none (by exact quiet)

theorem gateDo_of_still {s : State} {f : Gate → Gate × List GateReport} (h : f s.gate = (s.gate, [])) :
    gateDo f s = s := by rw [gateDo, h, List.append_nil]

section Start

variable {lines : List Nat} {s : State}

/-- The start acts on the output of the part that the judging leaves. -/
theorem takeReports_inputFrameStart {u : State} (judged : takeReports (endInputFrame lines s) = u)
    (quiet : u.reports = []) (follows : u.gate.Follows) :
    takeReports (inputFrameStart lines s) = u.shows u.gate.begun.outputStarted := by
  rw [inputFrameStart, judged]
  exact takeReports_boundary (s := u.setGate u.gate.begun) quiet (inputStart_of_follows (g := u.gate.begun) follows)

variable (quiet : s.reports = [])
include quiet

theorem takeReports_inputFrameStart_of_own (own : ¬s.gate.Follows) :
    takeReports (inputFrameStart lines s) = s.setGate (s.gate.judged lines).begun := by
  have judged : endInputFrame lines s = s.setGate (s.gate.judged lines) := by
    by_cases loss : s.gate.LosesAtJudging lines
    · rw [endInputFrame_of_loss loss]
      exact declareLoss_of_own (Bool.eq_false_iff.2 (mt (followsInput_iff _).1 own))
    · exact endInputFrame_of_noLoss loss
  have still : inputFrameStart lines s = s.setGate (s.gate.judged lines).begun := by
    rw [inputFrameStart, judged, takeReports_setGate quiet]
    exact gateDo_of_still (s := s.setGate (s.gate.judged lines).begun) (inputStart_of_own own)
  rw [still, takeReports_setGate quiet]

variable (follows : s.gate.Follows)
include follows

theorem takeReports_inputFrameStart_of_noLoss (noLoss : ¬s.gate.LosesAtJudging lines) :
    takeReports (inputFrameStart lines s) = s.shows (s.gate.judged lines).begun.outputStarted := by
  refine takeReports_inputFrameStart (u := s.setGate (s.gate.judged lines)) ?_ quiet follows
  rw [endInputFrame_of_noLoss noLoss, takeReports_setGate quiet]

theorem takeReports_inputFrameStart_of_hidden (loss : s.gate.LosesAtJudging lines) (hidden : ¬∃ r, s.Overlays r) :
    takeReports (inputFrameStart lines s) = lossFlagged (s.shows (s.gate.judged lines).begun.outputStarted) := by
  rw [← shows_lossFlagged]
  refine takeReports_inputFrameStart (u := lossFlagged (s.setGate (s.gate.judged lines))) ?_ quiet follows
  rw [endInputFrame_of_loss loss,
    takeReports_declareLoss_of_hidden (s := s.setGate (s.gate.judged lines)) quiet ((followsInput_iff s.gate).2 follows) hidden]
  exact if_neg (Bool.eq_false_iff.1 loss.2.2.2)

/-- The loss ends the session that stands over the input, and the start shows its clear set (R119, R121). -/
theorem takeReports_inputFrameStart_of_overlays (loss : s.gate.LosesAtJudging lines) {r : Session}
    (overlays : s.Overlays r) (keypad : s.ctl.state = .secure → s.gate.active ≠ OverlaySet.clear) :
    takeReports (inputFrameStart lines s) = setFlag .pay .videoLost
      ((s.setGate { (s.gate.judged lines).begun.outputStarted with
        episode := true, pending := OverlaySet.clear, active := OverlaySet.clear }).lostSession r
        (if s.ctl.state = .secure then if r.mode = .pin then s.ctl.buffer.length else s.ctl.points.length
        else 0)).released := by
  have ended : takeReports (endInputFrame lines s) =
      sessionEnded .videoLost r (lossFlagged (s.setGate (s.gate.judged lines))) := by
    rw [endInputFrame_of_loss loss]
    exact takeReports_declareLoss_of_overlays (s := s.setGate (s.gate.judged lines)) quiet ((followsInput_iff s.gate).2 follows)
      loss.2.2.2 overlays
  have started : s.ctl.state ≠ .arming := by rcases overlays.2.2 with h | h <;> rw [h] <;> decide
  have gate : (sessionEnded .videoLost r (lossFlagged (s.setGate (s.gate.judged lines)))).gate =
      (lossFlagged (s.setGate (s.gate.judged lines))).gate.overlayRemoved .overlay := by
    rw [sessionEnded_gate (by exact started), overlays.2.1]
  rw [takeReports_inputFrameStart ended ((sessionEnded_reports _ _ _).trans quiet) (by rw [gate]; exact follows), gate,
    sessionEnded_shows_clear (by exact keypad) rfl (by rw [overlays.2.1]; rfl), sessionOver_videoLost,
    lostSession_lossFlagged]
  rfl

end Start

end Sys2Proof.Machine

open Sys2Proof Sys2Proof.Machine

/-- Settles O43: what the start leaves by the judging (`takeReports_inputFrameStart_of_noLoss` and its fellows), and by
the set that it shows (`shows_presents` and its fellows). -/
theorem inputFrameStartBeginsAFrame : Obligations.InputFrameStartBeginsAFrame := by
  intro lines s live bad count still g follows o shows loss shown flagged ends
  have ends_of : ∀ {u : State}, takeReports (inputFrameStart lines s) = u → ends u := fun h =>
    (act_of_running live.1 _).trans (by rw [h])
  have started : follows → (loss → ¬shown) → ∀ {u : State}, s.shows o = u → ends (flagged u) := by
    intro follows hidden u h
    subst h
    by_cases lost : loss
    · refine ends_of ((takeReports_inputFrameStart_of_hidden live.2 follows lost ?_).trans (if_pos lost).symm)
      exact fun ⟨r, record, overlay, state⟩ => hidden lost ⟨r, record, overlay, state⟩
    · exact ends_of ((takeReports_inputFrameStart_of_noLoss live.2 follows lost).trans (if_neg lost).symm)
  refine ⟨fun own => ends_of (takeReports_inputFrameStart_of_own live.2 own),
    fun follows hidden => ?started, fun r follows lost record overlay => ?ended⟩
  case started =>
    refine ⟨fun same => started follows hidden (shows_same (g := o) same),
      fun r news secure presenting record => ⟨started follows hidden
        (shows_presents (g := o) news secure presenting record), lamp_high secure⟩,
      fun news secure state => started follows hidden (shows_secure (g := o) news secure (by rw [state]; decide)),
      fun news clear closing => ⟨started follows hidden (shows_closing (g := o) news clear closing), lamp_low clear⟩,
      fun news clear other => started follows hidden (shows_clear (g := o) news clear other),
      fun news lock locked => started follows hidden (shows_lock (g := o) news lock locked)⟩
  case ended =>
    intro cleared digits
    have whole := fun shown : s.ctl.state = .presenting ∨ s.ctl.state = .secure =>
      takeReports_inputFrameStart_of_overlays live.2 follows lost ⟨record, overlay, shown⟩
    refine ⟨fun secure lit => ends_of ?_, fun presenting => ends_of ?_⟩
    · have keypad : s.gate.active ≠ OverlaySet.clear := fun clear => by rw [clear] at lit; cases lit
      rw [whole (.inr secure) fun _ => keypad, if_pos secure]
      rfl
    · have early : ¬s.ctl.state = .secure := by rw [presenting]; decide
      rw [whole (.inl presenting) fun secure => absurd secure early, if_neg early]
      rfl
end

section
/-! PROOF. O44: the silence watch runs out (R130, R131, R133, R135, R137). -/

namespace Sys2Proof.Machine

open Sys2Proof

/-! ### A boundary and the gate -/

theorem onReport_setActive_gate (s : State) (k : SetKind) : (onReport s (.setActive k)).gate = s.gate := by
  cases k with
  | clear =>
    unfold onReport; dsimp only; split
    · rw [enterReleasing_eq_released]; exact (released_kept s).1
    · rfl
  | secure => unfold onReport; dsimp only; split <;> rfl
  | lock => unfold onReport; dsimp only; split <;> rfl

theorem shows_gate (s : State) (g : Gate) : (s.shows g).gate = { g with active := g.pending } := by
  unfold State.shows
  split
  · obtain ⟨⟩ := g
    rename_i same
    cases same
    rfl
  · exact onReport_setActive_gate _ _

theorem shows_reports {s : State} (quiet : s.reports = []) (g : Gate) : (s.shows g).reports = [] := by
  unfold State.shows
  split
  · exact quiet
  · exact (onReport_setActive_reports _ _).trans quiet

/-! ### The watch on the output (R133, R135, R137) -/

/-- The watch stands expired, the frame in progress being over and judged. -/
def Gate.silent (lines : List Nat) (g : Gate) : Gate := { g.judged lines with watch := .expired }

/-- The output has stopped in FOLLOW timing (R133, R137). -/
def Gate.halted (g : Gate) : Gate := { g with timing := .follow, stopped := true }

/-- The output runs after the input, or is about to (R133, R137). -/
abbrev Gate.Running (g : Gate) : Prop := g.timing = .follow ∧ g.stopped = false ∨ g.timing = .rejoin

theorem silenceExpiry_eq {s : State} (running : s.gate.watch.isRunning = true) (lines : List Nat) :
    silenceExpiry lines s = watchOnOutput (s.setGate (s.gate.silent lines)) := by
  rw [silenceExpiry, if_pos running, judgeFrame_eq]
  rfl

theorem watchOnOutput_of_own {s : State} (own : s.gate.timing = .localTiming ∨ s.gate.timing = .toFollow) :
    watchOnOutput s = s := by
  rcases own with h | h <;> rw [watchOnOutput, h]

theorem watchOnOutput_of_stopped {s : State} (timing : s.gate.timing = .follow) (stopped : s.gate.stopped = true) :
    watchOnOutput s = declareLoss s := by
  rw [watchOnOutput, timing]
  exact if_pos stopped

/-- A running output stops at a boundary, and the loss comes after it. -/
theorem watchOnOutput_of_running {s : State} (quiet : s.reports = []) (running : s.gate.Running) :
    watchOnOutput s = declareLoss (s.shows s.gate.halted) := by
  rcases running with ⟨timing, runs⟩ | timing
  · rw [watchOnOutput, timing]
    refine (if_neg (by rw [runs]; decide)).trans (congrArg declareLoss (takeReports_boundary quiet ?_))
    rw [Gate.halted, ← timing]
  · rw [watchOnOutput, timing]
    exact congrArg declareLoss (takeReports_boundary quiet rfl)

/-- On the way to LOCAL the loss comes first, and the first local frame after it. -/
theorem takeReports_watchOnOutput_of_toLocal {s : State} (quiet : s.reports = []) (timing : s.gate.timing = .toLocal)
    (hidden : ¬∃ r, s.Overlays r) :
    takeReports (watchOnOutput s) =
      let u := s.shows { s.gate with timing := .localTiming }.framed
      if s.gate.episode then u else lossFlagged u := by
  have follows : s.gate.timing.followsInput = true := by rw [timing]; rfl
  let left := { s.gate with timing := .localTiming }
  rw [watchOnOutput, timing]
  dsimp only
  rw [takeReports_declareLoss_of_hidden quiet follows hidden]
  by_cases known : s.gate.episode = true
  · rw [if_pos known, if_pos known]
    exact takeReports_boundary quiet (frameStart_eq_boundary left)
  · rw [if_neg known, if_neg known, ← shows_lossFlagged]
    exact takeReports_boundary (s := lossFlagged s) quiet (frameStart_eq_boundary { left with episode := true })

/-- A loss on a stopped output ends the session that stands over the input, with its clear set active at once (R121,
R141). -/
theorem takeReports_declareLoss_of_stopped {s : State} (quiet : s.reports = []) (timing : s.gate.timing = .follow)
    (stopped : s.gate.stopped = true) (new : s.gate.episode = false) {r : Session} (overlays : s.Overlays r)
    (keypad : s.ctl.state = .secure → s.gate.active ≠ OverlaySet.clear) :
    takeReports (declareLoss s) = setFlag .pay .videoLost
      ((s.setGate { s.gate with episode := true, pending := OverlaySet.clear, active := OverlaySet.clear }).lostSession r
        (if s.ctl.state = .secure then if r.mode = .pin then s.ctl.buffer.length else s.ctl.points.length
        else 0)).released := by
  have started : s.ctl.state ≠ .arming := by rcases overlays.2.2 with h | h <;> rw [h] <;> decide
  have quick : ¬(lossFlagged s).ClosesSlowly := fun slow => slow.2 ⟨⟨timing, stopped⟩, keypad slow.1⟩
  have halted : (lossFlagged s).gate.timing = .follow ∧ (lossFlagged s).gate.stopped = true := ⟨timing, stopped⟩
  have gate : (lossFlagged s).gate.overlayRemoved r.presentation =
      { s.gate with episode := true, pending := OverlaySet.clear, active := OverlaySet.clear } := by
    rw [overlays.2.1, Gate.overlayRemoved, if_pos halted]
    rfl
  have taken : sessionOver .videoLost r (lossFlagged s) =
      (sessionOver .videoLost r (lossFlagged s)).setGate ((lossFlagged s).gate.overlayRemoved r.presentation) := by
    rw [sessionOver, if_neg (show ¬(lossFlagged s).ctl.state = .arming from started)]
    rfl
  rw [takeReports_declareLoss_of_overlays quiet (by rw [timing]; rfl) new overlays, sessionEnded, if_neg quick, taken,
    gate, sessionOver_videoLost, lostSession_lossFlagged]
  rfl

end Sys2Proof.Machine

open Sys2Proof Sys2Proof.Machine

/-- Settles O44: by timing state, what the boundary shows (`shows_presents` and its fellows) and what the loss does
(`takeReports_declareLoss_of_hidden`, `takeReports_declareLoss_of_stopped`). -/
theorem silenceWatchRunsOut : Obligations.SilenceWatchRunsOut := by
  intro lines s live watch bad count still g halted o shown flagged ends running
  have ends_of : ∀ {u : State}, takeReports (watchOnOutput (s.setGate g)) = u → ends u := fun h =>
    (act_of_running live.1 _).trans (by rw [silenceExpiry_eq watch, ← h]; rfl)
  have unshown : ¬shown → ¬∃ r, (s.setGate g).Overlays r := fun hidden ⟨r, h⟩ => hidden ⟨r, h⟩
  have stops : (running ∨ s.gate.timing = .rejoin) → ∀ {u : State}, s.shows halted = u → (¬∃ r, u.Overlays r) →
      ends (flagged u) := by
    intro runs u h hidden
    subst h
    refine ends_of ?_
    rw [watchOnOutput_of_running (s := s.setGate g) live.2 runs]
    refine (takeReports_declareLoss_of_hidden (s := s.shows halted) (shows_reports live.2 _) ?_ hidden).trans ?_
    · rw [shows_gate]; rfl
    · rw [shows_gate]; rfl
  have loses : (running ∨ s.gate.timing = .rejoin) → still = false → ∀ {u v : State} {r : Session},
      s.shows halted = u → u.Overlays r → (u.ctl.state = .secure → u.gate.active ≠ OverlaySet.clear) →
      (u.setGate { halted with
        episode := true, pending := OverlaySet.clear, active := OverlaySet.clear }).lostSession r
        (if u.ctl.state = .secure then if r.mode = .pin then u.ctl.buffer.length else u.ctl.points.length
        else 0) = v → ends (setFlag .pay .videoLost v.released) := by
    intro runs new u v r h overlays keypad same
    subst h same
    refine ends_of ?_
    rw [watchOnOutput_of_running (s := s.setGate g) live.2 runs]
    have episode : (s.shows halted).gate.episode = false := by rw [shows_gate]; exact new
    refine (takeReports_declareLoss_of_stopped (shows_reports live.2 halted) (by rw [shows_gate])
      (by rw [shows_gate]) episode overlays keypad).trans ?_
    rw [shows_gate]
  refine ⟨fun own => ends_of ?own, fun timing stopped hidden => ends_of ?stopped, fun runs hidden => ?stopping,
    fun r timing stopped new presenting record overlay => ends_of ?waiting, fun r runs new record overlay => ?losing,
    fun timing hidden => ?leaving⟩
  case own =>
    rw [watchOnOutput_of_own (s := s.setGate g) own]
    exact takeReports_setGate live.2 g
  case stopped =>
    rw [watchOnOutput_of_stopped (s := s.setGate g) timing stopped]
    exact takeReports_declareLoss_of_hidden (s := s.setGate g) live.2 (congrArg Timing.followsInput timing)
      (unshown hidden)
  case waiting =>
    have early : ¬s.ctl.state = .secure := by rw [presenting]; decide
    rw [watchOnOutput_of_stopped (s := s.setGate g) timing stopped]
    refine (takeReports_declareLoss_of_stopped (s := s.setGate g) live.2 timing stopped new
      ⟨record, overlay, .inl presenting⟩ fun secure => absurd secure early).trans ?_
    rw [if_neg (show ¬(s.setGate g).ctl.state = .secure from early)]
    rfl
  case stopping =>
    refine ⟨fun same => stops runs (shows_same (g := halted) same) (unshown hidden), fun news clear closing => ?_,
      fun news clear other => stops runs (shows_clear (g := halted) news clear other) (unshown hidden)⟩
    refine stops runs (shows_closing (g := halted) news clear closing) fun ⟨r, _, _, state⟩ => ?_
    rw [released_ctl] at state
    dsimp only at state
    split at state <;> rcases state with h | h <;> cases h
  case losing =>
    intro cleared digits
    have notClear : ∀ {x : OverlaySet}, x.isSecure = true → x ≠ OverlaySet.clear := fun lit clear => by
      rw [clear] at lit; cases lit
    refine ⟨fun secure lit waits => ?_, fun presenting news waits =>
      loses runs new (shows_presents (g := halted) news waits presenting record) ⟨record, overlay, .inr rfl⟩
        (fun _ => notClear waits) rfl⟩
    have shownBy : ∀ x : OverlaySet, x.isSecure = true → s.shows halted = s.setGate { halted with active := x } →
        ends _ := fun x lit h => loses runs new h ⟨record, overlay, .inr secure⟩ (fun _ => notClear lit) (by
      rw [if_pos (by exact secure)])
    by_cases same : s.gate.pending = s.gate.active
    · exact shownBy _ lit (shows_same (g := halted) same)
    · exact shownBy _ waits (shows_secure (g := halted) same waits (by rw [secure]; decide))
  case leaving =>
    have leaves : ∀ {u : State}, s.shows o = u → ends (flagged u) := fun h => by
      subst h
      exact ends_of (takeReports_watchOnOutput_of_toLocal (s := s.setGate g) live.2 timing (unshown hidden))
    exact ⟨fun same => leaves (shows_same (g := o) same),
      fun r news secure presenting record => leaves (shows_presents (g := o) news secure presenting record),
      fun news lock locked => leaves (shows_lock (g := o) news lock locked)⟩
end

section
/-! PROOF. What the invariants of the session and of the gate look at (`State.core`), and the operations that leave it
alone. -/

namespace Sys2Proof.Machine

open Sys2Proof

/-- What the session's data and timers and the gate's sets turn on. -/
structure Core where
  state : EntryState
  record : Option Session
  buffer : List Nat
  firstKey : Timer
  interKey : Timer
  total : Timer
  lockShown : Bool
  active : OverlaySet
  pending : OverlaySet
  timing : Timing
  stopped : Bool
  inFrame : Bool
  reports : List GateReport
  silent : Bool

def State.core (s : State) : Core where
  state := s.ctl.state
  record := s.ctl.record
  buffer := s.ctl.buffer
  firstKey := s.ctl.firstKey
  interKey := s.ctl.interKey
  total := s.ctl.total
  lockShown := s.ctl.lockShown
  active := s.gate.active
  pending := s.gate.pending
  timing := s.gate.timing
  stopped := s.gate.stopped
  inFrame := s.gate.inFrame
  reports := s.reports
  silent := s.sup.silence.isRunning

theorem ite_core {s t u : State} {c : Prop} [Decidable c] (ht : t.core = s.core) (hu : u.core = s.core) :
    (if c then t else u).core = s.core := by split <;> assumption

theorem foldl_core {α : Type} {f : State → α → State} (h : ∀ s a, (f s a).core = s.core) (l : List α) (s : State) :
    (l.foldl f s).core = s.core :=
  foldl_keeps (inv := fun t => t.core = s.core) (fun t a ht => (h t a).trans ht) l rfl

theorem QueuesOnly.core {s t : State} (h : QueuesOnly s t) : t.core = s.core := by
  obtain ⟨q, n, rfl⟩ := h
  rfl

theorem TransmitOnly.core {s t : State} (h : TransmitOnly s t) : t.core = s.core := by
  simp only [State.core, h.ctl, h.gate, h.reports, h.sup]

theorem finish_core (s : State) : (finish s).core = s.core := (finish_transmit s).core

/-! ### The notice unit and the switch -/

theorem setFlag_core (d : Domain) (f : Flag) (s : State) : (setFlag d f s).core = s.core := rfl

theorem judgeSpace_core (d : Domain) (s : State) : (judgeSpace d s).core = s.core := by
  unfold judgeSpace
  refine foldl_core (fun s source => ?_) allDomains s
  unfold judgeSpaceOf
  refine foldl_core (fun s c => ?_) allClasses s
  exact ite_core rfl rfl

theorem removeFrom_core (d : Domain) (gone : Entry → Bool) (s : State) : (removeFrom d gone s).core = s.core := rfl

theorem purgeQueue_core (gone : Entry → Bool) (s : State) (d : Domain) : (purgeQueue gone s d).core = s.core :=
  ite_core rfl (judgeSpace_core d _)

theorem purge_core (gone : Entry → Bool) (s : State) : (purge gone s).core = s.core := by
  unfold purge
  exact foldl_core (purgeQueue_core _) allDomains s

theorem lockedPurge_core (s : State) : (lockedPurge s).core = s.core := by
  unfold lockedPurge
  exact purge_core _ s

theorem markHeld_core (s : State) : (markHeld s).core = s.core := (mapEntries_queuesOnly _ s).core

theorem switchCommitted_core (s : State) : (switchCommitted s).core = s.core := by
  unfold switchCommitted
  refine ((mapEntries_queuesOnly _ _).core).trans ((purge_core _ _).trans ?_)
  exact (commitNotices_queuesOnly _).core

/-! ### Leaving OPEN, the silence timer, the progress queue -/

theorem cancelStroke_core (s : State) : (cancelStroke s).core = s.core := by
  unfold cancelStroke; split <;> rfl

theorem cancelKey_core (s : State) (k : Key) : (cancelKey s k).core = s.core := ite_core rfl rfl

theorem leaveOpen_core (s : State) : (leaveOpen s).core = s.core :=
  calc (leaveOpen s).core
      = (allKeys.foldl cancelKey (cancelStroke s)).core := markHeld_core _
    _ = (cancelStroke s).core := foldl_core cancelKey_core _ _
    _ = s.core := cancelStroke_core s

theorem restartSilence_core (s : State) : (restartSilence s).core = s.core := by
  unfold restartSilence
  split
  · rename_i running
    simp only [State.core, startSilence, State.setSup, running]
    rfl
  · rfl

/-! ### Routing outside a press and an UP in SECURE -/

theorem sessionDown_core (r : Session) (q : Position) (s : State) : (sessionDown r q s).core = s.core := by
  unfold sessionDown; split <;> rfl

theorem sessionUpdate_core (r : Session) (q : Position) (s : State) : (sessionUpdate r q s).core = s.core := by
  unfold sessionUpdate
  split
  · exact ite_core rfl rfl
  · rfl

theorem routeDown_core (n : Nat) (q : Position) (s : State) : (routeDown n q s).core = s.core := by
  unfold routeDown
  split
  · rfl
  · exact sessionDown_core _ _ _
  · rfl

theorem routeUpdate_core (n : Nat) (q : Position) (m : Bool) (s : State) : (routeUpdate n q m s).core = s.core := by
  unfold routeUpdate
  split
  · exact ite_core rfl rfl
  · exact ite_core (sessionUpdate_core _ _ s) rfl
  · rfl

theorem routeRelease_core (k : Key) (s : State) : (routeRelease k s).core = s.core := ite_core rfl rfl

/-! ### The ADC and the supervisor -/

theorem requestBurst_core (s : State) : (requestBurst s).core = s.core := ite_core rfl rfl

theorem requestSupply_core (s : State) : (requestSupply s).core = s.core := ite_core rfl rfl

theorem grantNext_core (s : State) : (grantNext s).core = s.core := by
  unfold grantNext
  split
  · rfl
  · rfl
  · rfl
  · exact ite_core rfl rfl

theorem panelTick_core (s : State) : (panelTick s).core = s.core := ite_core rfl rfl

theorem endFullReset_core (s : State) : (endFullReset s).core = s.core := by
  unfold endFullReset
  exact (foldl_core (fun s d => setFlag_core d _ s) allDomains _).trans (requestSupply_core _)

/-! ### The owners of requests -/

theorem acceptPost_core (s : State) (d : Domain) (slot channel : Nat) (c : Channel) (payload : List Byte) :
    (acceptPost s d slot channel c payload).core = s.core :=
  ite_core (t := setLevel s slot _) (u := s) rfl rfl

theorem runPost_core (d : Domain) (slot : Byte) (body : List Byte) (s : State) :
    (runPost d slot body s).1.core = s.core := by
  unfold runPost
  dsimp only
  split
  · rfl
  · split
    · rfl
    · split
      · rfl
      · split
        · exact acceptPost_core ..
        · rfl
        · rfl

theorem runLoad_core (body : List Byte) (s : State) : (runLoad body s).1.core = s.core := by
  rw [runLoad_eq]; rfl

theorem runSlotBar_core (body : List Byte) (s : State) : (runSlotBar body s).1.core = s.core := by
  unfold runSlotBar
  dsimp only
  split
  · rfl
  · split
    · exact (setFlag_core _ _ _).trans (purge_core _ _)
    · rfl

theorem discardPartial_core (d : Domain) (s : State) : (discardPartial d s).core = s.core := ite_core rfl rfl

theorem linkCleared_core (d : Domain) (s : State) : (linkCleared d s).core = s.core := by
  rw [linkCleared_eq]; rfl

/-- What a command does outright, before its effect, is beside the session. -/
theorem Opening.core {s t : State} (h : Opening s t) : t.core = s.core := by
  cases h with
  | notice d => unfold noticeDone; split <;> rfl
  | linkReset d => exact linkCleared_core d s
  | _ => rfl

end Sys2Proof.Machine
end

section
/-! PROOF. Every command as a chain of turns of the session and the gate. In a turn the controller has always taken the
reports that the gate brought. -/

namespace Sys2Proof.Machine

open Sys2Proof

/-- What the fields of an ENTRY-BEGIN guarantee of a session that is accepted (R102, R103). -/
def Session.Fits (r : Session) : Prop := r.maxLength ≤ 12 ∧ ∀ x ∈ r.digitMap, x ≤ 9

/-- One turn of the session and the gate. -/
inductive Turn : State → State → Prop
  /-- Something happens beside them. -/
  | beside {s t : State} (h : t.core = s.core) : Turn s t
  /-- The controller takes the reports that wait. -/
  | takes (s : State) : Turn s (takeReports s)
  /-- A session ends, where one is live (R115, R119). -/
  | ends (o : SessionOutcome) (s : State) : Turn s (takeReports (endSession o s))
  /-- The PAY silence timer runs out (R123). -/
  | silent (s : State) (running : s.sup.silence.isRunning = true) :
      Turn s (takeReports (endSession .paySilent (disarmSilence s)))
  /-- The glass is free in RELEASING (R118). -/
  | opens (s : State) (releasing : s.ctl.state = .releasing) : Turn s (enterOpen s)
  /-- The glass is free in ARMING (R105). -/
  | arms (s : State) (armed : s.ctl.state = .arming) : Turn s (takeReports (endArming s))
  /-- An ENTRY-BEGIN is accepted (R104). -/
  | begins (r : Session) (s : State) (opened : s.ctl.state = .opened) (fits : r.Fits) : Turn s (arming r s)
  /-- A side key is pressed in SECURE (R109, R125). -/
  | presses (r : Session) (k : Key) (s : State) (secure : s.ctl.state = .secure) (record : s.ctl.record = some r) :
      Turn s (takeReports (sessionPress r k s))
  /-- The session stroke ends in SECURE (R108, R124). -/
  | lifts (r : Session) (x y : Nat) (s : State) (secure : s.ctl.state = .secure) (record : s.ctl.record = some r) :
      Turn s (takeReports (sessionUp r x y s))
  /-- A trip outside LOCKED (R126). -/
  | locks (s : State) (unlocked : s.ctl.state ≠ .locked) : Turn s (takeReports (enterLocked s))
  /-- An UNLOCK is accepted (R128). -/
  | unlocks (s : State) (locked : s.ctl.state = .locked) (shown : s.ctl.lockShown = true) : Turn s (acceptUnlock s)
  /-- A local frame ends (R134, R137). -/
  | localEnd (s : State) : Turn s (takeReports (gateDo Gate.localEnd s))
  /-- An input frame starts (R130). -/
  | inputStart (lines : List Nat) (s : State) : Turn s (takeReports (inputFrameStart lines s))
  /-- The silence watch runs out (R130). -/
  | silence (lines : List Nat) (s : State) : Turn s (takeReports (silenceExpiry lines s))

/-- A chain of turns. -/
def Turns : State → State → Prop := Relation.ReflTransGen Turn

theorem Turn.turns {s t : State} (h : Turn s t) : Turns s t := Relation.ReflTransGen.single h

namespace Turns

theorem refl {s : State} : Turns s s := Relation.ReflTransGen.refl

theorem trans {s t u : State} (h : Turns s t) (k : Turns t u) : Turns s u := Relation.ReflTransGen.trans h k

theorem tail {s t u : State} (h : Turns s t) (k : Turn t u) : Turns s u := Relation.ReflTransGen.tail h k

theorem beside {s t : State} (h : t.core = s.core) : Turns s t := (Turn.beside h).turns

/-- What has happened beside the session before a chain. -/
theorem after {s t u : State} (h : Turns t u) (before : t.core = s.core) : Turns s u := (beside before).trans h

theorem ite {s t u : State} {c : Prop} [Decidable c] (h : Turns s t) (k : Turns s u) :
    Turns s (if c then t else u) := by split <;> assumption

theorem foldl {α : Type} {f : State → α → State} (h : ∀ s a, Turns s (f s a)) (l : List α) (s : State) :
    Turns s (l.foldl f s) := by
  induction l generalizing s with
  | nil => exact .refl
  | cons a l ih => exact (h s a).trans (ih _)

theorem keeps {inv : State → Prop} (turn : ∀ s t, Turn s t → inv s → inv t) {s t : State} (h : Turns s t)
    (hs : inv s) : inv t := by
  induction h with
  | refl => exact hs
  | tail _ last ih => exact turn _ _ last ih

end Turns

/-! ### The controller and the mapper -/

theorem noContactReport_turns (s : State) : Turns s (noContactReport s) := by
  unfold noContactReport
  split
  · rename_i armed; exact (Turn.arms s armed).turns
  · rename_i releasing; exact (Turn.opens s releasing).turns
  all_goals exact .refl

theorem beginSession_turns {r : Session} {s : State} (opened : s.ctl.state = .opened) (fits : r.Fits) :
    Turns s (beginSession r s) := by
  have armed : Turns s (arming r s) := (Turn.begins r s opened fits).turns
  rw [beginSession_eq]
  exact .ite (armed.tail (.arms _ rfl)) armed

theorem endMarks_core (n : Nat) (s : State) : (endMarks n s).core = s.core := rfl

theorem routeUp_turns (n : Nat) (q : Position) (u : Bool) (x y : Nat) (s : State) : Turns s (routeUp n q u x y s) := by
  have ended : Turns s (endMarks n s) := .beside (endMarks_core n s)
  unfold routeUp
  split
  · exact .ite (.beside (endMarks_core n _)) ended
  · rename_i secure record
    exact .ite (ended.tail (.lifts _ x y (endMarks n s) secure record)) ended
  · exact ended

theorem routePress_turns (k : Key) (s : State) : Turns s (takeReports (routePress k s)) := by
  unfold routePress
  split
  · exact (Turn.takes _).turns.after rfl
  · rename_i secure record; exact (Turn.presses _ k s secure record).turns
  · exact (Turn.takes s).turns

theorem takeTouch_turns (s : State) (r : TouchReport) : Turns s (takeTouch s r) := by
  cases r with
  | start x y => exact .beside rfl
  | track x y => exact .ite (.ite (.beside (routeUpdate_core _ _ _ _)) (.beside rfl)) .refl
  | down x y => exact .ite (.beside (routeDown_core _ _ _)) .refl
  | up u => exact (routeUp_turns _ _ _ _ _ _).after rfl
  | drop => exact .beside rfl

/-! ### Scans, side keys and the supervisor -/

theorem endScan_turns (t : Touch) (k : ScanKind) (s : State) : Turns s (endScan t k s) := by
  have taken : Turns s ((s.frontEnd.apply t k).2.foldl takeTouch
      { s with frontEnd := { (s.frontEnd.apply t k).1 with progress := .none } }) :=
    (Turns.foldl takeTouch_turns _ _).after rfl
  exact .ite (taken.trans (noContactReport_turns _)) taken

theorem beginScan_turns (plate : Word16) (s : State) : Turns s (beginScan plate s) :=
  .ite (.beside (requestBurst_core _)) ((endScan_turns _ _ _).after rfl)

theorem scanExpiry_turns (plate : Word16) (s : State) : Turns s (scanExpiry plate s) :=
  .ite (.ite ((beginScan_turns plate _).after rfl) (.beside rfl)) .refl

theorem burstDone_turns (codes : Burst) (s : State) : Turns s (burstDone codes s) :=
  .ite ((endScan_turns _ _ _).after (grantNext_core _)) .refl

theorem debounceExpiry_turns (k : Key) (s : State) : Turns s (takeReports (debounceExpiry k s)) := by
  unfold debounceExpiry
  dsimp only
  split
  · split
    · exact (routePress_turns k _).after rfl
    · exact (Turn.takes _).turns.after (routeRelease_core k _)
  · exact (Turn.takes s).turns

theorem tamperTrip_turns (s : State) : Turns s (tamperTrip s) := by
  unfold tamperTrip
  split
  · exact .refl
  · rename_i unlocked; exact (Turn.locks s unlocked).turns

theorem judgeTamper_turns (i : TamperInput) (s : State) : Turns s (judgeTamper i s) := by
  have trips : ∀ s, Turns s (trip i s) := fun s =>
    .ite (.beside rfl) ((tamperTrip_turns _).after rfl)
  exact .ite ((trips _).after rfl) (.beside rfl)

theorem filterExpiry_turns (i : TamperInput) (s : State) : Turns s (filterExpiry i s) :=
  .ite ((judgeTamper_turns _ _).after rfl) .refl

theorem lowSupply_turns (s : State) : Turns s (lowSupply s) := (Turn.ends _ _).turns.after (setFlag_core _ _ s)

theorem supplyMove_turns (old new : SupplyLevel) (s : State) : Turns s (supplyMove old new s) := by
  have warned : Turns s (warnSupply s) := .beside rfl
  unfold supplyMove
  split
  · exact warned
  · exact lowSupply_turns s
  · exact warned.trans (lowSupply_turns _)
  · exact .refl

theorem supplyDone_turns (code : AdcCode) (s : State) : Turns s (supplyDone code s) :=
  .ite ((supplyMove_turns _ _ _).after (grantNext_core s)) .refl

/-! ### The owners of requests -/

theorem startFrontEnd_turns (s : State) : Turns s (startFrontEnd s) :=
  .ite ((noContactReport_turns _).after rfl) .refl

theorem commitNormals_core (old : Policy) (s : State) : (commitNormals old (commitGate s)).core = s.core := rfl

theorem acceptCommit_turns (s : State) : Turns s (acceptCommit s) := by
  have committed : Turns s (if s.generation = 0 then startFrontEnd (commitSwitch s.active (commitTables s))
      else commitSwitch s.active (commitTables s)) := by
    rw [show commitSwitch s.active (commitTables s) = switchCommitted s from rfl]
    have switched : Turns s (switchCommitted s) := .beside (switchCommitted_core s)
    exact .ite (switched.trans (startFrontEnd_turns _)) switched
  unfold acceptCommit
  dsimp only
  generalize (if s.generation = 0 then startFrontEnd (commitSwitch s.active (commitTables s))
    else commitSwitch s.active (commitTables s)) = u at committed ⊢
  exact ((committed.trans (.beside (commitNormals_core _ u))).trans (judgeTamper_turns _ _)).trans (judgeTamper_turns _ _)

theorem runCommit_turns (body : List Byte) (s : State) : Turns s (runCommit body s).1 := by
  unfold runCommit
  split
  · exact .refl
  · split
    · exact .refl
    · split
      · exact .refl
      · exact acceptCommit_turns s

theorem openChecks_opened_of_none {s : State} (h : openChecks s = none) : s.ctl.state = .opened := by
  unfold openChecks at h
  split at h
  · cases h
  · split at h
    · cases h
    · split at h
      · cases h
      · rename_i opened; exact not_not.1 opened

theorem sessionOf_fits {body : List Byte} {p : Policy} {r : Session} (asked : sessionOf body = some r)
    (passed : layoutChecks p r = none) : r.Fits := by
  have length : r.maxLength ≤ 12 := by
    unfold sessionOf at asked
    dsimp only at asked
    split at asked
    · cases asked
    · cases asked; exact Nat.zero_le _
    · split at asked
      · cases asked
        dsimp only
        rw [clamp_eq_min (by decide)]
        split <;> omega
      · cases asked
  refine ⟨length, fun x hx => ?_⟩
  cases mode : r.mode with
  | calibrate =>
    unfold sessionOf at asked
    dsimp only at asked
    split at asked
    · cases asked
    · cases asked; cases hx
    · split at asked
      · cases asked; cases mode
      · cases asked
  | pin =>
    rw [layoutChecks_pin mode] at passed
    split at passed
    · cases passed
    · split at passed
      · cases passed
      · rename_i digits
        exact Nat.le_of_lt_succ (List.mem_range.1 ((not_not.1 digits).mem_iff.1 hx))

theorem runEntryBegin_turns (body : List Byte) (s : State) : Turns s (runEntryBegin body s).1 := by
  unfold runEntryBegin
  split
  · exact .refl
  · rename_i checked
    split
    · exact .refl
    · rename_i asked
      split
      · exact .refl
      · rename_i passed
        exact beginSession_turns (openChecks_opened_of_none checked) (sessionOf_fits asked passed)

theorem runEntryAbort_turns (s : State) : Turns s (runEntryAbort s).1 := by
  unfold runEntryAbort
  split
  · exact (Turn.ends _ s).turns
  · exact .refl

theorem runUnlock_turns (s : State) : Turns s (runUnlock s).1 := by
  unfold runUnlock
  split
  · exact .refl
  · rename_i locked
    split
    · exact .refl
    · split
      · exact .refl
      · rename_i shown
        exact (Turn.unlocks s (not_not.1 locked) (by simpa using shown)).turns

theorem ownerOf_turns (d : Domain) (f : Frame) (s : State) : Turns s (ownerOf d f s).1 := by
  unfold ownerOf
  split
  · exact .refl
  · exact .beside (runPost_core _ _ _ _)
  · rw [runStatus_owner]; exact .refl
  · exact .beside rfl
  · exact .beside rfl
  · exact .beside (runLoad_core _ _)
  · exact .beside rfl
  · exact runCommit_turns _ _
  · exact runEntryBegin_turns _ _
  · exact runEntryAbort_turns _
  · exact .beside (runSlotBar_core _ _)
  · exact runUnlock_turns _
  · exact .refl

/-! ### The ports -/

theorem validFrame_turns (d : Domain) (f : Frame) (s : State) : Turns s (validFrame d f (ownerOf d f) s) := by
  have told : Turns s (if d = .pay then restartSilence s else s) := .ite (.beside (restartSilence_core s)) .refl
  unfold validFrame
  dsimp only
  generalize (if d = .pay then restartSilence s else s) = s1 at told ⊢
  split
  · exact told.trans (.beside (setFlag_core _ _ _))
  · refine told.trans ?_
    unfold execute
    split
    · exact .beside rfl
    · exact (ownerOf_turns d f s1).trans (.beside rfl)

theorem wholeFrame_turns (d : Domain) (f : Frame) (s : State) : Turns s (wholeFrame d f (ownerOf d f) s) :=
  .ite .refl ((validFrame_turns d f _).after rfl)

theorem receive_turns (d : Domain) (r : Receiver × RxEvent) (s : State) : Turns s (receive d r s) := by
  refine .ite .refl (Turns.after (t := setReceiver d r.1 s) ?_ rfl)
  unfold rxEvent
  split
  · exact .refl
  · exact .beside rfl
  · exact validFrame_turns _ _ _

theorem linkReset_turns (d : Domain) (s : State) : Turns s (takeReports (linkReset d s)) := by
  have cleared : Turns s (linkCleared d s) := .beside (linkCleared_core d s)
  by_cases pay : d = .pay
  · subst pay
    rw [linkReset_pay]
    exact cleared.trans ((Turn.ends _ _).turns.after (restartSilence_core _))
  · rw [show linkReset d s = linkCleared d s from if_neg pay]
    exact cleared.tail (.takes _)

/-! ### The answers of all commands -/

/-- A state that a command can leave from `s`. -/
def TurnsTo (s t : State) : Prop := t = fullReset s ∨ Turns s t

theorem TurnsTo.of_act {s t : State} {f : State → State} (h : act s f = .next t) (hf : Turns s (takeReports (f s))) :
    TurnsTo s t := by
  cases reset : s.inReset with
  | true => rw [act_of_reset reset] at h; cases h; exact .inr .refl
  | false =>
    rw [act_of_running reset] at h
    cases h
    exact .inr (hf.trans (.beside (finish_core _)))

theorem TurnsTo.of_turns {s t : State} {f : State → State} (h : act s f = .next t) (hf : Turns s (f s)) :
    TurnsTo s t := .of_act h (hf.tail (.takes _))

theorem TurnsTo.of_actPin {s t : State} {pin f : State → State} (h : actPin s pin f = .next t)
    (hp : (pin s).core = s.core) (hf : (f s).core = s.core) : TurnsTo s t := by
  cases reset : s.inReset with
  | true =>
    rw [actPin_of_reset reset] at h
    cases h
    exact .inr (.beside hp)
  | false =>
    rw [actPin_of_running reset] at h
    exact .of_turns h (.beside hf)

theorem TurnsTo.of_complete {s t : State} {d : Domain} {src : Source} {f : State → State}
    (h : act s (complete d src f) = .next t) (hf : (f (txOver d s)).core = s.core) : TurnsTo s t :=
  .of_turns h (.ite (.beside hf) .refl)

theorem timerExpiry_turns (t : Timer) (o : SessionOutcome) (s : State) : Turns s (takeReports (timerExpiry t o s)) := by
  unfold timerExpiry
  split
  · exact (Turn.ends o s).turns
  · exact (Turn.takes s).turns

theorem execReplyComplete_turnsTo {s t : State} {d : Domain} (h : execReplyComplete d s = .next t) : TurnsTo s t := by
  rcases replyDone_txOver d s with resets | left
  · cases sending : s.isSending d .reply with
    | false => exact .of_turns h (by rw [complete, sending]; exact .refl)
    | true =>
      cases reset : s.inReset with
      | true => rw [execReplyComplete, act_of_reset reset] at h; cases h; exact .inr .refl
      | false =>
        have whole : complete d .reply (replyDone d) s = fullReset s := (if_pos sending).trans resets
        rw [execReplyComplete, act_of_running reset, whole, takeReports_of_none rfl, finish_fullReset] at h
        cases h
        exact .inl rfl
  · exact .of_complete h (by rw [left]; rfl)

theorem exec_turnsTo {c : Instr} {s t : State} (h : exec c s = .next t) : TurnsTo s t := by
  cases hc : requestOf c with
  | some df =>
    rw [exec_request hc] at h
    exact .of_turns h (wholeFrame_turns _ _ s)
  | none =>
    cases c with
    | lineError d =>
      change execLineError d s = _ at h
      exact .of_turns h (.ite .refl (.beside (discardPartial_core d s)))
    | serialBreak d =>
      change execSerialBreak d s = _ at h
      refine .of_act h ?_
      split
      · exact (Turn.takes s).turns
      · exact linkReset_turns d s
    | breakEnd d =>
      change execBreakEnd d s = _ at h
      exact .of_turns h (.ite (.beside rfl) .refl)
    | interByteTimeout d => exact .of_turns h (.ite (.beside (discardPartial_core d s)) .refl)
    | lengthOver512 d kind tag slot length => exact .of_turns h (receive_turns d _ s)
    | frameCheckFail d kind tag slot body check => exact .of_turns h (receive_turns d _ s)
    | readyAsserted d =>
      change execReadyAsserted d s = _ at h
      exact .of_actPin (s := s) h rfl rfl
    | readyDeasserted d =>
      change execReadyDeasserted d s = _ at h
      exact .of_actPin (s := s) h rfl rfl
    | stallTimerExpiry d => exact .of_turns h (.ite (.beside rfl) .refl)
    | replyComplete d => exact execReplyComplete_turnsTo h
    | entryEndComplete => exact .of_complete h rfl
    | entryProgressComplete => exact .of_complete h rfl
    | inputComplete => exact .of_complete h rfl
    | noticeComplete d => exact .of_complete h (by unfold noticeDone; split <;> rfl)
    | deliveryComplete d => exact .of_complete h (judgeSpace_core d _)
    | fullReset => cases h; exact .inl rfl
    | fullResetEnd =>
      cases h
      split
      · exact .inr (.beside ((finish_core _).trans (endFullReset_core s)))
      · exact .inr .refl
    | refillTimerExpiry => exact .of_turns h (.ite (.beside rfl) .refl)
    | scanTimerExpiry plate => exact .of_turns h (scanExpiry_turns plate s)
    | burstEnd codes => exact .of_turns h (burstDone_turns codes s)
    | supplyRequestTimerExpiry => exact .of_turns h (.ite (.beside (requestSupply_core s)) .refl)
    | supplyConversionEnd code => exact .of_turns h (supplyDone_turns code s)
    | keyInputChange k l =>
      change execKeyInputChange k l s = _ at h
      exact .of_actPin (s := s) h rfl rfl
    | keyDebounceExpiry k => exact .of_act h (debounceExpiry_turns k s)
    | totalTimerExpiry => exact .of_act h (timerExpiry_turns _ _ s)
    | firstKeyTimerExpiry => exact .of_act h (timerExpiry_turns _ _ s)
    | interKeyTimerExpiry => exact .of_act h (timerExpiry_turns _ _ s)
    | inputFrameStart lines => exact .of_act h (Turn.inputStart lines s).turns
    | silenceWatchExpiry lines => exact .of_act h (Turn.silence lines s).turns
    | localFrameEnd => exact .of_act h (Turn.localEnd s).turns
    | tamperPinChange i l =>
      change execTamperPinChange i l s = _ at h
      exact .of_actPin (s := s) h rfl rfl
    | tamperFilterExpiry i => exact .of_turns h (filterExpiry_turns i s)
    | paySilenceExpiry =>
      refine .of_act h ?_
      split
      · rename_i running; exact (Turn.silent s running).turns
      · exact (Turn.takes s).turns
    | repeatTimerExpiry d =>
      change execRepeatTimerExpiry d s = _ at h
      exact .of_turns h (.beside rfl)
    | receivedByte d b =>
      change execReceivedByte d b s = _ at h
      exact .of_turns h (receive_turns d _ s)
    | _ => cases hc

/-- An invariant that every turn keeps and the full reset, every step keeps. -/
theorem keptByStep_of_turns {inv : State → Prop} (turn : ∀ s t, Turn s t → inv s → inv t)
    (reset : ∀ s, inv (fullReset s)) : KeptByStep inv := by
  intro s t hs h
  unfold step at h
  split at h
  · cases h; exact turn _ _ (.beside (panelTick_core s)) hs
  · rename_i rest _
    rcases exec_turnsTo h with rfl | turns
    · exact reset _
    · exact turns.keeps turn (turn s _ (.beside rfl) hs)

end Sys2Proof.Machine
end

section
/-! PROOF. O51: the digits, the record and the timers stay with the session (R110, R114, R156). Each of the two invariants
is kept by every turn; neither needs the other. -/

namespace Sys2Proof.Machine

open Sys2Proof

/-- Both invariants of the session, each for itself, are kept from `s` to `t`. -/
structure SessionKept (s t : State) : Prop where
  buffer : s.BufferInv → t.BufferInv
  session : s.SessionInv → t.SessionInv

namespace SessionKept

theorem refl (s : State) : SessionKept s s := ⟨id, id⟩

theorem trans {s t u : State} (h : SessionKept s t) (k : SessionKept t u) : SessionKept s u :=
  ⟨k.buffer ∘ h.buffer, k.session ∘ h.session⟩

theorem ite {s t u : State} {c : Prop} [Decidable c] (h : SessionKept s t) (k : SessionKept s u) :
    SessionKept s (if c then t else u) := by split <;> assumption

theorem foldl {α : Type} {f : State → α → State} (h : ∀ s a, SessionKept s (f s a)) (l : List α) (s : State) :
    SessionKept s (l.foldl f s) := by
  induction l generalizing s with
  | nil => exact .refl s
  | cons a l ih => exact (h s a).trans (ih _)

theorem of_core {s t : State} (h : t.core = s.core) : SessionKept s t := by
  simp only [State.core, Core.mk.injEq] at h
  obtain ⟨state, record, buffer, firstKey, interKey, total, -, -, -, -, -, -, -, silent⟩ := h
  constructor
  · simp only [State.BufferInv, state, record, buffer]; exact id
  · simp only [State.SessionInv, State.inSession, state, record, firstKey, interKey, total, silent]; exact id

/-- The gate, its reports and the frames have no part in either invariant. -/
theorem of_same {s t : State} (ctl : t.ctl = s.ctl) (sup : t.sup = s.sup) : SessionKept s t := by
  constructor
  · simp only [State.BufferInv, ctl]; exact id
  · simp only [State.SessionInv, State.inSession, ctl, sup]; exact id

end SessionKept

/-! ### The parts of the invariants -/

theorem notInSession {s : State} {x : EntryState} (h : s.ctl.state = x)
    (out : x ≠ .arming ∧ x ≠ .presenting ∧ x ≠ .secure) : ¬s.inSession := by
  obtain ⟨arming, presenting, secure⟩ := out
  rintro (k | k | k)
  · exact arming (h.symm.trans k)
  · exact presenting (h.symm.trans k)
  · exact secure (h.symm.trans k)

/-- The session's record and its digits allow no more than twelve digits. -/
theorem State.BufferInv.of_empty {s t : State} (h : s.BufferInv) (buffer : t.ctl.buffer = [])
    (record : t.ctl.record = s.ctl.record ∨ t.ctl.record = none) : t.BufferInv := by
  refine ⟨fun _ => buffer, by rw [buffer]; simp, ?_⟩
  obtain ⟨-, -, limits⟩ := h
  cases now : t.ctl.record with
  | none => exact buffer
  | some r =>
    rw [show s.ctl.record = some r from (record.resolve_right (by rw [now]; simp)).symm.trans now] at limits
    obtain ⟨-, most, digits⟩ := limits
    exact ⟨by rw [buffer]; exact Nat.zero_le _, most, digits⟩

/-- No session's timer runs, and none is recorded. -/
structure State.Timeless (s : State) : Prop where
  record : s.ctl.record = none
  firstKey : s.ctl.firstKey.isRunning = false
  interKey : s.ctl.interKey.isRunning = false
  total : s.ctl.total.isRunning = false
  silent : s.sup.silence.isRunning = false

theorem State.SessionInv.timeless {s : State} (h : s.SessionInv) (out : ¬s.inSession) : s.Timeless := by
  obtain ⟨record, total, silent, -, keys⟩ := h
  obtain ⟨firstKey, interKey⟩ := keys fun secure => out (.inr (.inr secure))
  exact ⟨by simpa using mt record.1 out, firstKey, interKey, by simpa using mt total.1 out,
    by simpa using mt silent.1 out⟩

theorem State.Timeless.sessionInv {s : State} (h : s.Timeless) (out : ¬s.inSession) : s.SessionInv := by
  obtain ⟨record, firstKey, interKey, total, silent⟩ := h
  have notSecure : s.ctl.state ≠ .secure := fun secure => out (.inr (.inr secure))
  refine ⟨by simpa [record] using out, by simpa [total] using out, by simpa [silent] using out,
    fun secure => absurd secure notSecure, fun _ => ⟨firstKey, interKey⟩⟩

/-! ### Entering RELEASING and OPEN -/

theorem released_notSession (s : State) : ¬s.released.inSession := by
  rw [State.inSession, released_ctl]
  dsimp only
  split <;> decide

theorem State.Timeless.released {s : State} (h : s.Timeless) : s.released.Timeless := by
  obtain ⟨record, firstKey, interKey, total, silent⟩ := h
  by_cases free : s.frontEnd.scan = .noContact ∨ s.frontEnd.scan = .idle
  · rw [released_of_free free]; exact ⟨record, firstKey, interKey, total, rfl⟩
  · rw [released_of_touched free]; exact ⟨record, firstKey, interKey, total, silent⟩

theorem released_sessionKept {s : State} (out : ¬s.inSession) : SessionKept s s.released where
  buffer h := h.of_empty (by rw [released_ctl]; exact h.1 fun secure => out (.inr (.inr secure)))
    (by rw [released_ctl]; exact .inl rfl)
  session h := (h.timeless out).released.sessionInv (released_notSession s)

theorem enterReleasing_sessionKept {s : State} (out : ¬s.inSession) : SessionKept s (enterReleasing s) := by
  rw [enterReleasing_eq_released]; exact released_sessionKept out

theorem enterOpen_sessionKept {s : State} (releasing : s.ctl.state = .releasing) : SessionKept s (enterOpen s) := by
  have out : ¬s.inSession := notInSession releasing (by decide)
  rw [enterOpen_eq_openedAgain]
  refine ⟨fun h => h.of_empty (h.1 (by rw [releasing]; decide)) (.inl rfl), fun h => ?_⟩
  obtain ⟨record, firstKey, interKey, total, -⟩ := h.timeless out
  exact State.Timeless.sessionInv ⟨record, firstKey, interKey, total, rfl⟩ (notInSession (x := .opened) rfl (by decide))

/-! ### The end of a session -/

theorem endSession_ends {s : State} {r : Session} (session : s.inSession) (record : s.ctl.record = some r)
    (o : SessionOutcome) :
    (endSession o s).ctl.buffer = [] ∧ (endSession o s).ctl.record = none ∧ (endSession o s).SessionInv := by
  have early : ∀ h : s.ctl.state = .arming ∨ s.ctl.state = .presenting, (endSession o s).ctl.buffer = [] ∧
      (endSession o s).ctl.record = none ∧ (endSession o s).SessionInv := fun h => by
    rw [endSession_of_early h record, endEarly_eq r h]
    generalize (s.reports ++ if s.ctl.state = .arming then [] else (s.gate.write OverlaySet.clear).2) = l
    have timeless : State.Timeless { sessionOver o r s with reports := l } := ⟨rfl, rfl, rfl, rfl, rfl⟩
    exact ⟨by rw [released_ctl]; rfl, by rw [released_ctl]; rfl, timeless.released.sessionInv (released_notSession _)⟩
  rcases session with h | h | h
  · exact early (.inl h)
  · exact early (.inr h)
  · rw [endSession_of_secure h record, endSecure_eq r h]
    exact ⟨rfl, rfl, State.Timeless.sessionInv ⟨rfl, rfl, rfl, rfl, rfl⟩ (notInSession (x := .closing) rfl (by decide))⟩

theorem endSession_sessionKept (o : SessionOutcome) (s : State) : SessionKept s (endSession o s) := by
  by_cases session : s.inSession
  · cases record : s.ctl.record with
    | none => rw [endSession, record]; exact .refl s
    | some r =>
      obtain ⟨buffer, none, timers⟩ := endSession_ends session record o
      exact ⟨fun h => h.of_empty buffer (.inr none), fun _ => timers⟩
  · rw [endSession_of_noSession session]; exact .refl s

/-! ### The reports of the gate -/

theorem enterSecure_sessionKept {r : Session} {s : State} (presenting : s.ctl.state = .presenting) :
    SessionKept s (enterSecure r s) where
  buffer h := h.of_empty (h.1 (by rw [presenting]; decide)) (.inl rfl)
  session h := by
    obtain ⟨record, total, silent, -, keys⟩ := h
    obtain ⟨-, interKey⟩ := keys (by rw [presenting]; decide)
    have before : s.inSession := .inr (.inl presenting)
    have after : (enterSecure r s).inSession := .inr (.inr rfl)
    refine ⟨iff_of_true (record.2 before) after, iff_of_true (total.2 before) after, iff_of_true (silent.2 before) after,
      fun _ => ?_, fun other => absurd rfl other⟩
    change true = !s.ctl.interKey.isRunning
    rw [interKey]
    rfl

theorem onReport_sessionKept (s : State) (g : GateReport) : SessionKept s (onReport s g) := by
  unfold onReport
  split
  · split
    · rename_i presenting _; exact enterSecure_sessionKept presenting
    · exact .refl s
  · split
    · rename_i closing; exact enterReleasing_sessionKept (notInSession closing (by decide))
    · exact .refl s
  · exact .ite ⟨id, id⟩ (.refl s)
  · split
    · exact .refl s
    · exact .ite (endSession_sessionKept _ s) (.refl s)

theorem takeWave_sessionKept (s : State) : SessionKept s (takeWave s) :=
  (SessionKept.of_same (s := s) (t := { s with reports := [] }) rfl rfl).trans (.foldl onReport_sessionKept _ _)

theorem takeReports_sessionKept (s : State) : SessionKept s (takeReports s) :=
  (takeWave_sessionKept s).trans (takeWave_sessionKept _)

/-- What has happened once the controller has taken its reports. -/
theorem SessionKept.taken {s t : State} (h : SessionKept s t) : SessionKept s (takeReports t) :=
  h.trans (takeReports_sessionKept t)

/-! ### The beginning of a session -/

theorem endArming_sessionKept {s : State} (armed : s.ctl.state = .arming) : SessionKept s (endArming s) := by
  cases record : s.ctl.record with
  | none => rw [endArming, record]; exact .refl s
  | some r =>
    have presenting : (endArming s).ctl = { s.ctl with state := .presenting } := by
      rw [endArming, record]; dsimp only; split <;> rfl
    have sup : (endArming s).sup = s.sup := by
      rw [endArming, record]; dsimp only; split <;> rfl
    have before : s.inSession := .inl armed
    have after : (endArming s).inSession := .inr (.inl (by rw [presenting]))
    refine ⟨fun h => h.of_empty (by rw [presenting]; exact h.1 (by rw [armed]; decide)) (.inl (by rw [presenting])),
      fun ⟨record, total, silent, _, keys⟩ => ⟨?_, ?_, ?_, ?_, ?_⟩⟩
    · rw [presenting]; exact iff_of_true (record.2 before) after
    · rw [presenting]; exact iff_of_true (total.2 before) after
    · rw [sup]; exact iff_of_true (silent.2 before) after
    · rw [presenting]; intro secure; cases secure
    · rw [presenting]; exact fun _ => keys (by rw [armed]; decide)

theorem arming_core (r : Session) (s : State) : (arming r s).core =
    { s.core with
      state := .arming, record := some r, buffer := [], total := .running (1000 * r.total), silent := true } := by
  have left := leaveOpen_core (s.setCtl (recordedCtl r s.ctl))
  simp only [State.core, Core.mk.injEq] at left
  obtain ⟨-, record, buffer, firstKey, interKey, -, lockShown, active, pending, timing, stopped, inFrame, reports, -⟩ :=
    left
  simp only [State.core, arming, startSilence, State.setSup, State.setCtl, armingCtl, Core.mk.injEq]
  exact ⟨trivial, record, buffer, firstKey, interKey, trivial, lockShown, active, pending, timing, stopped, inFrame,
    reports, rfl⟩

theorem arming_sessionKept {r : Session} {s : State} (opened : s.ctl.state = .opened) (fits : r.Fits) :
    SessionKept s (arming r s) := by
  have armed := arming_core r s
  simp only [State.core, Core.mk.injEq] at armed
  obtain ⟨state, record, buffer, firstKey, interKey, total, -, -, -, -, -, -, -, silent⟩ := armed
  obtain ⟨most, digits⟩ := fits
  refine ⟨fun _ => ⟨fun _ => buffer, by rw [buffer]; simp, ?_⟩, fun ⟨_, _, _, _, keys⟩ => ?_⟩
  · rw [record, buffer]; exact ⟨Nat.zero_le _, most, digits⟩
  · have inside : (arming r s).inSession := .inl state
    refine ⟨iff_of_true (by rw [record]; rfl) inside, iff_of_true (by rw [total]; rfl) inside,
      iff_of_true silent inside, fun secure => ?_, fun _ => ?_⟩
    · rw [state] at secure; cases secure
    · rw [firstKey, interKey]; exact keys (by rw [opened]; decide)

/-! ### The key actions (R111, R112) -/

section Secure

variable {r : Session} {s : State} (secure : s.ctl.state = .secure)
include secure

theorem acceptedKey_sessionKept : SessionKept s (acceptedKey r s) where
  buffer h := h
  session h := by
    obtain ⟨record, total, silent, -, -⟩ := h
    exact ⟨record, total, silent, fun _ => rfl, fun other => absurd secure other⟩

variable (record : s.ctl.record = some r)
include record

/-- A buffer of the session's digits. -/
theorem setBuffer_sessionKept {ds : List Nat} (fits : s.BufferInv → ds.length ≤ r.maxLength ∧ ∀ x ∈ ds, x ≤ 9) :
    SessionKept s (setBuffer ds s) := by
  have ctl : (setBuffer ds s).ctl = { s.ctl with buffer := ds } := by unfold setBuffer; dsimp only; split <;> rfl
  have sup : (setBuffer ds s).sup = s.sup := by unfold setBuffer; dsimp only; split <;> rfl
  refine ⟨fun h => ?_, fun h => ?_⟩
  · obtain ⟨short, small⟩ := fits h
    obtain ⟨-, -, limits⟩ := h
    rw [record] at limits
    simp only [State.BufferInv, ctl, record]
    exact ⟨fun other => absurd secure other, small, short, limits.2⟩
  · simpa only [State.SessionInv, State.inSession, ctl, sup] using h

/-- An accepted key that changes the buffer and tells PAY (R111, R112). -/
theorem accepted_sessionKept {ds : List Nat} (n : Nat)
    (fits : s.BufferInv → ds.length ≤ r.maxLength ∧ ∀ x ∈ ds, x ≤ 9) :
    SessionKept s (pushProgress .accepted n (setBuffer ds (acceptedKey r s))) :=
  ((acceptedKey_sessionKept secure).trans
    (setBuffer_sessionKept (s := acceptedKey r s) secure record fits)).trans (.of_same rfl rfl)

theorem pressDigit_sessionKept {digit : Nat} (small : s.BufferInv → digit ≤ 9) :
    SessionKept s (pressDigit r digit s) := by
  unfold pressDigit
  dsimp only
  split
  · rename_i room
    have taken := accepted_sessionKept secure record (ds := s.ctl.buffer ++ [digit]) (s.ctl.buffer.length + 1) fun h => by
      refine ⟨by rw [List.length_append]; exact room, fun x hx => ?_⟩
      rcases List.mem_append.1 hx with old | new
      · exact h.2.1 x old
      · rw [List.mem_singleton.1 new]; exact small h
    exact .ite (taken.trans (endSession_sessionKept _ _)) taken
  · exact .of_same rfl rfl

theorem pressBack_sessionKept : SessionKept s (pressBack r s) := by
  refine .ite (.of_same rfl rfl) (accepted_sessionKept secure record _ fun h => ?_)
  obtain ⟨-, small, limits⟩ := h
  rw [record] at limits
  refine ⟨?_, fun x hx => small x (List.dropLast_subset _ hx)⟩
  rw [List.length_dropLast]
  exact (Nat.sub_le _ _).trans limits.1

theorem pressClear_sessionKept : SessionKept s (pressClear r s) :=
  accepted_sessionKept secure record 0 fun _ => ⟨Nat.zero_le _, fun x hx => by cases hx⟩

omit record in
theorem pressEnter_sessionKept : SessionKept s (pressEnter r s) :=
  .ite ((acceptedKey_sessionKept secure).trans (endSession_sessionKept _ _)) (.of_same rfl rfl)

theorem pressCell_sessionKept (i : Nat) : SessionKept s (pressCell r i s) := by
  unfold pressCell
  split
  · exact .refl s
  · split
    · refine pressDigit_sessionKept secure record fun h => ?_
      obtain ⟨-, -, limits⟩ := h
      rw [record] at limits
      obtain ⟨-, -, digits⟩ := limits
      rw [List.getD_eq_getElem?_getD]
      cases at' : r.digitMap[s.active.digitRank i]? with
      | none => exact Nat.zero_le _
      | some x => exact digits x (List.mem_of_getElem? at')
    · exact pressBack_sessionKept secure record
    · exact pressClear_sessionKept secure record
    · exact pressEnter_sessionKept secure
    · exact endSession_sessionKept _ s
    all_goals exact .refl s

theorem sessionPress_sessionKept (k : Key) : SessionKept s (sessionPress r k s) := by
  unfold sessionPress
  split
  · exact endSession_sessionKept _ s
  · exact pressClear_sessionKept secure record
  · exact pressEnter_sessionKept secure
  all_goals exact .refl s

theorem sessionUp_sessionKept (x y : Nat) : SessionKept s (sessionUp r x y s) := by
  unfold sessionUp
  split
  · have added : SessionKept s ((acceptedKey r s).setCtl
        { (acceptedKey r s).ctl with points := s.ctl.points ++ [(x, y)] }) :=
      (acceptedKey_sessionKept secure).trans (.of_core rfl)
    exact .ite (added.trans (endSession_sessionKept _ _)) added
  · refine SessionKept.trans (t := match s.ctl.candidate with
      | .cell i => pressCell r i s
      | .none => s
      | .void => s) ?_ (.of_core rfl)
    split
    · exact pressCell_sessionKept secure record _
    · exact .refl s
    · exact .refl s

end Secure

/-! ### LOCKED -/

theorem lockWritten_erased (s : State) : (lockWritten s).ctl = s.ctl.erased ∧ (lockWritten s).sup = s.sup := by
  have placed : (placeTamperEnd s).ctl = s.ctl ∧ (placeTamperEnd s).sup = s.sup := by
    unfold placeTamperEnd
    split
    · exact ⟨rfl, rfl⟩
    · split <;> exact ⟨rfl, rfl⟩
  exact ⟨congrArg Controller.erased placed.1, placed.2⟩

/-- A trip leaves nothing of a session. -/
theorem enterLocked_sessionKept (s : State) : SessionKept s (enterLocked s) := by
  have erased : (lockWritten s).ctl.record = none ∧ (lockWritten s).ctl.buffer = [] ∧
      (lockWritten s).ctl.firstKey = .stopped ∧ (lockWritten s).ctl.interKey = .stopped ∧
      (lockWritten s).ctl.total = .stopped := by
    rw [(lockWritten_erased s).1]; exact ⟨rfl, rfl, rfl, rfl, rfl⟩
  have left : (if s.ctl.state = .opened then leaveOpen (lockWritten s) else lockWritten s).core =
      (lockWritten s).core := ite_core (leaveOpen_core _) rfl
  rw [enterLocked_eq]
  dsimp only
  generalize (if s.ctl.state = .opened then leaveOpen (lockWritten s) else lockWritten s) = v at left ⊢
  simp only [State.core, Core.mk.injEq] at left
  obtain ⟨-, record, buffer, firstKey, interKey, total, -⟩ := left
  obtain ⟨noRecord, noBuffer, noFirst, noInter, noTotal⟩ := erased
  refine SessionKept.trans ?_ (.of_core (lockedPurge_core _))
  refine ⟨fun h => h.of_empty (buffer.trans noBuffer) (.inr (record.trans noRecord)), fun _ => ?_⟩
  refine State.Timeless.sessionInv ⟨record.trans noRecord, ?_, ?_, ?_, rfl⟩ (notInSession (x := .locked) rfl (by decide))
  · exact congrArg Timer.isRunning (firstKey.trans noFirst)
  · exact congrArg Timer.isRunning (interKey.trans noInter)
  · exact congrArg Timer.isRunning (total.trans noTotal)

theorem acceptUnlock_sessionKept {s : State} (locked : s.ctl.state = .locked) : SessionKept s (acceptUnlock s) := by
  have out : ¬s.inSession := notInSession locked (by decide)
  have cleared : SessionKept s ((askFollow (writeSet OverlaySet.clear (clearLatches s))).setCtl
      { s.ctl with lockShown := false }) := ⟨id, id⟩
  exact (cleared.trans (enterReleasing_sessionKept (by exact out))).taken

/-! ### The video path -/

theorem gateDo_sessionKept (f : Gate → Gate × List GateReport) (s : State) : SessionKept s (gateDo f s) :=
  .of_same rfl rfl

theorem setGate_sessionKept (s : State) (g : Gate) : SessionKept s (s.setGate g) := .of_same rfl rfl

theorem declareLoss_sessionKept (s : State) : SessionKept s (declareLoss s) := .ite (.of_same rfl rfl) (.refl s)

theorem judgeFrame_sessionKept (lines : List Nat) (s : State) : SessionKept s (judgeFrame lines s) :=
  .ite (.of_same rfl rfl) (.refl s)

theorem inputFrameStart_sessionKept (lines : List Nat) (s : State) : SessionKept s (inputFrameStart lines s) := by
  have judged : SessionKept s (takeReports (endInputFrame lines s)) :=
    (SessionKept.ite ((judgeFrame_sessionKept lines s).trans (declareLoss_sessionKept _))
      (judgeFrame_sessionKept lines s)).taken
  exact judged.trans (.of_same rfl rfl)

theorem watchOnOutput_sessionKept (s : State) : SessionKept s (watchOnOutput s) := by
  have stops : ∀ f, SessionKept s (declareLoss (takeReports (gateDo f s))) := fun f =>
    (gateDo_sessionKept f s).taken.trans (declareLoss_sessionKept _)
  unfold watchOnOutput
  split
  · exact .ite (declareLoss_sessionKept s) (stops _)
  · exact (declareLoss_sessionKept s).taken.trans (.of_same rfl rfl)
  · exact .refl s
  · exact .refl s
  · exact stops _

theorem silenceExpiry_sessionKept (lines : List Nat) (s : State) : SessionKept s (silenceExpiry lines s) :=
  .ite (((setGate_sessionKept s _).trans (judgeFrame_sessionKept lines _)).trans
    (watchOnOutput_sessionKept _)) (.refl s)

/-! ### The PAY silence timer's end (R123) -/

/-- Where the PAY silence timer runs a session is live, and its end disarms the timer. -/
theorem paySilent_sessionKept {s : State} (running : s.sup.silence.isRunning = true) :
    SessionKept s (endSession .paySilent (disarmSilence s)) := by
  refine ⟨(endSession_sessionKept .paySilent (disarmSilence s)).buffer, fun h => ?_⟩
  have session : s.inSession := h.2.2.1.1 running
  obtain ⟨r, record⟩ := Option.isSome_iff_exists.1 (h.1.2 session)
  exact (endSession_ends (s := disarmSilence s) session record .paySilent).2.2

/-! ### Every turn -/

theorem Turn.sessionKept {s t : State} (h : Turn s t) : SessionKept s t := by
  cases h with
  | beside h => exact .of_core h
  | takes => exact takeReports_sessionKept s
  | ends o => exact (endSession_sessionKept o s).taken
  | silent _ running => exact (paySilent_sessionKept running).taken
  | opens _ releasing => exact enterOpen_sessionKept releasing
  | arms _ armed => exact (endArming_sessionKept armed).taken
  | begins r _ opened fits => exact arming_sessionKept opened fits
  | presses r k _ secure record => exact (sessionPress_sessionKept secure record k).taken
  | lifts r x y _ secure record => exact (sessionUp_sessionKept secure record x y).taken
  | locks => exact (enterLocked_sessionKept s).taken
  | unlocks _ locked => exact acceptUnlock_sessionKept locked
  | localEnd => exact (gateDo_sessionKept _ s).taken
  | inputStart lines => exact (inputFrameStart_sessionKept lines s).taken
  | silence lines => exact (silenceExpiry_sessionKept lines s).taken

end Sys2Proof.Machine

open Sys2Proof Sys2Proof.Machine

/-- Settles O51: both invariants are kept by every turn (`Turn.sessionKept`), and every command is a chain of turns
(`keptByStep_of_turns`). -/
theorem dataAndTimersStayWithTheSession : Obligations.DataAndTimersStayWithTheSession :=
  ⟨keptByStep_of_turns (fun _ _ h => h.sessionKept.buffer) fun _ => reset_bufferInv,
    keptByStep_of_turns (fun _ _ h => h.sessionKept.session) fun _ => reset_sessionInv⟩
end

section
/-! PROOF. The gate's sets in each state of the controller (chapter 6, the table of states), and what keeps them so where
no report waits. -/

namespace Sys2Proof.Machine

open Sys2Proof

/-! ### The table of states -/

/-- The kinds of the active and the pending set, the lock shown mark and the presence of a record, by state. -/
def TableRow (x : EntryState) (active pending : SetKind) (shown live : Bool) : Prop :=
  match x with
  | .opened => active ≠ .secure ∧ pending = .clear ∧ live = false
  | .arming => active ≠ .secure ∧ pending = .clear ∧ live = true
  | .presenting => active ≠ .secure ∧ pending = .secure ∧ live = true
  | .secure => active = .secure ∧ pending = .secure ∧ live = true
  | .closing => active = .secure ∧ pending = .clear ∧ live = false
  | .releasing => active ≠ .secure ∧ pending = .clear ∧ live = false
  | .locked => (shown = true → active = .lock) ∧ pending = .lock ∧ live = false

/-- The controller and the gate stand in a row of the table. -/
def State.InTable (s : State) : Prop :=
  TableRow s.ctl.state s.gate.active.kind s.gate.pending.kind s.ctl.lockShown s.ctl.record.isSome

/-- While the output follows the input, a frame is in progress (R133, R135). -/
def Gate.FrameRuns (g : Gate) : Prop :=
  (g.timing = .follow ∧ g.stopped = false ∨ g.timing = .toLocal) → g.inFrame = true

theorem isSecure_iff (o : OverlaySet) : o.isSecure = true ↔ o.kind = .secure := decide_eq_true_iff

theorem tableRow_iff (x : EntryState) (active pending : SetKind) (shown live : Bool) :
    TableRow x active pending shown live ↔
      (x ≠ .locked → (active = .secure ↔ x = .secure ∨ x = .closing)) ∧
      (pending = .secure ↔ x = .presenting ∨ x = .secure) ∧ (x = .locked → pending = .lock) ∧
      (x = .locked → shown = true → active = .lock) ∧ (x ≠ .locked → pending ≠ .lock) ∧
      (live = true ↔ x = .arming ∨ x = .presenting ∨ x = .secure) := by
  unfold TableRow
  cases x <;> cases pending <;> simp

theorem gateInv_iff (s : State) : s.GateInv ↔ s.reports = [] ∧ s.InTable ∧ s.gate.FrameRuns := by
  simp only [State.GateInv, State.InTable, tableRow_iff, Gate.FrameRuns, isSecure_iff, State.inSession]
  constructor
  · rintro ⟨quiet, active, pending, lock, shown, frame, other, live⟩
    exact ⟨quiet, ⟨active, pending, lock, shown, other, live⟩, frame⟩
  · rintro ⟨quiet, ⟨active, pending, lock, shown, other, live⟩, frame⟩
    exact ⟨quiet, active, pending, lock, shown, frame, other, live⟩

theorem presentation_of_clear {o : OverlaySet} (h : o.kind = .clear) : o.presentation = .none := by
  unfold OverlaySet.kind at h; split at h <;> first | assumption | cases h

theorem presentation_of_lock {o : OverlaySet} (h : o.kind = .lock) : o.presentation = .lock := by
  unfold OverlaySet.kind at h; split at h <;> first | assumption | cases h

theorem ne_clear_of_secure {o : OverlaySet} (h : o.kind = .secure) : o ≠ OverlaySet.clear := by
  rintro rfl; cases h

/-- No report of the gate waits, and the table of states holds. -/
structure State.Settled (s : State) : Prop where
  quiet : s.reports = []
  row : s.InTable

theorem State.Settled.of_core {s t : State} (h : s.Settled) (same : t.core = s.core) : t.Settled := by
  simp only [State.core, Core.mk.injEq] at same
  obtain ⟨state, record, -, -, -, -, lockShown, active, pending, -, -, -, reports, -⟩ := same
  refine ⟨reports.trans h.quiet, ?_⟩
  rw [State.InTable, state, record, lockShown, active, pending]
  exact h.row

/-- The gate's timing and its watch have no part in the table. -/
theorem State.Settled.of_same {s t : State} (h : s.Settled) (ctl : t.ctl = s.ctl) (reports : t.reports = s.reports)
    (active : t.gate.active = s.gate.active) (pending : t.gate.pending = s.gate.pending) : t.Settled := by
  refine ⟨reports.trans h.quiet, ?_⟩
  rw [State.InTable, ctl, active, pending]
  exact h.row

theorem State.InTable.record {s : State} (h : s.InTable) (session : s.inSession) : ∃ r, s.ctl.record = some r := by
  unfold State.InTable at h
  refine Option.isSome_iff_exists.1 ?_
  rcases session with k | k | k <;> rw [k] at h <;> exact h.2.2

/-! ### Entering RELEASING and OPEN -/

theorem released_settled {s : State} (quiet : s.reports = []) (active : s.gate.active.kind ≠ .secure)
    (pending : s.gate.pending.kind = .clear) (record : s.ctl.record = none) : s.released.Settled := by
  by_cases free : s.frontEnd.scan = .noContact ∨ s.frontEnd.scan = .idle
  · rw [released_of_free free]; exact ⟨quiet, active, pending, congrArg Option.isSome record⟩
  · rw [released_of_touched free]; exact ⟨quiet, active, pending, congrArg Option.isSome record⟩

theorem enterOpen_settled {s : State} (h : s.Settled) (releasing : s.ctl.state = .releasing) :
    (enterOpen s).Settled := by
  rw [enterOpen_eq_openedAgain]
  have row := h.row
  rw [State.InTable, releasing] at row
  exact ⟨h.quiet, row⟩

/-! ### A boundary -/

/-- What a boundary shows is in the table with the controller that has its report (R140). -/
theorem State.Settled.shows {s : State} (h : s.Settled) {g : Gate} (pending : g.pending = s.gate.pending)
    (active : g.active = s.gate.active) : (s.shows g).Settled := by
  obtain ⟨quiet, row⟩ := h
  refine ⟨shows_reports quiet g, ?_⟩
  rw [State.InTable, ← active, ← pending] at row
  by_cases news : g.pending = g.active
  · rw [shows_same news]; exact row
  · cases state : s.ctl.state <;> rw [state] at row
    case presenting =>
      obtain ⟨-, secure, live⟩ := row
      obtain ⟨r, record⟩ := Option.isSome_iff_exists.1 live
      rw [shows_presents news ((isSecure_iff _).2 secure) state record]
      exact ⟨secure, secure, live⟩
    case secure =>
      obtain ⟨-, secure, live⟩ := row
      rw [shows_secure news ((isSecure_iff _).2 secure) (by rw [state]; decide), State.InTable]
      dsimp only
      rw [state]
      exact ⟨secure, secure, live⟩
    case closing =>
      obtain ⟨-, clear, live⟩ := row
      rw [shows_closing news (presentation_of_clear clear) state]
      exact (released_settled (by exact quiet) (by rw [clear]; decide) clear (by simpa using live)).row
    case locked =>
      obtain ⟨-, lock, live⟩ := row
      rw [shows_lock news (presentation_of_lock lock) state, State.InTable]
      dsimp only
      rw [state]
      exact ⟨fun _ => lock, lock, live⟩
    all_goals
      obtain ⟨-, clear, live⟩ := row
      rw [shows_clear news (presentation_of_clear clear) (by rw [state]; decide), State.InTable]
      dsimp only
      rw [state]
      exact ⟨by rw [clear]; decide, clear, live⟩

/-! ### The end of a session -/

theorem overlayRemoved_frameRuns {g : Gate} (h : g.FrameRuns) (p : SessionPresentation) :
    (g.overlayRemoved p).FrameRuns := by
  unfold Gate.FrameRuns Gate.overlayRemoved at *
  dsimp only at *
  intro runs
  refine h ?_
  revert runs
  cases g.timing <;> cases p <;> simp

/-- The end of a session leaves the table's CLOSING, RELEASING or OPEN (R115, R118, R119, R141). -/
theorem sessionEnded_settled {s : State} {r : Session} (h : s.Settled) (session : s.inSession) (o : SessionOutcome) :
    (sessionEnded o r s).Settled := by
  obtain ⟨quiet, row⟩ := h
  have removed : ∀ {k : SetKind}, k ≠ .secure → s.gate.active.kind = k →
      (s.gate.overlayRemoved r.presentation).active.kind ≠ .secure := fun {k} dark active => by
    rw [Gate.overlayRemoved]
    dsimp only
    split
    · decide
    · rw [active]; exact dark
  rw [State.InTable] at row
  rcases session with state | state | state <;> rw [state] at row
  · have quick : ¬s.ClosesSlowly := fun slow => absurd (state.symm.trans slow.1) (by decide)
    have gate : (sessionOver o r s).gate = s.gate := if_pos state
    obtain ⟨dark, clear, -⟩ := row
    rw [sessionEnded, if_neg quick]
    exact released_settled quiet (by rw [gate]; exact dark) (by rw [gate]; exact clear) rfl
  · have quick : ¬s.ClosesSlowly := fun slow => absurd (state.symm.trans slow.1) (by decide)
    have gate : (sessionOver o r s).gate = s.gate.overlayRemoved r.presentation := if_neg (by rw [state]; decide)
    obtain ⟨dark, -⟩ := row
    rw [sessionEnded, if_neg quick]
    exact released_settled quiet (by rw [gate]; exact removed dark rfl) (by rw [gate]; rfl) rfl
  · have gate : (sessionOver o r s).gate = s.gate.overlayRemoved r.presentation := if_neg (by rw [state]; decide)
    obtain ⟨lit, -⟩ := row
    have news : s.gate.active ≠ OverlaySet.clear := ne_clear_of_secure lit
    rw [sessionEnded]
    by_cases halted : s.gate.timing = .follow ∧ s.gate.stopped = true
    · rw [if_neg fun slow => slow.2 ⟨halted, news⟩]
      refine released_settled quiet ?_ (by rw [gate]; rfl) rfl
      rw [gate, Gate.overlayRemoved, if_pos halted]
      exact fun k => by cases k
    · rw [if_pos ⟨state, fun k => halted k.1⟩]
      refine ⟨quiet, ?_, ?_, rfl⟩
      · change (sessionOver o r s).gate.active.kind = .secure
        rw [gate, Gate.overlayRemoved, if_neg halted]
        exact lit
      · change (sessionOver o r s).gate.pending.kind = .clear
        rw [gate]; rfl

theorem sessionEnded_gate_of (o : SessionOutcome) (r : Session) (s : State) :
    (sessionEnded o r s).gate = if s.ctl.state = .arming then s.gate else s.gate.overlayRemoved r.presentation := by
  obtain ⟨-, -, gate, -⟩ := sessionEnded_endsSession o r s
  exact gate

theorem sessionEnded_frameRuns {s : State} (h : s.gate.FrameRuns) (o : SessionOutcome) (r : Session) :
    (sessionEnded o r s).gate.FrameRuns := by
  rw [sessionEnded_gate_of]
  split
  · exact h
  · exact overlayRemoved_frameRuns h _

theorem State.Settled.ends {s : State} (h : s.Settled) (o : SessionOutcome) :
    (takeReports (endSession o s)).Settled ∧ (s.gate.FrameRuns → (takeReports (endSession o s)).gate.FrameRuns) := by
  by_cases session : s.inSession
  · obtain ⟨r, record⟩ := h.row.record session
    rw [takeReports_endSession h.quiet session record]
    exact ⟨sessionEnded_settled h session o, fun frame => sessionEnded_frameRuns frame o r⟩
  · rw [endSession_of_noSession session, takeReports_of_none h.quiet]
    exact ⟨h, id⟩

/-! ### A loss -/

theorem lossFlagged_settled {s : State} (h : s.Settled) : (lossFlagged s).Settled := h.of_core rfl

/-- A loss leaves the table in order, and the output as it runs. -/
theorem State.Settled.loses {s : State} (h : s.Settled) :
    (takeReports (declareLoss s)).Settled ∧ (takeReports (declareLoss s)).gate.timing = s.gate.timing ∧
      (takeReports (declareLoss s)).gate.stopped = s.gate.stopped := by
  by_cases follows : s.gate.timing.followsInput = true
  · by_cases shown : ∃ r, s.Overlays r
    · by_cases known : s.gate.episode = true
      · rw [declareLoss_of_known known, takeReports_of_none h.quiet]; exact ⟨h, rfl, rfl⟩
      · obtain ⟨r, overlays⟩ := shown
        have started : s.ctl.state ≠ .arming := by rcases overlays.2.2 with k | k <;> rw [k] <;> decide
        rw [takeReports_declareLoss_of_overlays h.quiet follows (by simpa using known) overlays]
        refine ⟨sessionEnded_settled (lossFlagged_settled h) overlays.inSession _, ?_⟩
        rw [sessionEnded_gate (by exact started), overlays.2.1]
        exact ⟨rfl, rfl⟩
    · rw [takeReports_declareLoss_of_hidden h.quiet follows shown]
      split
      · exact ⟨h, rfl, rfl⟩
      · exact ⟨lossFlagged_settled h, rfl, rfl⟩
  · rw [declareLoss_of_own (Bool.eq_false_iff.2 follows), takeReports_of_none h.quiet]
    exact ⟨h, rfl, rfl⟩

end Sys2Proof.Machine
end

section
/-! PROOF. O52: every turn keeps the gate's sets with the controller and the lamp with them (R106, R117, R127, R133, R135,
R139–R141, R145). -/

namespace Sys2Proof.Machine

open Sys2Proof

/-- The gate as `State.GateInv` has it: no report waits, the table of states holds, and an output that follows the input
has a frame in progress. -/
structure State.InOrder (s : State) : Prop where
  settled : s.Settled
  frame : s.gate.FrameRuns

theorem inOrder_iff (s : State) : s.InOrder ↔ s.GateInv := by
  rw [gateInv_iff]
  exact ⟨fun ⟨⟨quiet, row⟩, frame⟩ => ⟨quiet, row, frame⟩, fun ⟨quiet, row, frame⟩ => ⟨⟨quiet, row⟩, frame⟩⟩

theorem State.InOrder.of_core {s t : State} (h : s.InOrder) (same : t.core = s.core) : t.InOrder := by
  refine ⟨h.settled.of_core same, ?_⟩
  simp only [State.core, Core.mk.injEq] at same
  obtain ⟨-, -, -, -, -, -, -, -, -, timing, stopped, inFrame, -, -⟩ := same
  have frame := h.frame
  unfold Gate.FrameRuns at frame ⊢
  rwa [timing, stopped, inFrame]

theorem State.InOrder.taken {s : State} (h : s.InOrder) : (takeReports s).InOrder := by
  rwa [takeReports_of_none h.settled.quiet]

theorem State.InOrder.ends {s : State} (h : s.InOrder) (o : SessionOutcome) :
    (takeReports (endSession o s)).InOrder :=
  ⟨(h.settled.ends o).1, (h.settled.ends o).2 h.frame⟩

/-! ### The beginning of a session -/

theorem arming_inOrder {r : Session} {s : State} (h : s.InOrder) (opened : s.ctl.state = .opened) :
    (arming r s).InOrder := by
  have armed := arming_core r s
  simp only [State.core, Core.mk.injEq] at armed
  obtain ⟨state, record, -, -, -, -, -, active, pending, timing, stopped, inFrame, reports, -⟩ := armed
  obtain ⟨⟨quiet, row⟩, frame⟩ := h
  rw [State.InTable, opened] at row
  obtain ⟨dark, clear, -⟩ := row
  refine ⟨⟨reports.trans quiet, ?_⟩, ?_⟩
  · rw [State.InTable, state, record, active, pending]
    exact ⟨dark, clear, rfl⟩
  · unfold Gate.FrameRuns at frame ⊢
    rwa [timing, stopped, inFrame]

theorem lockAsked_frameRuns {g : Gate} (h : g.FrameRuns) (o : OverlaySet) : (g.lockAsked o).FrameRuns := by
  unfold Gate.FrameRuns Gate.lockAsked at *
  dsimp only at *
  intro runs
  by_cases follows : g.timing = .toLocal ∨ g.timing = .follow ∧ g.stopped = false
  · exact h follows.symm
  · rw [if_neg follows] at runs
    rcases runs with ⟨k, -⟩ | k <;> cases k

/-- The end of ARMING: PRESENTING, SECURE on an idle output, or the end of an OVERLAY session during a loss (R105, R106,
R132). -/
theorem endArming_inOrder {s : State} (h : s.InOrder) (armed : s.ctl.state = .arming) :
    (takeReports (endArming s)).InOrder := by
  obtain ⟨⟨quiet, row⟩, frame⟩ := h
  obtain ⟨r, record⟩ := row.record (.inl armed)
  rw [State.InTable, armed] at row
  obtain ⟨dark, -, live⟩ := row
  have secure : (secureSet s.active r).kind = .secure := (isSecure_iff _).1 (secureSet_isSecure s.active r)
  cases presentation : r.presentation with
  | overlay =>
    obtain ⟨ctl, gate⟩ := presents_overlay presentation s
    have presenting : (s.presents r).Settled := by
      refine ⟨quiet, ?_⟩
      rw [State.InTable, ctl, gate]
      exact ⟨dark, secure, live⟩
    have runs : (s.presents r).gate.FrameRuns := by rw [gate]; exact frame
    rw [endArming_overlay record presentation, quiet, List.nil_append]
    by_cases episode : s.gate.episode = true
    · rw [if_pos episode, takeReports_loss_of_overlays (s := { s.presents r with reports := [.videoLoss] }) (r := r) rfl
        ⟨(congrArg Controller.record ctl).trans record, presentation, .inl (congrArg Controller.state ctl)⟩]
      have same : ({ s.presents r with reports := [] } : State) = s.presents r := by rw [← quiet]; rfl
      rw [same]
      exact ⟨sessionEnded_settled presenting (.inr (.inl (congrArg Controller.state ctl))) _,
        sessionEnded_frameRuns runs _ r⟩
    · rw [if_neg episode, takeReports_of_none rfl]
      exact ⟨⟨rfl, presenting.row⟩, runs⟩
  | full =>
    rw [takeReports_full quiet record presentation]
    refine ⟨⟨quiet, ?_⟩, lockAsked_frameRuns frame _⟩
    have new : ¬s.gate.active = secureSet s.active r := fun same => dark (by rw [same]; exact secure)
    rw [fullPresented, State.InTable]
    by_cases idle : s.gate.Idle
    · simp only [if_pos (And.intro idle new)]
      refine ⟨?_, secure, live⟩
      rw [Gate.lockAsked]
      dsimp only
      rw [if_pos idle]
      exact secure
    · have later : ¬(s.gate.Idle ∧ ¬s.gate.active = secureSet s.active r) := fun k => idle k.1
      simp only [if_neg later]
      refine ⟨?_, secure, live⟩
      rw [Gate.lockAsked]
      dsimp only
      rw [if_neg idle]
      exact dark

/-! ### Key actions in SECURE (R111, R112, R121) -/

/-- The controller is in SECURE with session `r`, and at most a loss is reported: a set written during a loss episode
brings the loss again (R132). -/
structure InSecure (r : Session) (s : State) : Prop where
  state : s.ctl.state = .secure
  record : s.ctl.record = some r
  active : s.gate.active.kind = .secure
  pending : s.gate.pending.kind = .secure
  frame : s.gate.FrameRuns
  reports : s.reports = [] ∨ s.reports = [.videoLoss]

theorem InSecure.of_inOrder {r : Session} {s : State} (h : s.InOrder) (secure : s.ctl.state = .secure)
    (record : s.ctl.record = some r) : InSecure r s := by
  obtain ⟨⟨quiet, row⟩, frame⟩ := h
  rw [State.InTable, secure] at row
  exact ⟨secure, record, row.1, row.2.1, frame, .inl quiet⟩

theorem muted_of_quiet {s : State} (quiet : s.reports = []) : ({ s with reports := [] } : State) = s := by rw [← quiet]

theorem takeReports_loss_of_noRecord {s : State} {l : List GateReport} (none : s.ctl.record = none)
    (reports : s.reports = .videoLoss :: l) : takeReports s = takeReports { s with reports := l } := by
  have hidden : onReport { s with reports := [] } .videoLoss = { s with reports := [] } :=
    onReport_loss_of_hidden fun ⟨r, record, _⟩ => by
      rw [show ({ s with reports := [] } : State).ctl.record = Option.none from none] at record
      cases record
  have wave : takeWave s = takeWave { s with reports := l } := by
    rw [takeWave, reports, List.foldl_cons, hidden]
    rfl
  exact congrArg takeWave wave

namespace InSecure

variable {r : Session} {s : State} (h : InSecure r s)
include h

theorem silenced : State.InOrder { s with reports := [] } := by
  refine ⟨⟨rfl, ?_⟩, h.frame⟩
  rw [State.InTable]
  dsimp only
  rw [h.state, h.record]
  exact ⟨h.active, h.pending, rfl⟩

/-- A loss reported before the end of the session finds no session any more. -/
theorem ends (o : SessionOutcome) : (takeReports (endSession o s)).InOrder := by
  have quiet := h.silenced.ends o
  rcases h.reports with none | loss
  · rwa [muted_of_quiet none] at quiet
  · have state : s.ctl.state = .secure := h.state
    have ended : endSession o s = { endSession o { s with reports := [] } with
        reports := .videoLoss :: (endSession o { s with reports := [] }).reports } := by
      rw [endSession_of_secure state h.record, endSession_of_secure (by exact state) (by exact h.record),
        endSecure_eq r state, endSecure_eq r (by exact state), loss]
      rfl
    have none := (endSession_ends (s := { s with reports := [] }) (.inr (.inr state)) h.record o).2.1
    rw [ended, takeReports_loss_of_noRecord (by exact none) rfl]
    exact quiet

theorem takes : (takeReports s).InOrder := by
  rcases h.reports with none | loss
  · rw [takeReports_of_none none, ← muted_of_quiet none]
    exact h.silenced
  · by_cases shown : ∃ r, s.Overlays r
    · obtain ⟨r', overlays⟩ := shown
      rw [takeReports_loss_of_overlays loss overlays]
      exact ⟨sessionEnded_settled h.silenced.settled overlays.inSession _,
        sessionEnded_frameRuns (s := { s with reports := [] }) h.frame _ _⟩
    · rw [takeReports_loss_of_hidden loss shown]
      exact h.silenced

end InSecure

/-- What a press leaves: SECURE as it was, or the session ended from there. -/
def KeyTaken (r : Session) (s : State) : Prop := InSecure r s ∨ ∃ o t, InSecure r t ∧ s = endSession o t

theorem KeyTaken.taken {r : Session} {s : State} (h : KeyTaken r s) : (takeReports s).InOrder := by
  rcases h with inside | ⟨o, t, inside, rfl⟩
  · exact inside.takes
  · exact inside.ends o

/-- No candidate stands after the session's end, so clearing it comes to nothing there. -/
theorem KeyTaken.uncandidated {r : Session} {s : State} (h : KeyTaken r s) :
    KeyTaken r (s.setCtl { s.ctl with candidate := .none }) := by
  rcases h with ⟨state, record, active, pending, frame, reports⟩ | ⟨o, t, inside, rfl⟩
  · exact .inl ⟨state, record, active, pending, frame, reports⟩
  · refine .inr ⟨o, t, inside, ?_⟩
    rw [endSession_of_secure inside.state inside.record, endSecure_eq r inside.state]
    rfl

theorem write_of_shown {o : OverlaySet} (shown : o.presentation ≠ .none) (g : Gate) :
    g.write o = ({ g with pending := o }, if g.episode ∧ o.presentation = .overlay then [.videoLoss] else []) := by
  unfold Gate.write
  dsimp only
  rw [if_neg fun k => shown k.2.2.1]
  split <;> rfl

section Presses

variable {r : Session} {s : State} (h : s.InOrder) (secure : s.ctl.state = .secure) (record : s.ctl.record = some r)
include h secure record

/-- A buffer of another length is shown in a new secure set, which may bring a loss (R112, R132). -/
theorem accepted_inSecure (ds : List Nat) (n : Nat) :
    InSecure r (pushProgress .accepted n (setBuffer ds (acceptedKey r s))) := by
  obtain ⟨state, _, active, pending, frame, _⟩ := InSecure.of_inOrder h secure record
  have quiet := h.settled.quiet
  unfold setBuffer
  dsimp only
  split
  · exact ⟨state, record, active, pending, frame, .inl quiet⟩
  · rw [writeSet, gateDo, write_of_shown (fun none => by
      rw [OverlaySet.kind, show s.gate.pending.presentation = .none from none] at pending
      cases pending)]
    refine ⟨state, record, active, pending, frame, ?_⟩
    change s.reports ++ (if _ then _ else _) = [] ∨ s.reports ++ (if _ then _ else _) = _
    rw [quiet]
    split
    · exact .inr rfl
    · exact .inl rfl

theorem acceptedKey_inSecure : InSecure r (acceptedKey r s) := by
  obtain ⟨state, _, active, pending, frame, reports⟩ := InSecure.of_inOrder h secure record
  exact ⟨state, record, active, pending, frame, reports⟩

/-- Progress told to PAY, and nothing more. -/
theorem pushProgress_keyTaken (e : ProgressEvent) (n : Nat) : KeyTaken r (pushProgress e n s) := by
  obtain ⟨state, _, active, pending, frame, reports⟩ := InSecure.of_inOrder h secure record
  exact .inl ⟨state, record, active, pending, frame, reports⟩

theorem endSession_keyTaken (o : SessionOutcome) : KeyTaken r (endSession o s) :=
  .inr ⟨o, s, .of_inOrder h secure record, rfl⟩

theorem unchanged_keyTaken : KeyTaken r s := .inl (.of_inOrder h secure record)

theorem pressDigit_keyTaken (digit : Nat) : KeyTaken r (pressDigit r digit s) := by
  have taken := accepted_inSecure h secure record (s.ctl.buffer ++ [digit]) (s.ctl.buffer.length + 1)
  unfold pressDigit
  dsimp only
  split
  · split
    · exact .inr ⟨_, _, taken, rfl⟩
    · exact .inl taken
  · exact pushProgress_keyTaken h secure record _ _

theorem pressBack_keyTaken : KeyTaken r (pressBack r s) := by
  unfold pressBack
  dsimp only
  split
  · exact pushProgress_keyTaken h secure record _ _
  · exact .inl (accepted_inSecure h secure record _ _)

theorem pressClear_keyTaken : KeyTaken r (pressClear r s) := .inl (accepted_inSecure h secure record _ _)

theorem pressEnter_keyTaken : KeyTaken r (pressEnter r s) := by
  unfold pressEnter
  dsimp only
  split
  · exact .inr ⟨_, _, acceptedKey_inSecure h secure record, rfl⟩
  · exact pushProgress_keyTaken h secure record _ _

theorem pressCell_keyTaken (i : Nat) : KeyTaken r (pressCell r i s) := by
  unfold pressCell
  split
  · exact unchanged_keyTaken h secure record
  · split
    · exact pressDigit_keyTaken h secure record _
    · exact pressBack_keyTaken h secure record
    · exact pressClear_keyTaken h secure record
    · exact pressEnter_keyTaken h secure record
    · exact endSession_keyTaken h secure record _
    all_goals exact unchanged_keyTaken h secure record

theorem sessionPress_keyTaken (k : Key) : KeyTaken r (sessionPress r k s) := by
  unfold sessionPress
  split
  · exact endSession_keyTaken h secure record _
  · exact pressClear_keyTaken h secure record
  · exact pressEnter_keyTaken h secure record
  all_goals exact unchanged_keyTaken h secure record

theorem sessionUp_keyTaken (x y : Nat) : KeyTaken r (sessionUp r x y s) := by
  obtain ⟨state, _, active, pending, frame, reports⟩ := acceptedKey_inSecure h secure record
  have added : InSecure r ((acceptedKey r s).setCtl { (acceptedKey r s).ctl with points := s.ctl.points ++ [(x, y)] }) :=
    ⟨state, record, active, pending, frame, reports⟩
  unfold sessionUp
  split
  · unfold addPoint
    dsimp only
    split
    · exact .inr ⟨_, _, added, rfl⟩
    · exact .inl added
  · refine KeyTaken.uncandidated ?_
    split
    · exact pressCell_keyTaken h secure record _
    · exact unchanged_keyTaken h secure record
    · exact unchanged_keyTaken h secure record

end Presses

/-! ### LOCKED (R126–R128) -/

theorem enterLocked_inOrder {s : State} (h : s.InOrder) : (takeReports (enterLocked s)).InOrder := by
  obtain ⟨q, n, same⟩ := (takeReports_enterLocked_hasLocked h.settled.quiet).same
  rw [same]
  refine ⟨⟨rfl, fun shown => ?_, rfl, rfl⟩, lockAsked_frameRuns h.frame _⟩
  have active : (s.gate.lockAsked (lockSet s.active)).active = lockSet s.active := of_decide_eq_true shown
  change (s.gate.lockAsked (lockSet s.active)).active.kind = .lock
  rw [active]
  rfl

theorem acceptUnlock_inOrder {s : State} (h : s.InOrder) (locked : s.ctl.state = .locked)
    (shown : s.ctl.lockShown = true) : (acceptUnlock s).InOrder := by
  obtain ⟨⟨quiet, row⟩, frame⟩ := h
  rw [State.InTable, locked] at row
  obtain ⟨lock, -, live⟩ := row
  rw [acceptUnlock_eq quiet]
  have none : s.ctl.record = none := by simpa using live
  refine ⟨released_settled quiet ?_ rfl none, ?_⟩
  · unfold unlocked
    dsimp only
    split
    · exact fun k => by cases k
    · rw [lock shown]; exact fun k => by cases k
  · rw [(released_kept _).1]
    exact overlayRemoved_frameRuns frame .full

/-! ### The video path -/

theorem localEnd_inOrder {s : State} (h : s.InOrder) : (takeReports (gateDo Gate.localEnd s)).InOrder := by
  cases timing : s.gate.timing with
  | localTiming =>
    rw [takeReports_boundary h.settled.quiet (localEnd_of_local timing)]
    refine ⟨h.settled.shows rfl rfl, ?_⟩
    rw [shows_gate]
    exact h.frame
  | toFollow =>
    have rejoins : gateDo Gate.localEnd s =
        { s with gate := { s.gate with timing := .rejoin, watch := .running watchTime } } := by
      rw [gateDo, Gate.localEnd, timing, List.append_nil]
    rw [rejoins]
    refine State.InOrder.taken ⟨h.settled.of_same rfl rfl rfl rfl, ?_⟩
    rintro (⟨k, -⟩ | k) <;> cases k
  | follow => rw [gateDo_of_still (by rw [Gate.localEnd, timing])]; exact h.taken
  | toLocal => rw [gateDo_of_still (by rw [Gate.localEnd, timing])]; exact h.taken
  | rejoin => rw [gateDo_of_still (by rw [Gate.localEnd, timing])]; exact h.taken

/-- An input frame has begun. -/
theorem inputFrameStart_inOrder {s : State} (h : s.Settled) (lines : List Nat) :
    (takeReports (inputFrameStart lines s)).InOrder := by
  have judged : (takeReports (endInputFrame lines s)).Settled := by
    have ended : State.Settled (s.setGate (s.gate.judged lines)) := h.of_same rfl rfl rfl rfl
    by_cases loss : s.gate.LosesAtJudging lines
    · rw [endInputFrame_of_loss loss]; exact ended.loses.1
    · rw [endInputFrame_of_noLoss loss, takeReports_of_none ended.quiet]; exact ended
  rw [inputFrameStart]
  dsimp only
  generalize takeReports (endInputFrame lines s) = u at judged ⊢
  have begun : State.Settled (u.setGate u.gate.begun) := judged.of_same rfl rfl rfl rfl
  change (takeReports (gateDo Gate.inputStart (u.setGate u.gate.begun))).InOrder
  by_cases follows : u.gate.begun.Follows
  · rw [takeReports_boundary (s := u.setGate u.gate.begun) begun.quiet (inputStart_of_follows follows)]
    refine ⟨begun.shows rfl rfl, ?_⟩
    rw [shows_gate]
    exact fun _ => rfl
  · rw [gateDo_of_still (s := u.setGate u.gate.begun) (inputStart_of_own follows)]
    exact State.InOrder.taken ⟨begun, fun _ => rfl⟩

/-- The silence watch stands expired. -/
theorem silenceExpiry_inOrder {s : State} (h : s.InOrder) (lines : List Nat) :
    (takeReports (silenceExpiry lines s)).InOrder := by
  by_cases running : s.gate.watch.isRunning = true
  · have judged : State.Settled (s.setGate (s.gate.silent lines)) := h.settled.of_same rfl rfl rfl rfl
    rw [silenceExpiry_eq running]
    generalize s.setGate (s.gate.silent lines) = u at judged ⊢
    have loses : ∀ {v : State}, v.Settled → v.gate.timing = .follow → v.gate.stopped = true →
        (takeReports (declareLoss v)).InOrder := fun {v} settled timing stopped => by
      obtain ⟨lost, timing', stopped'⟩ := settled.loses
      refine ⟨lost, fun runs => ?_⟩
      rw [timing', stopped', timing, stopped] at runs
      rcases runs with ⟨-, k⟩ | k <;> cases k
    have stops : u.gate.Running → (takeReports (watchOnOutput u)).InOrder := fun runs => by
      rw [watchOnOutput_of_running judged.quiet runs]
      exact loses (judged.shows rfl rfl) (by rw [shows_gate]; rfl) (by rw [shows_gate]; rfl)
    cases timing : u.gate.timing with
    | localTiming =>
      rw [watchOnOutput_of_own (.inl timing)]
      exact State.InOrder.taken ⟨judged, fun runs => by rw [timing] at runs; rcases runs with ⟨k, -⟩ | k <;> cases k⟩
    | toFollow =>
      rw [watchOnOutput_of_own (.inr timing)]
      exact State.InOrder.taken ⟨judged, fun runs => by rw [timing] at runs; rcases runs with ⟨k, -⟩ | k <;> cases k⟩
    | rejoin => exact stops (.inr timing)
    | follow =>
      cases stopped : u.gate.stopped with
      | true => rw [watchOnOutput_of_stopped timing stopped]; exact loses judged timing stopped
      | false => exact stops (.inl ⟨timing, stopped⟩)
    | toLocal =>
      obtain ⟨lost, -⟩ := judged.loses
      rw [watchOnOutput, timing]
      dsimp only
      generalize takeReports (declareLoss u) = v at lost ⊢
      rw [takeReports_boundary lost.quiet (frameStart_eq_boundary { v.gate with timing := .localTiming })]
      refine ⟨lost.shows rfl rfl, ?_⟩
      rw [shows_gate]
      rintro (⟨k, -⟩ | k) <;> cases k
  · rw [silenceExpiry, if_neg running]; exact h.taken

/-! ### Every turn -/

theorem Turn.inOrder {s t : State} (h : Turn s t) (order : s.InOrder) : t.InOrder := by
  cases h with
  | beside same => exact order.of_core same
  | takes => exact order.taken
  | ends o => exact order.ends o
  | silent =>
    refine State.InOrder.ends (s := disarmSilence s) ⟨⟨order.settled.quiet, order.settled.row⟩, order.frame⟩ _
  | opens _ releasing =>
    refine ⟨enterOpen_settled order.settled releasing, ?_⟩
    rw [enterOpen_eq_openedAgain]
    exact order.frame
  | arms _ armed => exact endArming_inOrder order armed
  | begins r _ opened => exact arming_inOrder order opened
  | presses r k _ secure record => exact (sessionPress_keyTaken order secure record k).taken
  | lifts r x y _ secure record => exact (sessionUp_keyTaken order secure record x y).taken
  | locks => exact enterLocked_inOrder order
  | unlocks _ locked shown => exact acceptUnlock_inOrder order locked shown
  | localEnd => exact localEnd_inOrder order
  | inputStart lines => exact inputFrameStart_inOrder order.settled lines
  | silence lines => exact silenceExpiry_inOrder order lines

end Sys2Proof.Machine

open Sys2Proof Sys2Proof.Machine

/-- Settles O52: every turn keeps the sets in order (`Turn.inOrder`), and every command is a chain of turns
(`keptByStep_of_turns`); the lamp shows the active set. -/
theorem lampShowsTheSecureSession : Obligations.LampShowsTheSecureSession := by
  refine ⟨keptByStep_of_turns (fun s t turn inv => ?_) fun _ => reset_gateInv, fun s inv unlocked => ?_⟩
  · exact (inOrder_iff t).1 (turn.inOrder ((inOrder_iff s).2 inv))
  · obtain ⟨-, active, -⟩ := inv
    rw [← active unlocked, Gate.lamp]
    cases s.gate.active.isSecure <;> decide
end

section
/-! PROOF. O60, first part: hiding the digits (`State.hidden`) and the operations that do not look at them. Each of these
answers the hidden state with its own answer hidden. -/

namespace Sys2Proof.Machine

open Sys2Proof

/-! ### Hiding -/

theorem EntryEnd.hidden_hidden (e : EntryEnd) : e.hidden.hidden = e.hidden := by
  obtain ⟨session, outcome, mode, count, data⟩ := e
  cases data with
  | digits ds => simp only [EntryEnd.hidden, List.length_replicate]
  | absent => rfl
  | points ps => rfl

theorem Transmission.hidden_hidden (t : Transmission) : t.hidden.hidden = t.hidden := by
  unfold Transmission.hidden
  by_cases h : t.source = .entryEnd
  · rw [if_pos h, if_pos (by exact h)]
  · rw [if_neg h, if_neg h]

/-- Hiding twice is hiding once. -/
theorem State.hidden_hidden (s : State) : s.hidden.hidden = s.hidden := by
  have ends : (s.entryEnd.map EntryEnd.hidden).map EntryEnd.hidden = s.entryEnd.map EntryEnd.hidden := by
    rw [Option.map_map]
    exact congrArg (Option.map · s.entryEnd) (funext EntryEnd.hidden_hidden)
  have sent : ((s.ports.get .pay).tx.map Transmission.hidden).map Transmission.hidden =
      (s.ports.get .pay).tx.map Transmission.hidden := by
    rw [Option.map_map]
    exact congrArg (Option.map · (s.ports.get .pay).tx) (funext Transmission.hidden_hidden)
  have digits : List.replicate (List.replicate s.ctl.buffer.length 0).length 0 =
      List.replicate s.ctl.buffer.length 0 := by rw [List.length_replicate]
  unfold State.hidden
  dsimp only [PerDomain.get, PerDomain.set] at sent ⊢
  rw [ends, sent, digits]

theorem ite_hidden {c : Prop} [Decidable c] {t u t' u' : State} (ht : t = t'.hidden) (hu : u = u'.hidden) :
    (if c then t else u) = (if c then t' else u').hidden := by split <;> assumption

theorem foldl_hidden {α : Type} {f : State → α → State} (h : ∀ s a, f s.hidden a = (f s a).hidden) (l : List α)
    (s : State) : l.foldl f s.hidden = (l.foldl f s).hidden := by
  induction l generalizing s with
  | nil => rfl
  | cons a l ih => rw [List.foldl_cons, h, ih, List.foldl_cons]

theorem isSending_hidden (s : State) (d : Domain) (source : Source) :
    s.hidden.isSending d source = s.isSending d source := by
  cases d with
  | pay =>
    change ((s.port .pay).tx.map Transmission.hidden).any _ = (s.port .pay).tx.any _
    rw [Option.any_map]
    congr 1
    funext t
    unfold Transmission.hidden
    split <;> rfl
  | app => rfl
  | rad => rfl

/-! ### The notice unit and the switch -/

theorem setFlag_hidden (d : Domain) (f : Flag) (s : State) : setFlag d f s.hidden = (setFlag d f s).hidden := rfl

theorem judgeSpace_hidden (d : Domain) (s : State) : judgeSpace d s.hidden = (judgeSpace d s).hidden := by
  unfold judgeSpace
  refine foldl_hidden (fun s source => ?_) allDomains s
  unfold judgeSpaceOf
  refine foldl_hidden (fun s c => ?_) allClasses s
  exact ite_hidden rfl rfl

theorem removeFrom_hidden (d : Domain) (gone : Entry → Bool) (s : State) :
    removeFrom d gone s.hidden = (removeFrom d gone s).hidden := rfl

theorem purgeQueue_hidden (gone : Entry → Bool) (s : State) (d : Domain) :
    purgeQueue gone s.hidden d = (purgeQueue gone s d).hidden := by
  unfold purgeQueue
  rw [removeFrom_hidden, judgeSpace_hidden]
  exact ite_hidden rfl rfl

theorem purge_hidden (gone : Entry → Bool) (s : State) : purge gone s.hidden = (purge gone s).hidden := by
  unfold purge
  exact foldl_hidden (purgeQueue_hidden _) allDomains s

theorem lockedPurge_hidden (s : State) : lockedPurge s.hidden = (lockedPurge s).hidden := by
  unfold lockedPurge
  exact purge_hidden _ s

theorem mapEntries_hidden (f : Entry → Entry) (s : State) : mapEntries f s.hidden = (mapEntries f s).hidden := by
  unfold mapEntries
  exact foldl_hidden (fun _ _ => rfl) allDomains s

theorem takeNoticeModes_hidden (s : State) : takeNoticeModes s.hidden = (takeNoticeModes s).hidden := by
  unfold takeNoticeModes
  exact foldl_hidden (fun _ _ => rfl) allDomains s

theorem clearMarksOf_hidden (d : Domain) (s : State) : clearMarksOf d s.hidden = (clearMarksOf d s).hidden := by
  unfold clearMarksOf
  exact foldl_hidden (fun _ _ => rfl) allDomains s

theorem switchLinkReset_hidden (d : Domain) (s : State) :
    switchLinkReset d s.hidden = (switchLinkReset d s).hidden := by
  unfold switchLinkReset
  rw [clearMarksOf_hidden, purgeQueue_hidden]
  rfl

/-! ### The silence timer and the input queue -/

theorem restartSilence_hidden (s : State) : restartSilence s.hidden = (restartSilence s).hidden := by
  unfold restartSilence
  exact ite_hidden rfl rfl

theorem disarmSilence_hidden (s : State) : disarmSilence s.hidden = (disarmSilence s).hidden := rfl

theorem queueInput_hidden (e : InputEvent) (s : State) : queueInput e s.hidden = (queueInput e s).hidden := rfl

theorem pushProgress_hidden (e : ProgressEvent) (n : Nat) (s : State) :
    pushProgress e n s.hidden = (pushProgress e n s).hidden := rfl

/-! ### The gate -/

theorem gateDo_hidden (f : Gate → Gate × List GateReport) (s : State) : gateDo f s.hidden = (gateDo f s).hidden := rfl

theorem writeSet_hidden (o : OverlaySet) (s : State) : writeSet o s.hidden = (writeSet o s).hidden := rfl

theorem declareLoss_hidden (s : State) : declareLoss s.hidden = (declareLoss s).hidden := by
  unfold declareLoss
  exact ite_hidden rfl rfl

theorem judgeFrame_hidden (lines : List Nat) (s : State) : judgeFrame lines s.hidden = (judgeFrame lines s).hidden := by
  unfold judgeFrame
  exact ite_hidden rfl rfl

theorem endInputFrame_hidden (lines : List Nat) (s : State) :
    endInputFrame lines s.hidden = (endInputFrame lines s).hidden := by
  unfold endInputFrame
  rw [judgeFrame_hidden]
  exact ite_hidden (declareLoss_hidden _) rfl

/-! ### Leaving and entering OPEN -/

theorem cancelStroke_hidden (s : State) : cancelStroke s.hidden = (cancelStroke s).hidden := by
  unfold cancelStroke
  change (match s.ctl.appStroke with | none => _ | some n => _) = _
  cases s.ctl.appStroke <;> rfl

theorem cancelKey_hidden (s : State) (k : Key) : cancelKey s.hidden k = (cancelKey s k).hidden := by
  unfold cancelKey
  exact ite_hidden rfl rfl

theorem leaveOpen_hidden (s : State) : leaveOpen s.hidden = (leaveOpen s).hidden := by
  unfold leaveOpen markHeld
  rw [cancelStroke_hidden, foldl_hidden cancelKey_hidden, queueInput_hidden]
  exact mapEntries_hidden _ _

theorem enterOpen_hidden (s : State) : enterOpen s.hidden = (enterOpen s).hidden := by
  unfold enterOpen releaseHeld
  rw [show s.hidden.setCtl { s.hidden.ctl with state := .opened } = (s.setCtl { s.ctl with state := .opened }).hidden
    from rfl, mapEntries_hidden, queueInput_hidden, disarmSilence_hidden]

theorem enterReleasing_hidden (s : State) : enterReleasing s.hidden = (enterReleasing s).hidden := by
  unfold enterReleasing
  exact ite_hidden (enterOpen_hidden (s.setCtl { s.ctl with state := .releasing })) rfl

/-! ### The end of a session -/

theorem removeOverlay_hidden (p : SessionPresentation) (s : State) :
    removeOverlay p s.hidden = (removeOverlay p s).hidden := by
  unfold removeOverlay
  exact ite_hidden rfl rfl

/-- The ENTRY-END of the hidden buffer is the hidden ENTRY-END. -/
theorem buildEnd_hidden (o : SessionOutcome) (s : State) (r : Session) :
    buildEnd o s.hidden.ctl r = (buildEnd o s.ctl r).hidden := by
  unfold buildEnd
  cases r.mode with
  | pin =>
    by_cases complete : o = .complete
    · simp only [if_pos complete, EntryEnd.hidden, State.hidden, List.length_replicate]
    · simp only [if_neg complete, EntryEnd.hidden, State.hidden, List.length_replicate]
  | calibrate => by_cases complete : o = .complete <;> simp only [complete, if_true, if_false] <;> rfl

theorem endSecure_hidden (o : SessionOutcome) (r : Session) (s : State) :
    endSecure o r s.hidden = (endSecure o r s).hidden := by
  unfold endSecure
  rw [buildEnd_hidden, show s.hidden.setCtl s.hidden.ctl.erased = (s.setCtl s.ctl.erased).hidden from rfl,
    removeOverlay_hidden]
  rfl

theorem endEarly_hidden (o : SessionOutcome) (r : Session) (s : State) :
    endEarly o r s.hidden = (endEarly o r s).hidden := by
  have erased : s.hidden.setCtl s.hidden.ctl.erased = (s.setCtl s.ctl.erased).hidden := rfl
  have removed : (if s.ctl.state = .presenting then removeOverlay r.presentation (s.setCtl s.ctl.erased).hidden
      else (s.setCtl s.ctl.erased).hidden) =
      (if s.ctl.state = .presenting then removeOverlay r.presentation (s.setCtl s.ctl.erased)
        else s.setCtl s.ctl.erased).hidden := ite_hidden (removeOverlay_hidden _ _) rfl
  unfold endEarly
  rw [erased]
  dsimp only
  rw [show s.hidden.ctl.state = s.ctl.state from rfl, removed]
  generalize (if s.ctl.state = .presenting then removeOverlay r.presentation (s.setCtl s.ctl.erased)
    else s.setCtl s.ctl.erased) = u
  refine Eq.trans (congrArg enterReleasing ?_) (enterReleasing_hidden
    (disarmSilence { u with entryEnd := some (buildEarlyEnd o s.ctl r) }))
  rfl

theorem endSession_hidden (o : SessionOutcome) (s : State) : endSession o s.hidden = (endSession o s).hidden := by
  unfold endSession
  rw [show s.hidden.ctl.record = s.ctl.record from rfl, show s.hidden.ctl.state = s.ctl.state from rfl]
  cases s.ctl.record with
  | none => rfl
  | some r =>
    cases s.ctl.state with
    | arming => exact endEarly_hidden o r s
    | presenting => exact endEarly_hidden o r s
    | secure => exact endSecure_hidden o r s
    | opened => rfl
    | closing => rfl
    | releasing => rfl
    | locked => rfl

/-! ### The reports of the gate -/

theorem onReport_hidden (s : State) (g : GateReport) : onReport s.hidden g = (onReport s g).hidden := by
  unfold onReport
  rw [show s.hidden.ctl.record = s.ctl.record from rfl, show s.hidden.ctl.state = s.ctl.state from rfl]
  cases g with
  | setActive k =>
    cases k with
    | clear => exact ite_hidden (enterReleasing_hidden s) rfl
    | secure =>
      dsimp only
      cases s.ctl.state with
      | presenting => cases s.ctl.record <;> rfl
      | _ => rfl
    | lock => exact ite_hidden rfl rfl
  | videoLoss =>
    cases s.ctl.record with
    | none => rfl
    | some r => exact ite_hidden (endSession_hidden _ s) rfl

theorem takeWave_hidden (s : State) : takeWave s.hidden = (takeWave s).hidden := by
  unfold takeWave
  exact foldl_hidden onReport_hidden s.reports { s with reports := [] }

theorem takeReports_hidden (s : State) : takeReports s.hidden = (takeReports s).hidden := by
  unfold takeReports
  rw [takeWave_hidden, takeWave_hidden]

/-! ### The beginning of a session -/

theorem endArming_hidden (s : State) : endArming s.hidden = (endArming s).hidden := by
  unfold endArming
  rw [show s.hidden.ctl.record = s.ctl.record from rfl]
  cases s.ctl.record with
  | none => rfl
  | some r =>
    dsimp only
    by_cases full : r.presentation = .full
    · rw [if_pos full, if_pos full]; rfl
    · rw [if_neg full, if_neg full]; rfl

theorem noContactReport_hidden (s : State) : noContactReport s.hidden = (noContactReport s).hidden := by
  unfold noContactReport
  rw [show s.hidden.ctl.state = s.ctl.state from rfl]
  cases s.ctl.state with
  | arming => dsimp only; rw [endArming_hidden, takeReports_hidden]
  | releasing => exact enterOpen_hidden s
  | _ => rfl

theorem arming_hidden (r : Session) (s : State) : arming r s.hidden = (arming r s).hidden := by
  unfold arming
  rw [show s.hidden.setCtl (recordedCtl r s.hidden.ctl) = (s.setCtl (recordedCtl r s.ctl)).hidden from rfl,
    leaveOpen_hidden]
  rfl

theorem beginSession_hidden (r : Session) (s : State) : beginSession r s.hidden = (beginSession r s).hidden := by
  rw [beginSession_eq, beginSession_eq, arming_hidden, endArming_hidden, takeReports_hidden]
  exact ite_hidden rfl rfl

/-! ### LOCKED -/

theorem placeTamperEnd_hidden (s : State) : placeTamperEnd s.hidden = (placeTamperEnd s).hidden := by
  unfold placeTamperEnd
  rw [show s.hidden.ctl.record = s.ctl.record from rfl, show s.hidden.ctl.state = s.ctl.state from rfl]
  cases s.ctl.record with
  | none => rfl
  | some r =>
    dsimp only
    rw [buildEnd_hidden]
    exact ite_hidden rfl rfl

theorem lockWritten_hidden (s : State) : lockWritten s.hidden = (lockWritten s).hidden := by
  unfold lockWritten
  rw [placeTamperEnd_hidden]
  rfl

theorem enterLocked_hidden (s : State) : enterLocked s.hidden = (enterLocked s).hidden := by
  have left : (if s.ctl.state = .opened then leaveOpen (lockWritten s).hidden else (lockWritten s).hidden) =
      (if s.ctl.state = .opened then leaveOpen (lockWritten s) else lockWritten s).hidden :=
    ite_hidden (leaveOpen_hidden _) rfl
  rw [enterLocked_eq, enterLocked_eq, lockWritten_hidden]
  dsimp only
  rw [show s.hidden.ctl.state = s.ctl.state from rfl, left]
  generalize (if s.ctl.state = .opened then leaveOpen (lockWritten s) else lockWritten s) = u
  rw [← lockedPurge_hidden]
  rfl

theorem tamperTrip_hidden (s : State) : tamperTrip s.hidden = (tamperTrip s).hidden := by
  unfold tamperTrip
  rw [enterLocked_hidden, takeReports_hidden, apply_ite State.hidden]
  rfl

/-- The controller with the lock shown mark cleared. -/
def unshown (s : State) : State := s.setCtl { s.ctl with lockShown := false }

theorem acceptUnlock_hidden (s : State) : acceptUnlock s.hidden = (acceptUnlock s).hidden := by
  have asked : ∀ u, acceptUnlock u = takeReports (enterReleasing (unshown
      (gateDo Gate.askFollow (writeSet OverlaySet.clear (clearLatches u))))) := fun _ => rfl
  have latches : clearLatches s.hidden = (clearLatches s).hidden := rfl
  have shown : ∀ u : State, unshown u.hidden = (unshown u).hidden := fun _ => rfl
  rw [asked, asked, latches, writeSet_hidden, gateDo_hidden, shown, enterReleasing_hidden, takeReports_hidden]

end Sys2Proof.Machine
end

section
/-! PROOF. O60, second part: the operations that take digits in or send them, which answer states that differ in digits
alone with such states (`Blind`), and what is built of them. -/

namespace Sys2Proof.Machine

open Sys2Proof

/-- An operation that takes states which differ only in digits to such states. -/
def Blind (f : State → State) : Prop := ∀ s t, s.hidden = t.hidden → (f s).hidden = (f t).hidden

theorem Blind.of_hidden {f : State → State} (h : ∀ s, (f s.hidden).hidden = (f s).hidden) : Blind f := fun s t same => by
  rw [← h s, ← h t, same]

theorem Blind.of_eq {f : State → State} (h : ∀ s, f s.hidden = (f s).hidden) : Blind f :=
  .of_hidden fun s => by rw [h, State.hidden_hidden]

theorem Blind.hidden {f : State → State} (h : Blind f) (s : State) : (f s.hidden).hidden = (f s).hidden :=
  h _ _ s.hidden_hidden

theorem Blind.comp {f g : State → State} (hg : Blind g) (hf : Blind f) : Blind fun s => g (f s) :=
  fun s t same => hg _ _ (hf s t same)

theorem Blind.refl : Blind fun s => s := fun _ _ same => same

theorem Blind.ite {c : State → Prop} [∀ s, Decidable (c s)] {f g : State → State} (same : ∀ s, c s.hidden ↔ c s)
    (hf : Blind f) (hg : Blind g) : Blind fun s => if c s then f s else g s := .of_hidden fun s => by
  by_cases h : c s
  · simp only [if_pos h, if_pos ((same s).2 h)]; exact hf.hidden s
  · simp only [if_neg h, if_neg (mt (same s).1 h)]; exact hg.hidden s

theorem Blind.foldl {α : Type} {f : State → α → State} (h : ∀ a, Blind fun s => f s a) (l : List α) :
    Blind fun s => l.foldl f s := by
  induction l with
  | nil => exact .refl
  | cons a l ih => exact ih.comp (h a)

/-- The hidden buffer is as long as the buffer. -/
theorem hidden_length (s : State) : s.hidden.ctl.buffer.length = s.ctl.buffer.length := List.length_replicate

/-! ### The key actions (R111, R112) -/

/-- Of a buffer's new value its length alone is seen. -/
theorem setBuffer_hidden (s : State) {ds es : List Nat} (length : ds.length = es.length) :
    (setBuffer ds s.hidden).hidden = (setBuffer es s).hidden := by
  have taken : (s.hidden.setCtl { s.hidden.ctl with buffer := ds }).hidden =
      (s.setCtl { s.ctl with buffer := es }).hidden := by
    rw [← (s.setCtl { s.ctl with buffer := es }).hidden_hidden]
    simp only [State.hidden, State.setCtl, length, List.length_replicate]
  unfold setBuffer
  dsimp only
  rw [hidden_length, length]
  split
  · exact taken
  · exact Blind.of_eq (writeSet_hidden _) _ _ taken

/-- An accepted key that changes the buffer and tells PAY. -/
theorem accepted_hidden (r : Session) (s : State) (n : Nat) {ds es : List Nat} (length : ds.length = es.length) :
    (pushProgress .accepted n (setBuffer ds (acceptedKey r s.hidden))).hidden =
      (pushProgress .accepted n (setBuffer es (acceptedKey r s))).hidden :=
  Blind.of_eq (pushProgress_hidden .accepted n) _ _ (setBuffer_hidden (acceptedKey r s) length)

theorem endSession_blind (o : SessionOutcome) : Blind (endSession o) := .of_eq (endSession_hidden o)

theorem pressDigit_blind (r : Session) (digit : Nat) : Blind (pressDigit r digit) := .of_hidden fun s => by
  have taken := accepted_hidden r s (s.ctl.buffer.length + 1) (ds := s.hidden.ctl.buffer ++ [digit])
    (es := s.ctl.buffer ++ [digit]) (by rw [List.length_append, List.length_append, hidden_length])
  unfold pressDigit
  dsimp only
  rw [hidden_length]
  split
  · split
    · exact endSession_blind _ _ _ taken
    · exact taken
  · exact (Blind.of_eq (pushProgress_hidden _ _)).hidden s

theorem pressBack_blind (r : Session) : Blind (pressBack r) := .of_hidden fun s => by
  unfold pressBack
  dsimp only
  rw [hidden_length]
  split
  · exact (Blind.of_eq (pushProgress_hidden _ _)).hidden s
  · exact accepted_hidden r s _ (by rw [List.length_dropLast, List.length_dropLast, hidden_length])

theorem pressClear_blind (r : Session) : Blind (pressClear r) := .of_hidden fun s => accepted_hidden r s 0 rfl

theorem pressEnter_blind (r : Session) : Blind (pressEnter r) := .of_hidden fun s => by
  unfold pressEnter
  dsimp only
  rw [hidden_length]
  split
  · exact (endSession_blind _).hidden (acceptedKey r s)
  · exact (Blind.of_eq (pushProgress_hidden _ _)).hidden s

theorem pressCell_blind (r : Session) (i : Nat) : Blind (pressCell r i) := .of_hidden fun s => by
  unfold pressCell
  rw [show s.hidden.active = s.active from rfl]
  cases s.active.cell? i with
  | none => exact s.hidden_hidden
  | some c =>
    dsimp only
    cases c.role with
    | digit => exact (pressDigit_blind r _).hidden s
    | back => exact (pressBack_blind r).hidden s
    | clear => exact (pressClear_blind r).hidden s
    | enter => exact (pressEnter_blind r).hidden s
    | cancel => exact (endSession_blind _).hidden s
    | dots => exact s.hidden_hidden
    | band => exact s.hidden_hidden
    | label => exact s.hidden_hidden

theorem sessionPress_blind (r : Session) (k : Key) : Blind (sessionPress r k) := by
  unfold sessionPress
  split
  · exact endSession_blind _
  · exact pressClear_blind r
  · exact pressEnter_blind r
  all_goals exact .refl

theorem sessionDown_blind (r : Session) (q : Position) : Blind (sessionDown r q) := by
  unfold sessionDown
  split
  · exact .refl
  · exact .of_eq fun _ => rfl

theorem sessionUpdate_blind (r : Session) (q : Position) : Blind (sessionUpdate r q) := .of_eq fun s => by
  unfold sessionUpdate
  rw [show s.hidden.ctl.candidate = s.ctl.candidate from rfl, hidden_length]
  cases r.mode with
  | calibrate => rfl
  | pin => cases s.ctl.candidate with
    | cell i => exact ite_hidden rfl rfl
    | _ => rfl

theorem addPoint_blind (r : Session) (x y : Nat) : Blind (addPoint r x y) := .of_eq fun s => by
  unfold addPoint
  exact ite_hidden (endSession_hidden .complete ((acceptedKey r s).setCtl
    { (acceptedKey r s).ctl with points := s.ctl.points ++ [(x, y)] })) rfl

theorem sessionUp_blind (r : Session) (x y : Nat) : Blind (sessionUp r x y) := by
  unfold sessionUp
  split
  · exact addPoint_blind r x y
  · refine Blind.comp (g := fun u => u.setCtl { u.ctl with candidate := .none }) (.of_eq fun _ => rfl)
      (.of_hidden fun s => ?_)
    rw [show s.hidden.ctl.candidate = s.ctl.candidate from rfl]
    cases s.ctl.candidate with
    | cell i => exact (pressCell_blind r i).hidden s
    | none => exact s.hidden_hidden
    | void => exact s.hidden_hidden

/-! ### Routing and the mapper -/

theorem endMarks_blind (n : Nat) : Blind (endMarks n) := .of_eq fun _ => rfl

theorem routeDown_blind (n : Nat) (q : Position) : Blind (routeDown n q) := .of_hidden fun s => by
  unfold routeDown
  rw [show s.hidden.ctl.state = s.ctl.state from rfl, show s.hidden.ctl.record = s.ctl.record from rfl]
  cases s.ctl.state with
  | opened => exact (Blind.of_eq (f := fun s => (queueInput (touchInput .down n q) s).setCtl
      { (queueInput (touchInput .down n q) s).ctl with appStroke := some n }) fun _ => rfl).hidden s
  | secure =>
    cases s.ctl.record with
    | none => exact s.hidden_hidden
    | some r => exact (sessionDown_blind r q).hidden (s.setCtl { s.ctl with sessionStroke := some n })
  | _ => exact s.hidden_hidden

theorem routeUpdate_blind (n : Nat) (q : Position) (m : Bool) : Blind (routeUpdate n q m) := .of_hidden fun s => by
  unfold routeUpdate
  rw [show s.hidden.ctl.state = s.ctl.state from rfl, show s.hidden.ctl.record = s.ctl.record from rfl]
  cases s.ctl.state with
  | opened => exact (Blind.ite (c := fun s => m = true ∧ s.ctl.appStroke = some n) (fun _ => .rfl)
      (.of_eq (queueInput_hidden _)) .refl).hidden s
  | secure =>
    cases s.ctl.record with
    | none => exact s.hidden_hidden
    | some r => exact (Blind.ite (c := fun s => s.ctl.sessionStroke = some n) (fun _ => .rfl)
        (sessionUpdate_blind r q) .refl).hidden s
  | _ => exact s.hidden_hidden

theorem takeReports_blind : Blind takeReports := .of_eq takeReports_hidden

theorem routeUp_blind (n : Nat) (q : Position) (u : Bool) (x y : Nat) : Blind (routeUp n q u x y) :=
  .of_hidden fun s => by
  unfold routeUp
  rw [show s.hidden.ctl.state = s.ctl.state from rfl, show s.hidden.ctl.record = s.ctl.record from rfl]
  cases s.ctl.state with
  | opened => exact (Blind.ite (c := fun s => s.ctl.appStroke = some n) (fun _ => .rfl)
      ((endMarks_blind n).comp (.of_eq (queueInput_hidden _))) (endMarks_blind n)).hidden s
  | secure =>
    cases s.ctl.record with
    | none => exact (endMarks_blind n).hidden s
    | some r => exact (Blind.ite (c := fun s => s.ctl.sessionStroke = some n) (fun _ => .rfl)
        ((takeReports_blind.comp (sessionUp_blind r x y)).comp (endMarks_blind n)) (endMarks_blind n)).hidden s
  | _ => exact (endMarks_blind n).hidden s

theorem routePress_blind (k : Key) : Blind (routePress k) := .of_hidden fun s => by
  unfold routePress
  rw [show s.hidden.ctl.state = s.ctl.state from rfl, show s.hidden.ctl.record = s.ctl.record from rfl]
  cases s.ctl.state with
  | opened => exact (Blind.of_eq (f := fun s => (queueInput (keyInput .press k) s).setCtl
      { (queueInput (keyInput .press k) s).ctl with
        keyMarks := (queueInput (keyInput .press k) s).ctl.keyMarks.set k true }) fun _ => rfl).hidden s
  | secure =>
    cases s.ctl.record with
    | none => exact s.hidden_hidden
    | some r => exact (sessionPress_blind r k).hidden s
  | _ => exact s.hidden_hidden

theorem routeRelease_blind (k : Key) : Blind (routeRelease k) := .of_eq fun s => by
  unfold routeRelease
  exact ite_hidden rfl rfl

/-- The mapper's new state does not look at the digits. -/
theorem setMapper_hidden (m : Mapper) (s : State) :
    ({ s.hidden with mapper := m } : State).hidden = ({ s with mapper := m } : State).hidden :=
  State.hidden_hidden { s with mapper := m }

theorem mapperTrack_blind (x y : Nat) : Blind (mapperTrack x y) := .of_hidden fun s => by
  unfold mapperTrack
  dsimp only
  rw [show s.hidden.mapper = s.mapper from rfl, show s.hidden.active = s.active from rfl]
  split
  · split
    · exact routeUpdate_blind _ _ _ _ _ (setMapper_hidden _ s)
    · exact setMapper_hidden _ s
  · exact s.hidden_hidden

theorem mapperDown_blind (x y : Nat) : Blind (mapperDown x y) := .of_hidden fun s => by
  unfold mapperDown
  dsimp only
  rw [show s.hidden.mapper = s.mapper from rfl, show s.hidden.active = s.active from rfl]
  split
  · exact routeDown_blind _ _ _ _ (setMapper_hidden _ s)
  · exact s.hidden_hidden

theorem takeTouch_blind (r : TouchReport) : Blind fun s => takeTouch s r := .of_hidden fun s => by
  cases r with
  | start x y => exact setMapper_hidden _ s
  | track x y => exact (mapperTrack_blind x y).hidden s
  | down x y => exact (mapperDown_blind x y).hidden s
  | up u => exact routeUp_blind _ _ _ _ _ _ _ (setMapper_hidden _ s)
  | drop => exact setMapper_hidden _ s

/-! ### Scans and side keys -/

theorem noContactReport_blind : Blind noContactReport := .of_eq noContactReport_hidden

theorem endScan_blind (t : Touch) (k : ScanKind) : Blind (endScan t k) := .of_hidden fun s => by
  have taken := (Blind.foldl takeTouch_blind (s.frontEnd.apply t k).2).hidden
    { s with frontEnd := { (s.frontEnd.apply t k).1 with progress := .none } }
  unfold endScan
  rw [show s.hidden.frontEnd = s.frontEnd from rfl]
  dsimp only
  split
  · exact noContactReport_blind _ _ taken
  · exact taken

theorem requestBurst_blind : Blind requestBurst := .of_eq fun s => by
  unfold requestBurst
  exact ite_hidden rfl rfl

theorem grantNext_hidden (s : State) : grantNext s.hidden = (grantNext s).hidden := by
  unfold grantNext
  rw [show s.hidden.frontEnd = s.frontEnd from rfl, show s.hidden.adc = s.adc from rfl]
  cases decide (s.frontEnd.progress = .burstWaiting) <;> cases s.adc.supplyWaiting
  case true.true => exact ite_hidden rfl rfl
  all_goals rfl

theorem beginScan_blind (plate : Word16) : Blind (beginScan plate) := .of_hidden fun s => by
  unfold beginScan
  dsimp only
  rw [show s.hidden.active = s.active from rfl]
  split
  · exact requestBurst_blind.hidden { s with frontEnd := { s.frontEnd with
      progress := .penDetect, settings := s.active.touch } }
  · exact (endScan_blind _ _).hidden { s with frontEnd := { s.frontEnd with
      progress := .penDetect, settings := s.active.touch } }

theorem scanExpiry_blind (plate : Word16) : Blind (scanExpiry plate) := .of_hidden fun s => by
  unfold scanExpiry
  dsimp only
  rw [show s.hidden.frontEnd = s.frontEnd from rfl]
  split
  · split
    · exact (beginScan_blind plate).hidden
        { s with frontEnd := { s.frontEnd with timer := .running s.active.touch.scanPeriod } }
    · exact State.hidden_hidden { s with frontEnd := { s.frontEnd with timer := .running s.active.touch.scanPeriod } }
  · exact s.hidden_hidden

theorem burstDone_blind (codes : Burst) : Blind (burstDone codes) := .of_hidden fun s => by
  unfold burstDone
  dsimp only
  rw [show s.hidden.frontEnd = s.frontEnd from rfl, show s.hidden.adc = s.adc from rfl]
  split
  · exact (endScan_blind _ _) _ _ ((Blind.of_eq grantNext_hidden).hidden
      { s with frontEnd := { s.frontEnd with progress := .none, panel := .detect } })
  · exact s.hidden_hidden

theorem debounceExpiry_blind (k : Key) : Blind (debounceExpiry k) := .of_hidden fun s => by
  unfold debounceExpiry
  dsimp only
  rw [show s.hidden.key k = s.key k from rfl]
  split
  · split
    · exact (routePress_blind k).hidden (s.setKey k _)
    · exact (routeRelease_blind k).hidden (s.setKey k _)
  · exact s.hidden_hidden

end Sys2Proof.Machine
end

section
/-! PROOF. O60, third part: the supervisor, the video path, the owners of the requests and the link ports do not look at the
digits. -/

namespace Sys2Proof.Machine

open Sys2Proof

/-! ### The supervisor -/

theorem trip_hidden (i : TamperInput) (s : State) : trip i s.hidden = (trip i s).hidden := by
  have latched : s.hidden.setTamper i { s.hidden.tamper i with latch := true } =
      (s.setTamper i { s.tamper i with latch := true }).hidden := rfl
  unfold trip
  dsimp only
  rw [latched, setFlag_hidden, tamperTrip_hidden]
  exact ite_hidden rfl rfl

theorem judgeTamper_hidden (i : TamperInput) (s : State) : judgeTamper i s.hidden = (judgeTamper i s).hidden := by
  unfold judgeTamper
  exact ite_hidden (trip_hidden i (s.setTamper i { s.tamper i with
    inTrip := (s.active.supervision.sense.get i).met (s.tamper i).filtered (s.tamper i).normal })) rfl

theorem filterExpiry_hidden (i : TamperInput) (s : State) : filterExpiry i s.hidden = (filterExpiry i s).hidden := by
  unfold filterExpiry
  exact ite_hidden (judgeTamper_hidden i
    (s.setTamper i { s.tamper i with filtered := (s.tamper i).pin, timer := .stopped })) rfl

theorem lowSupply_hidden (s : State) : lowSupply s.hidden = (lowSupply s).hidden := by
  unfold lowSupply
  rw [setFlag_hidden, endSession_hidden, takeReports_hidden]

theorem supplyMove_hidden (old new : SupplyLevel) (s : State) :
    supplyMove old new s.hidden = (supplyMove old new s).hidden := by
  unfold supplyMove
  split
  · rfl
  · exact lowSupply_hidden s
  · exact lowSupply_hidden (warnSupply s)
  · rfl

theorem supplyDone_hidden (code : AdcCode) (s : State) : supplyDone code s.hidden = (supplyDone code s).hidden := by
  unfold supplyDone measure
  rw [grantNext_hidden]
  generalize grantNext s = u
  exact ite_hidden (supplyMove_hidden u.sup.level
    (u.sup.level.next u.active.supervision.warn u.active.supervision.abort (millivolts code))
    (u.setSup { u.sup with
      measurement := millivolts code
      level := u.sup.level.next u.active.supervision.warn u.active.supervision.abort (millivolts code) })) rfl

theorem requestSupply_hidden (s : State) : requestSupply s.hidden = (requestSupply s).hidden := by
  unfold requestSupply
  exact ite_hidden rfl rfl

/-- The part as the full reset ends, before the supply request. -/
def awakened (s : State) : State :=
  { s with
    inReset := false
    switch := { s.switch with refillTimer := .running refillTime }
    keys := ⟨s.keys.cancel.awake s.active.debounce, s.keys.clear.awake s.active.debounce,
      s.keys.enter.awake s.active.debounce, s.keys.fn.awake s.active.debounce⟩
    gate := { s.gate with watch := .running watchTime }
    sup :=
      { s.sup with
        tamper := ⟨s.sup.tamper.a.awake, s.sup.tamper.b.awake⟩
        requestTimer := .running supplyTime } }

theorem endFullReset_hidden (s : State) : endFullReset s.hidden = (endFullReset s).hidden := by
  have started : ∀ u, endFullReset u =
      allDomains.foldl (fun s d => setFlag d .restarted s) (requestSupply (awakened u)) := fun _ => rfl
  have same : awakened s.hidden = (awakened s).hidden := rfl
  rw [started, started, same, requestSupply_hidden, foldl_hidden fun s d => setFlag_hidden d .restarted s]

/-! ### The video path -/

theorem inputFrameStart_hidden (lines : List Nat) (s : State) :
    inputFrameStart lines s.hidden = (inputFrameStart lines s).hidden := by
  unfold inputFrameStart
  rw [endInputFrame_hidden, takeReports_hidden]
  rfl

theorem watchOnOutput_hidden (s : State) : watchOnOutput s.hidden = (watchOnOutput s).hidden := by
  unfold watchOnOutput
  rw [show s.hidden.gate = s.gate from rfl]
  cases s.gate.timing with
  | follow =>
    dsimp only
    rw [gateDo_hidden, takeReports_hidden, declareLoss_hidden, declareLoss_hidden]
    exact ite_hidden rfl rfl
  | toLocal => dsimp only; rw [declareLoss_hidden, takeReports_hidden, gateDo_hidden]
  | rejoin => dsimp only; rw [gateDo_hidden, takeReports_hidden, declareLoss_hidden]
  | localTiming => rfl
  | toFollow => rfl

theorem silenceExpiry_hidden (lines : List Nat) (s : State) :
    silenceExpiry lines s.hidden = (silenceExpiry lines s).hidden := by
  have expired : s.hidden.setGate { s.hidden.gate with watch := .expired } =
      (s.setGate { s.gate with watch := .expired }).hidden := rfl
  unfold silenceExpiry
  rw [expired, judgeFrame_hidden, watchOnOutput_hidden]
  exact ite_hidden rfl rfl

/-! ### The owners of the requests -/

/-- An owner that does not look at the digits: it answers the hidden state with its own answer hidden. -/
def BlindOwner (owner : State → State × Status × List Byte) : Prop :=
  ∀ s, owner s.hidden = ((owner s).1.hidden, (owner s).2)

theorem BlindOwner.ite {c : State → Prop} [∀ s, Decidable (c s)] {f g : State → State × Status × List Byte}
    (same : ∀ s, c s.hidden ↔ c s) (hf : BlindOwner f) (hg : BlindOwner g) :
    BlindOwner fun s => if c s then f s else g s := fun s => by
  by_cases h : c s
  · simp only [if_pos h, if_pos ((same s).2 h)]; exact hf s
  · simp only [if_neg h, if_neg (mt (same s).1 h)]; exact hg s

/-- An owner that refuses, or that only reads. -/
theorem BlindOwner.answer (st : Status) {result : State → List Byte} (same : ∀ s, result s.hidden = result s) :
    BlindOwner fun s => (s, st, result s) := fun s => by dsimp only; rw [same]

theorem BlindOwner.refuse (st : Status) : BlindOwner fun s => (s, st, []) := .answer st fun _ => rfl

/-- An owner that acts and answers OK. -/
theorem BlindOwner.ok {f : State → State} {result : State → List Byte} (acts : ∀ s, f s.hidden = (f s).hidden)
    (same : ∀ s, result s.hidden = result s) : BlindOwner fun s => (f s, .ok, result s) := fun s => by
  dsimp only
  rw [acts, same]

theorem acceptPost_hidden (s : State) (d : Domain) (slot channel : Nat) (c : Channel) (payload : List Byte) :
    acceptPost s.hidden d slot channel c payload = (acceptPost s d slot channel c payload).hidden := by
  unfold acceptPost
  rw [show (if c.metered d = true then setLevel s.hidden slot (s.hidden.switch.level slot - postCost payload.length)
      else s.hidden) = (if c.metered d = true then setLevel s slot (s.switch.level slot - postCost payload.length)
      else s).hidden from ite_hidden rfl rfl]
  rfl

/-- R41's checks 4 to 11 and the acceptance, for a channel that is open. -/
def postOn (d : Domain) (slot channel : Nat) (payload : List Byte) (c : Channel) (s : State) :
    State × Status × List Byte :=
  match postChecks s d slot c payload.length with
  | none => (acceptPost s d slot channel c payload, .ok, [])
  | some .queueFull => (s.setQueue (c.other d) ((s.queue (c.other d)).setWanted d c.cls true), .queueFull, [])
  | some st => (s, st, [])

theorem postOn_blind (d : Domain) (slot channel : Nat) (payload : List Byte) (c : Channel) :
    BlindOwner (postOn d slot channel payload c) := fun s => by
  unfold postOn
  rw [show postChecks s.hidden d slot c payload.length = postChecks s d slot c payload.length from rfl,
    acceptPost_hidden]
  split <;> rfl

theorem runPost_blind (d : Domain) (slot : Byte) (body : List Byte) : BlindOwner (runPost d slot body) := by
  refine .ite (fun _ => .rfl) (.refuse _) (.ite (fun _ => .rfl) (.refuse _) fun s => ?_)
  change (match openChannel s.active (postChannel body) with
    | none => _
    | some c => postOn d slot.toNat (postChannel body) (postPayload body) c s.hidden) = _
  cases openChannel s.active (postChannel body) with
  | none => rfl
  | some c => exact postOn_blind d slot.toNat _ _ c s

theorem runStatus_blind (d : Domain) (slot : Byte) : BlindOwner (runStatus d slot) := by
  cases d with
  | pay => exact .answer .ok fun _ => rfl
  | app => exact .ite (c := fun _ => 8 ≤ slot.toNat) (fun _ => .rfl) (.refuse _) (.answer .ok fun _ => rfl)
  | rad => exact .answer .ok fun _ => rfl

theorem runSlotBar_blind (body : List Byte) : BlindOwner (runSlotBar body) := by
  refine .ite (fun _ => .rfl) (.refuse _) (.ite (fun _ => .rfl) (.ok (fun s => ?_) fun _ => rfl)
    (.ok (fun _ => rfl) fun _ => rfl))
  rw [show setBar s.hidden (byteAt body 0) true = (setBar s (byteAt body 0) true).hidden from rfl, purge_hidden,
    setFlag_hidden]

/-- A pending ENTRY-END is pending, hidden or not. -/
theorem openChecks_hidden (s : State) : openChecks s.hidden = openChecks s := by
  unfold openChecks
  exact if_congr .rfl rfl (if_congr .rfl rfl (if_congr .rfl rfl
    (if_congr (not_congr (Option.map_eq_none_iff (x := s.entryEnd))) rfl rfl)))

/-- R103's checks 6 to 8 and the acceptance, for a body whose fields are read. -/
def beginOn (r : Session) (s : State) : State × Status × List Byte :=
  match layoutChecks s.active r with
  | some st => (s, st, [])
  | none => (beginSession r s, .ok, [byte (nextSession s.ctl.session)])

theorem beginOn_blind (r : Session) : BlindOwner (beginOn r) := fun s => by
  unfold beginOn
  rw [show s.hidden.active = s.active from rfl, beginSession_hidden]
  split <;> rfl

theorem runEntryBegin_blind (body : List Byte) : BlindOwner (runEntryBegin body) := fun s => by
  unfold runEntryBegin
  rw [openChecks_hidden]
  cases openChecks s with
  | some st => rfl
  | none =>
    cases sessionOf body with
    | none => rfl
    | some r => exact beginOn_blind r s

theorem runEntryAbort_blind : BlindOwner runEntryAbort :=
  .ite (fun _ => .rfl) (.ok (fun s => by rw [endSession_hidden, takeReports_hidden]) fun _ => rfl) (.refuse _)

theorem runUnlock_blind : BlindOwner runUnlock :=
  .ite (fun _ => .rfl) (.refuse _) (.ite (fun _ => .rfl) (.refuse _) (.ite (fun _ => .rfl) (.refuse _)
    (.ok acceptUnlock_hidden fun _ => rfl)))

theorem runLoad_blind (body : List Byte) : BlindOwner (runLoad body) := fun s => by
  unfold runLoad
  dsimp only
  split
  · rfl
  · split <;> rfl

/-! ### COMMIT -/

/-- The staging set becomes active, with the next generation (R36). -/
def activated (s : State) : State := { s with active := s.staging, generation := nextGeneration s.generation }

theorem commitTables_hidden (s : State) : commitTables s.hidden = (commitTables s).hidden := by
  have tables : ∀ u, commitTables u =
      setFlag .rad .policyChange (setFlag .app .slotChange (takeNoticeModes (activated u))) := fun _ => rfl
  rw [tables, tables, show activated s.hidden = (activated s).hidden from rfl, takeNoticeModes_hidden, setFlag_hidden,
    setFlag_hidden]

theorem remarkHeld_hidden (s : State) : remarkHeld s.hidden = (remarkHeld s).hidden := by
  unfold remarkHeld
  exact mapEntries_hidden _ s

theorem commitSwitch_hidden (old : Policy) (s : State) : commitSwitch old s.hidden = (commitSwitch old s).hidden := by
  have barred : ({ s.hidden with switch := { s.hidden.switch with
        bars := committedBars s.hidden.active
        levels := committedLevels old s.hidden.active s.hidden.switch.levels } } : State) =
      ({ s with switch := { s.switch with
        bars := committedBars s.active
        levels := committedLevels old s.active s.switch.levels } } : State).hidden := rfl
  unfold commitSwitch
  dsimp only
  rw [barred, show s.hidden.active = s.active from rfl, purge_hidden, remarkHeld_hidden]

theorem startFrontEnd_hidden (s : State) : startFrontEnd s.hidden = (startFrontEnd s).hidden := by
  unfold startFrontEnd
  exact ite_hidden (noContactReport_hidden { s with frontEnd := { s.frontEnd with
    scan := .noContact, down := 0, lift := 0, reject := 0, panel := .detect, progress := .none
    timer := .running s.active.touch.scanPeriod } }) rfl

theorem acceptCommit_hidden (s : State) : acceptCommit s.hidden = (acceptCommit s).hidden := by
  have begun : (if s.generation = 0 then startFrontEnd (commitSwitch s.active (commitTables s)).hidden
      else (commitSwitch s.active (commitTables s)).hidden) =
      (if s.generation = 0 then startFrontEnd (commitSwitch s.active (commitTables s))
        else commitSwitch s.active (commitTables s)).hidden := ite_hidden (startFrontEnd_hidden _) rfl
  unfold acceptCommit
  dsimp only
  rw [show s.hidden.active = s.active from rfl, show s.hidden.generation = s.generation from rfl, commitTables_hidden,
    commitSwitch_hidden, begun]
  generalize (if s.generation = 0 then startFrontEnd (commitSwitch s.active (commitTables s))
    else commitSwitch s.active (commitTables s)) = u
  rw [show commitNormals s.active (commitGate u.hidden) = (commitNormals s.active (commitGate u)).hidden from rfl,
    judgeTamper_hidden, judgeTamper_hidden]

theorem runCommit_blind (body : List Byte) : BlindOwner (runCommit body) := by
  refine .ite (fun _ => .rfl) (.refuse _) (.ite (fun _ => .rfl) (.refuse _) fun s => ?_)
  rw [show s.hidden.staging = s.staging from rfl, acceptCommit_hidden]
  cases s.staging.validate <;> rfl

theorem ownerOf_blind (d : Domain) (f : Frame) : BlindOwner (ownerOf d f) := fun s => by
  unfold ownerOf
  cases requestKindOf f.kind with
  | none => rfl
  | some k =>
    cases k with
    | post => exact runPost_blind d f.slot f.body s
    | status => exact runStatus_blind d f.slot s
    | clear => rfl
    | noticeTest => rfl
    | load => exact runLoad_blind f.body s
    | revert => rfl
    | commit => exact runCommit_blind f.body s
    | entryBegin => exact runEntryBegin_blind f.body s
    | entryAbort => exact runEntryAbort_blind s
    | slotBar => exact runSlotBar_blind f.body s
    | unlock => exact runUnlock_blind s
    | restart => rfl

end Sys2Proof.Machine
end

section
/-! PROOF. O60, fourth part: the link ports. Of what a transmitter begins, the ENTRY-END alone carries digits, in the body
that `Transmission.hidden` drops. -/

namespace Sys2Proof.Machine

open Sys2Proof

/-! ### Requests and reception -/

theorem queueReply_hidden (d : Domain) (r : Reply) (s : State) : queueReply d r s.hidden = (queueReply d r s).hidden := by
  cases d <;> rfl

theorem setReceiver_hidden (d : Domain) (r : Receiver) (s : State) :
    setReceiver d r s.hidden = (setReceiver d r s).hidden := by
  cases d <;> rfl

theorem port_hidden (d : Domain) (s : State) :
    s.hidden.port d = { s.port d with tx := (s.hidden.port d).tx } := by
  cases d <;> rfl

theorem inBreak_hidden (d : Domain) (s : State) : (s.hidden.port d).inBreak = (s.port d).inBreak := by
  rw [port_hidden]

theorem replies_hidden (d : Domain) (s : State) : (s.hidden.port d).replies = (s.port d).replies := by
  rw [port_hidden]

theorem rx_hidden (d : Domain) (s : State) : (s.hidden.port d).rx = (s.port d).rx := by
  rw [port_hidden]

theorem interByte_hidden (d : Domain) (s : State) : (s.hidden.port d).interByte = (s.port d).interByte := by
  rw [port_hidden]

theorem stallTimer_hidden (d : Domain) (s : State) : (s.hidden.port d).stallTimer = (s.port d).stallTimer := by
  rw [port_hidden]

theorem execute_hidden (d : Domain) (f : Frame) {owner : State → State × Status × List Byte} (blind : BlindOwner owner)
    (s : State) : execute d f owner s.hidden = (execute d f owner s).hidden := by
  unfold execute
  rw [blind s]
  cases portCheck d f with
  | none => exact queueReply_hidden d _ _
  | some st => exact queueReply_hidden d _ s

theorem validFrame_hidden (d : Domain) (f : Frame) {owner : State → State × Status × List Byte}
    (blind : BlindOwner owner) (s : State) : validFrame d f owner s.hidden = (validFrame d f owner s).hidden := by
  have told : (if d = .pay then restartSilence s.hidden else s.hidden) =
      (if d = .pay then restartSilence s else s).hidden := ite_hidden (restartSilence_hidden s) rfl
  unfold validFrame
  rw [told]
  generalize (if d = .pay then restartSilence s else s) = u
  dsimp only
  rw [replies_hidden]
  exact ite_hidden (setFlag_hidden d .overrun u) (execute_hidden d f blind u)

theorem wholeFrame_hidden (d : Domain) (f : Frame) {owner : State → State × Status × List Byte}
    (blind : BlindOwner owner) (s : State) : wholeFrame d f owner s.hidden = (wholeFrame d f owner s).hidden := by
  unfold wholeFrame
  rw [inBreak_hidden, setReceiver_hidden, validFrame_hidden d f blind]
  exact ite_hidden rfl rfl

theorem rxEvent_hidden (d : Domain) (e : RxEvent) (s : State) : rxEvent d e s.hidden = (rxEvent d e s).hidden := by
  cases e with
  | none => rfl
  | frameError => exact setFlag_hidden d .frameError s
  | frame f => exact validFrame_hidden d f (ownerOf_blind d f) s

theorem receive_hidden (d : Domain) (result : Receiver × RxEvent) (s : State) :
    receive d result s.hidden = (receive d result s).hidden := by
  unfold receive
  rw [inBreak_hidden, setReceiver_hidden, rxEvent_hidden]
  exact ite_hidden rfl rfl

theorem discardPartial_hidden (d : Domain) (s : State) : discardPartial d s.hidden = (discardPartial d s).hidden := by
  unfold discardPartial
  rw [rx_hidden, setReceiver_hidden, setFlag_hidden]
  exact ite_hidden rfl rfl

/-! ### Resets -/

theorem portLinkReset_hidden (d : Domain) (s : State) : portLinkReset d s.hidden = (portLinkReset d s).hidden := by
  cases d <;> rfl

theorem linkReset_hidden (d : Domain) (s : State) : linkReset d s.hidden = (linkReset d s).hidden := by
  have noticed : ∀ u : State, noticeLinkReset d u.hidden = (noticeLinkReset d u).hidden := fun _ => rfl
  unfold linkReset
  dsimp only
  rw [portLinkReset_hidden, switchLinkReset_hidden, noticed, restartSilence_hidden, endSession_hidden]
  exact ite_hidden rfl rfl

theorem fullReset_hidden (s : State) : fullReset s.hidden = (fullReset s).hidden := rfl

/-! ### Completions -/

theorem complete_hidden (d : Domain) (source : Source) {f : State → State} (acts : ∀ s, f s.hidden = (f s).hidden)
    (s : State) : complete d source f s.hidden = (complete d source f s).hidden := by
  have free : s.hidden.setPort d { s.hidden.port d with tx := none } =
      (s.setPort d { s.port d with tx := none }).hidden := by cases d <;> rfl
  unfold complete
  rw [isSending_hidden, free, acts]
  exact ite_hidden rfl rfl

theorem replyDone_hidden (d : Domain) (s : State) : replyDone d s.hidden = (replyDone d s).hidden := by
  unfold replyDone
  rw [replies_hidden]
  cases (s.port d).replies with
  | nil => rfl
  | cons r rs => exact ite_hidden (fullReset_hidden s) (by cases d <;> rfl)

theorem noticeDone_hidden (d : Domain) (s : State) : noticeDone d s.hidden = (noticeDone d s).hidden := by
  unfold noticeDone
  rw [show s.hidden.box d = s.box d from rfl]
  cases (s.box d).place <;> rfl

theorem deliveryDone_hidden (d : Domain) (s : State) : deliveryDone d s.hidden = (deliveryDone d s).hidden := by
  unfold deliveryDone
  rw [removeFrom_hidden, judgeSpace_hidden]

/-! ### The transmitter's choice -/

/-- A choice of a transmitter is made or not whatever the digits, and what it begins differs in digits alone. -/
def BlindChoice (f : State → Option State) : Prop := ∀ s, (f s.hidden).map State.hidden = (f s).map State.hidden

theorem BlindChoice.orElse {f g : State → Option State} (hf : BlindChoice f) (hg : BlindChoice g) :
    BlindChoice fun s => f s <|> g s := fun s => by
  have first := hf s
  cases hs : f s <;> cases ht : f s.hidden <;> rw [hs, ht] at first
  case none.none => simp only [hs, ht]; exact hg s
  case some.some => simp only [hs, ht]; exact first
  all_goals cases first

theorem BlindChoice.getD {f : State → Option State} (hf : BlindChoice f) : Blind fun s => (f s).getD s :=
  .of_hidden fun s => by
  have made := hf s
  cases hs : f s <;> cases ht : f s.hidden <;> rw [hs, ht] at made
  case none.none => exact s.hidden_hidden
  case some.some => exact Option.some.inj made
  all_goals cases made

/-- The beginning of a transmission that carries no digit. -/
theorem beginTx_hidden (d : Domain) (source : Source) (f : Frame) (s : State) (plain : source ≠ .entryEnd) :
    (beginTx d source f s.hidden).hidden = (beginTx d source f s).hidden := by
  have sent : (⟨source, f⟩ : Transmission).hidden = ⟨source, f⟩ := if_neg plain
  have same : beginTx d source f s.hidden = (beginTx d source f s).hidden := by
    cases d with
    | pay =>
      unfold beginTx State.hidden
      dsimp only [State.setPort, State.port, PerDomain.set, PerDomain.get, Option.map_some]
      rw [sent]
    | app => rfl
    | rad => rfl
  rw [same, State.hidden_hidden]

/-- Of an ENTRY-END in transmission the body alone, which holds the digits, is not seen. -/
theorem beginEntryEnd_hidden (e : EntryEnd) (s : State) :
    (beginTx .pay .entryEnd e.hidden.frame s.hidden).hidden = (beginTx .pay .entryEnd e.frame s).hidden :=
  (beginTx .pay .entryEnd e.frame s).hidden_hidden

theorem beginSessionFrame_blind (d : Domain) : BlindChoice (beginSessionFrame d) := fun s => by
  unfold beginSessionFrame
  cases d with
  | pay =>
    dsimp only
    rw [show s.hidden.entryEnd = s.entryEnd.map EntryEnd.hidden from rfl, show s.hidden.progress = s.progress from rfl]
    cases s.entryEnd with
    | some e => exact congrArg some (beginEntryEnd_hidden e s)
    | none =>
      cases s.progress with
      | nil => rfl
      | cons p ps =>
        exact congrArg some (beginTx_hidden .pay .progress p.frame s nofun)
  | app =>
    dsimp only
    rw [show s.hidden.inputs = s.inputs from rfl]
    cases s.inputs with
    | nil => rfl
    | cons e es => 
      exact congrArg some (beginTx_hidden .app .input (e.frame s.lost) { s with inputs := e :: es, lost := false } nofun)
  | rad => rfl

theorem beginNotice_blind (d : Domain) : BlindChoice (beginNotice d) := fun s => by
  unfold beginNotice
  rw [show s.hidden.box d = s.box d from rfl]
  cases (s.box d).place with
  | waiting =>
    exact congrArg some (beginTx_hidden d .notice (noticeFrame (s.box d).flags)
      (s.setBox d { s.box d with place := .sending (s.box d).flags }) nofun)
  | empty => rfl
  | sending carried => rfl

theorem beginDelivery_blind (d : Domain) : BlindChoice (beginDelivery d) := fun s => by
  unfold beginDelivery
  rw [show s.hidden.queue d = s.queue d from rfl, show s.hidden.active = s.active from rfl]
  cases (s.queue d).choose (s.active.weights.get d) with
  | none => rfl
  | some offered =>
    obtain ⟨c, run⟩ := offered
    dsimp only
    cases (s.queue d).oldest c with
    | none => rfl
    | some e =>
      exact congrArg some (beginTx_hidden d .delivery e.frame (s.setQueue d ((s.queue d).offer c run)) nofun)

theorem chooses_hidden (d : Domain) (s : State) :
    ((s.hidden.port d).tx = none ∧ (s.hidden.port d).ready = .high) ↔
      ((s.port d).tx = none ∧ (s.port d).ready = .high) := by
  cases d with
  | pay => exact and_congr (Option.map_eq_none_iff (x := (s.port .pay).tx)) .rfl
  | app => exact .rfl
  | rad => exact .rfl

theorem choose_blind (d : Domain) : Blind (choose d) := by
  refine .ite (chooses_hidden d) (.of_hidden fun s => ?_) .refl
  rw [replies_hidden]
  cases (s.port d).replies with
  | nil =>
    exact ((beginSessionFrame_blind d).orElse (beginNotice_blind d) |>.orElse (beginDelivery_blind d)).getD.hidden s
  | cons r rs => exact beginTx_hidden d .reply r.frame s nofun

theorem hasWaiting_hidden (d : Domain) (s : State) : s.hidden.hasWaiting d = s.hasWaiting d := by
  have pending : (s.hidden.entryEnd ≠ none) = (s.entryEnd ≠ none) :=
    propext (not_congr (Option.map_eq_none_iff (x := s.entryEnd)))
  unfold State.hasWaiting State.waitingCount
  simp only [isSending_hidden, replies_hidden, pending]
  rfl

theorem judgeStall_hidden (d : Domain) (s : State) : judgeStall d s.hidden = (judgeStall d s).hidden := by
  have set : ∀ t : Timer, s.hidden.setPort d { s.hidden.port d with stallTimer := t } =
      (s.setPort d { s.port d with stallTimer := t }).hidden := fun t => by cases d <;> rfl
  unfold judgeStall
  rw [set, set, hasWaiting_hidden, stallTimer_hidden,
    show (s.hidden.port d).stalled = (s.port d).stalled by rw [port_hidden],
    show (s.hidden.port d).ready = (s.port d).ready by rw [port_hidden]]
  exact ite_hidden (ite_hidden rfl rfl) rfl

/-- The end of every command: the transmitters choose and the stall timers are judged. -/
theorem finish_blind : Blind finish :=
  (Blind.foldl (fun d => .of_eq (judgeStall_hidden d)) allDomains).comp (.foldl (fun d => choose_blind d) allDomains)

end Sys2Proof.Machine
end

section
/-! PROOF. O60: the digits leave only in the ENTRY-END (R110, R116). Every command is one that does not look at them. -/

namespace Sys2Proof.Machine

open Sys2Proof

/-- A command that takes states which differ only in digits to such states. -/
def BlindCommand (e : State → Host.Outcome State Fault Refusal) : Prop :=
  ∀ s t u v, s.hidden = t.hidden → e s = .next u → e t = .next v → u.hidden = v.hidden

theorem BlindCommand.next {f : State → State} (blind : Blind f) : BlindCommand fun s => .next (f s) := by
  intro s t u v same hu hv
  cases hu
  cases hv
  exact blind s t same

theorem BlindCommand.of_blind {f : State → State} (blind : Blind f) : BlindCommand fun s => act s f :=
  .next (.ite (fun _ => .rfl) .refl ((finish_blind.comp takeReports_blind).comp blind))

/-- A command whose action does not look at the digits at all. -/
theorem BlindCommand.of_hidden {f : State → State} (acts : ∀ s, f s.hidden = (f s).hidden) :
    BlindCommand fun s => act s f := .of_blind (.of_eq acts)

theorem BlindCommand.guarded {c : State → Prop} [∀ s, Decidable (c s)] {f : State → State}
    (same : ∀ s, c s.hidden ↔ c s) (acts : ∀ s, f s.hidden = (f s).hidden) :
    BlindCommand fun s => act s fun s => if c s then f s else s :=
  .of_blind (.ite same (.of_eq acts) .refl)

theorem BlindCommand.of_pin {pin f : State → State} (pins : ∀ s, pin s.hidden = (pin s).hidden)
    (acts : ∀ s, f s.hidden = (f s).hidden) : BlindCommand fun s => actPin s pin f := by
  have both : ∀ s, actPin s pin f =
      .next (if s.inReset then pin s else if s.inReset then s else finish (takeReports (f s))) := fun s => by
    unfold actPin act
    split <;> rfl
  simp only [both]
  exact .next (.ite (fun _ => .rfl) (.of_eq pins)
    (.ite (fun _ => .rfl) .refl ((finish_blind.comp takeReports_blind).comp (.of_eq acts))))

theorem timerExpiry_hidden (timer : State → Timer) (outcome : SessionOutcome)
    (same : ∀ s : State, timer s.hidden = timer s) (s : State) :
    timerExpiry (timer s.hidden) outcome s.hidden = (timerExpiry (timer s) outcome s).hidden := by
  unfold timerExpiry
  rw [same, endSession_hidden]
  exact ite_hidden rfl rfl

theorem exec_blind (c : Instr) : BlindCommand (exec c) := by
  cases hc : requestOf c with
  | some df =>
    rw [show exec c = fun s => act s (wholeFrame df.1 df.2 (ownerOf df.1 df.2)) from funext (exec_request hc)]
    exact .of_hidden (wholeFrame_hidden _ _ (ownerOf_blind _ _))
  | none =>
    cases c with
    | lineError d => exact .of_blind (.ite (fun s => by rw [inBreak_hidden]) .refl (.of_eq (discardPartial_hidden d)))
    | serialBreak d => exact .of_blind (.ite (fun s => by rw [inBreak_hidden]) .refl (.of_eq (linkReset_hidden d)))
    | breakEnd d =>
      exact .guarded (fun s => by rw [inBreak_hidden]) fun s => by cases d <;> rfl
    | interByteTimeout d => exact .guarded (fun s => by rw [interByte_hidden]) (discardPartial_hidden d)
    | lengthOver512 d kind tag slot length => exact .of_hidden (receive_hidden d _)
    | frameCheckFail d kind tag slot body check => exact .of_hidden (receive_hidden d _)
    | readyAsserted d => exact .of_pin (fun s => by cases d <;> rfl) fun s => by cases d <;> rfl
    | readyDeasserted d => exact .of_pin (fun s => by cases d <;> rfl) fun s => by cases d <;> rfl
    | stallTimerExpiry d => exact .guarded (fun s => by rw [stallTimer_hidden]) fun s => by cases d <;> rfl
    | replyComplete d => exact .of_hidden (complete_hidden d .reply (replyDone_hidden d))
    | entryEndComplete => exact .of_hidden (complete_hidden .pay .entryEnd fun _ => rfl)
    | entryProgressComplete => exact .of_hidden (complete_hidden .pay .progress fun _ => rfl)
    | inputComplete => exact .of_hidden (complete_hidden .app .input fun _ => rfl)
    | noticeComplete d => exact .of_hidden (complete_hidden d .notice (noticeDone_hidden d))
    | deliveryComplete d => exact .of_hidden (complete_hidden d .delivery (deliveryDone_hidden d))
    | fullReset => exact .next (.of_eq fullReset_hidden)
    | fullResetEnd => exact .next (.ite (fun _ => .rfl) (finish_blind.comp (.of_eq endFullReset_hidden)) .refl)
    | refillTimerExpiry => exact .guarded (fun _ => .rfl) fun _ => rfl
    | scanTimerExpiry plate => exact .of_blind (scanExpiry_blind plate)
    | burstEnd codes => exact .of_blind (burstDone_blind codes)
    | supplyRequestTimerExpiry => exact .guarded (fun _ => .rfl) requestSupply_hidden
    | supplyConversionEnd code => exact .of_hidden (supplyDone_hidden code)
    | keyInputChange k l => exact .of_pin (fun _ => rfl) fun _ => rfl
    | keyDebounceExpiry k => exact .of_blind (debounceExpiry_blind k)
    | totalTimerExpiry => exact .of_hidden (timerExpiry_hidden (·.ctl.total) _ fun _ => rfl)
    | firstKeyTimerExpiry => exact .of_hidden (timerExpiry_hidden (·.ctl.firstKey) _ fun _ => rfl)
    | interKeyTimerExpiry => exact .of_hidden (timerExpiry_hidden (·.ctl.interKey) _ fun _ => rfl)
    | inputFrameStart lines => exact .of_hidden (inputFrameStart_hidden lines)
    | silenceWatchExpiry lines => exact .of_hidden (silenceExpiry_hidden lines)
    | localFrameEnd => exact .of_hidden (gateDo_hidden Gate.localEnd)
    | tamperPinChange i l => exact .of_pin (fun _ => rfl) fun _ => rfl
    | tamperFilterExpiry i => exact .of_hidden (filterExpiry_hidden i)
    | paySilenceExpiry =>
      exact .guarded (fun _ => .rfl) fun s => by rw [disarmSilence_hidden, endSession_hidden]
    | repeatTimerExpiry d => exact .of_hidden fun _ => rfl
    | receivedByte d b => exact .of_hidden fun s => by rw [rx_hidden, receive_hidden]
    | _ => cases hc

end Sys2Proof.Machine

open Sys2Proof Sys2Proof.Machine

/-- Settles O60: no command looks at the digits but those that take them in or send the ENTRY-END. -/
theorem digitsLeaveOnlyInTheEntryEnd : Obligations.DigitsLeaveOnlyInTheEntryEnd := fun c => exec_blind c

end

section
/-! PROOF. O46: the picture is composed from the input, the backdrop and the cells (R142–R144), and the output carries
it by the timing state (R133–R137). -/

namespace Sys2Proof.Machine

open Sys2Proof

/-! ### A glyph's ink (R143, R144) -/

/-- A position has a glyph's ink when it is a column and a row of the glyph away from the top-left pixel, and the
glyph's bit there is set. -/
theorem glyphInk_iff {store : GlyphStore} {i : Nat} {gx gy : Int} {x y : Nat} :
    glyphInk store i gx gy x y = true ↔
      ∃ dx dy : Nat, dx < 32 ∧ dy < 40 ∧ (x : Int) = gx + dx ∧ (y : Int) = gy + dy ∧
        glyphBit (store[i]?.getD []) dx dy = true := by
  simp only [glyphInk, Bool.and_eq_true, decide_eq_true_eq]
  constructor
  · rintro ⟨area, bit⟩
    exact ⟨((x : Int) - gx).toNat, ((y : Int) - gy).toNat, by omega, by omega, by omega, by omega, bit⟩
  · rintro ⟨dx, dy, column, row, hx, hy, bit⟩
    have left : ((x : Int) - gx).toNat = dx := by omega
    have top : ((y : Int) - gy).toNat = dy := by omega
    exact ⟨by omega, by rwa [left, top]⟩

variable {c : Cell} {store : GlyphStore} {dots x y i : Nat}

theorem ink?_of_noGlyph (glyph : c.glyph = none) : c.ink? store dots x y = false := by
  simp only [Cell.ink?, glyph]

theorem ink?_of_centred (glyph : c.glyph = some i) (role : c.role ≠ .dots) :
    c.ink? store dots x y = glyphInk store i c.glyphX c.glyphY x y := by
  simp only [Cell.ink?, glyph, if_neg role]

theorem ink?_of_dots (glyph : c.glyph = some i) (role : c.role = .dots) :
    c.ink? store dots x y = true ↔ ∃ k, k < dots ∧ c.x0 + 32 * k + 31 ≤ c.x1 ∧
      glyphInk store i ((c.x0 : Int) + 32 * k) c.glyphY x y = true := by
  simp only [Cell.ink?, glyph, if_pos role, List.any_eq_true, List.mem_range, Bool.and_eq_true, decide_eq_true_eq]

/-! ### The cell on top (R143) -/

variable {o : OverlaySet}

theorem cellPixel_of_uncovered (uncovered : ∀ c ∈ o.cells, ¬c.holds x y = true) : o.cellPixel store x y = none := by
  have found : o.cells.reverse.find? (fun c => c.holds x y) = none :=
    List.find?_eq_none.2 fun c here => uncovered c (List.mem_reverse.1 here)
  rw [OverlaySet.cellPixel, found]

theorem cellPixel_of_last {below above : List Cell} (cells : o.cells = below ++ c :: above) (here : c.holds x y = true)
    (last : ∀ b ∈ above, ¬b.holds x y = true) :
    o.cellPixel store x y = some (if c.ink? store o.dots x y then c.ink else c.fill) := by
  have reversed : o.cells.reverse = above.reverse ++ c :: below.reverse := by simp [cells]
  have found : o.cells.reverse.find? (fun c => c.holds x y) = some c :=
    List.find?_eq_some_iff_append.2 ⟨here, above.reverse, below.reverse, reversed,
      fun b mem => by simpa using last b (List.mem_reverse.1 mem)⟩
  rw [OverlaySet.cellPixel, found]

/-! ### One pixel by the presentation (R142) -/

variable {l : Layout} {input : Option Rgb}

theorem composePixel_of_clear (clear : o.presentation = .none) :
    composePixel l o input x y = input.getD o.backdrop := by
  simp only [composePixel, clear, ite_self]

theorem composePixel_of_lock (lock : o.presentation = .lock) : composePixel l o input x y = o.backdrop := by
  simp only [composePixel, lock, ite_self]

theorem composePixel_of_overlay (overlay : o.presentation = .overlay) :
    composePixel l o input x y = if x < l.w ∧ y < l.h
      then (o.cellPixel l.glyphs x y).getD (input.getD o.backdrop) else input.getD o.backdrop := by
  simp only [composePixel, overlay]

theorem composePixel_of_full (full : o.presentation = .full) :
    composePixel l o input x y = if x < l.w ∧ y < l.h
      then (o.cellPixel l.glyphs x y).getD o.backdrop else o.backdrop := by
  simp only [composePixel, full]

/-- A cell pixel falls back on the ground outside the geometry, and where no cell lies. -/
theorem ground_of_uncovered {ground : Rgb}
    (bare : ¬(x < l.w ∧ y < l.h) ∨ ∀ c ∈ o.cells, ¬c.holds x y = true) :
    (if x < l.w ∧ y < l.h then (o.cellPixel l.glyphs x y).getD ground else ground) = ground := by
  rcases bare with outside | uncovered
  · exact if_neg outside
  · rw [cellPixel_of_uncovered uncovered, Option.getD_none, ite_self]

theorem composePixel_of_last {below above : List Cell} (keypad : o.presentation = .overlay ∨ o.presentation = .full)
    (inside : x < l.w ∧ y < l.h) (cells : o.cells = below ++ c :: above) (here : c.holds x y = true)
    (last : ∀ b ∈ above, ¬b.holds x y = true) :
    composePixel l o input x y = if c.ink? l.glyphs o.dots x y then c.ink else c.fill := by
  rcases keypad with overlay | full
  · rw [composePixel_of_overlay overlay, if_pos inside, cellPixel_of_last cells here last, Option.getD_some]
  · rw [composePixel_of_full full, if_pos inside, cellPixel_of_last cells here last, Option.getD_some]

/-! ### What the output runs on (R133–R137) -/

variable {g : Gate}

theorem outputSource_of_following (follows : g.timing = .follow ∧ g.stopped = false ∨ g.timing = .toLocal) :
    g.outputSource = .input := by
  rcases follows with ⟨follow, running⟩ | toLocal
  · simp only [Gate.outputSource, follow, running, if_neg Bool.false_ne_true]
  · simp only [Gate.outputSource, toLocal]

theorem outputSource_of_own (own : g.timing = .localTiming ∨ g.timing = .toFollow) : g.outputSource = .localFrame := by
  rcases own with localTiming | toFollow
  · simp only [Gate.outputSource, localTiming]
  · simp only [Gate.outputSource, toFollow]

theorem outputSource_of_idle (unled : ¬(g.timing = .follow ∧ g.stopped = false ∨ g.timing = .toLocal))
    (foreign : ¬(g.timing = .localTiming ∨ g.timing = .toFollow)) : g.outputSource = .idle := by
  cases timing : g.timing with
  | follow =>
    have stopped : g.stopped = true := by simpa [timing] using unled
    simp only [Gate.outputSource, timing, stopped, if_true]
  | toLocal => exact absurd (.inr timing) unled
  | localTiming => exact absurd (.inl timing) foreign
  | toFollow => exact absurd (.inr timing) foreign
  | rejoin => simp only [Gate.outputSource, timing]

variable {vin : Rgb}

theorem panelPixel_of_input (source : g.outputSource = .input) :
    g.panelPixel vin x y = some (composePixel g.layout g.active (some vin) x y) := by
  simp only [Gate.panelPixel, source]

theorem panelPixel_of_localFrame (source : g.outputSource = .localFrame) :
    g.panelPixel vin x y = if x < g.layout.w ∧ y < g.layout.h
      then some (composePixel g.layout g.active none x y) else none := by
  simp only [Gate.panelPixel, source]

theorem panelPixel_of_idle (source : g.outputSource = .idle) : g.panelPixel vin x y = none := by
  simp only [Gate.panelPixel, source]

variable {pins : VideoPins} {moment : Nat} {at? : Option (Nat × Nat)}

theorem voutPins_of_input (source : g.outputSource = .input) : g.voutPins pins moment at? = pins := by
  simp only [Gate.voutPins, source]

theorem voutPins_de_of_localFrame (source : g.outputSource = .localFrame) :
    (g.voutPins pins moment at?).de = true ↔ ∃ p ∈ at?, p.1 < g.layout.w ∧ p.2 < g.layout.h := by
  simp [Gate.voutPins, source, Option.any_eq_true]

theorem voutPins_of_idle (source : g.outputSource = .idle) :
    (g.voutPins pins moment at?).de = false ∧ (g.voutPins pins moment at?).vsync = false ∧
      (g.voutPins pins moment at?).hsync = false := by
  simp only [Gate.voutPins, source, and_self]

end Sys2Proof.Machine

open Sys2Proof Sys2Proof.Machine

/-- Settles O46: the pixel by the presentation (`composePixel_of_last` on a cell, `ground_of_uncovered` off the cells),
the output by what it runs on (`outputSource_of_following` and its fellows), and the ink by `glyphInk_iff`. -/
theorem pixelsAreComposed : Obligations.PixelsAreComposed := by
  refine ⟨fun l o input x y => ?picture, fun g vin x y => ?output, fun c store dots x y => ink?_of_noGlyph,
    fun c store dots x y i glyph => ?ink⟩
  case picture =>
    intro under inside holds pixel
    have holds_iff (c : Cell) : c.holds x y = true ↔ holds c := decide_eq_true_iff
    have bare (h : ¬inside ∨ ∀ c ∈ o.cells, ¬holds c) : ¬inside ∨ ∀ c ∈ o.cells, ¬c.holds x y = true := by
      simpa only [holds_iff] using h
    refine ⟨composePixel_of_clear, composePixel_of_lock,
      fun overlay h => (composePixel_of_overlay overlay).trans (ground_of_uncovered (bare h)),
      fun full h => (composePixel_of_full full).trans (ground_of_uncovered (bare h)), ?_⟩
    intro below c above keypad within cells here last
    exact composePixel_of_last keypad within cells ((holds_iff c).2 here)
      fun b mem => mt (holds_iff b).1 (last b mem)
  case output =>
    intro inside follows own carries
    refine ⟨fun h => panelPixel_of_input (outputSource_of_following h),
      fun h within => (panelPixel_of_localFrame (outputSource_of_own h)).trans (if_pos within),
      fun h outside => (panelPixel_of_localFrame (outputSource_of_own h)).trans (if_neg outside),
      fun unled foreign => panelPixel_of_idle (outputSource_of_idle unled foreign),
      fun pins moment at? => ⟨fun h => voutPins_of_input (outputSource_of_following h),
        fun h => voutPins_de_of_localFrame (outputSource_of_own h),
        fun unled foreign => voutPins_of_idle (outputSource_of_idle unled foreign)⟩⟩
  case ink =>
    intro top ink
    have ink_iff (left : Int) : glyphInk store i.val left c.glyphY x y = true ↔ ink left := by
      rw [glyphInk_iff, Vector.getElem?_eq_getElem i.isLt]
      rfl
    refine ⟨fun role => ?_, fun role => ?_⟩
    · rw [ink?_of_centred glyph role]
      exact ink_iff c.glyphX
    · simp only [ink?_of_dots glyph role, ink_iff]

end

section
/-! PROOF. O16, O30 and O48: what sets and clears the flags of a notice box, a completed NOTICE and the repeat timer
(R160–R165). -/

namespace Sys2Proof.Machine

open Sys2Proof

/-! ### One notice box -/

theorem State.setBox_box (s : State) (d : Domain) : s.setBox d (s.box d) = s := by
  rw [State.setBox, State.box, PerDomain.set_get]

theorem setFlag_of_set {b : NoticeBox} {f : Flag} (set : hasFlag b.flags f = true) (m : NoticeMode) :
    b.setFlag m f = b := if_pos set

theorem setFlag_of_clear {b : NoticeBox} {f : Flag} (clear : hasFlag b.flags f = false) (m : NoticeMode) :
    b.setFlag m f = judgeRepeat m (riseOnPlace { b with flags := b.flags ||| f.mask }) :=
  if_neg (Bool.eq_false_iff.1 clear)

theorem setFlag_flags_ne_zero (b : NoticeBox) (m : NoticeMode) (f : Flag) : (b.setFlag m f).flags ≠ 0 := fun none => by
  have set := b.hasFlag_setFlag m f
  rw [none] at set
  simp [hasFlag] at set

/-- A rise on the place and the follow-up mark (R161). -/
theorem setFlag_place_of_clear {b : NoticeBox} {f : Flag} (clear : hasFlag b.flags f = false) (m : NoticeMode) :
    (b.setFlag m f).place = if b.place = .empty then .waiting else b.place := by
  rw [setFlag_of_clear clear, judgeRepeat_place, riseOnPlace_place]

theorem setFlag_followUp_of_clear {b : NoticeBox} {f : Flag} (clear : hasFlag b.flags f = false) (m : NoticeMode) :
    (b.setFlag m f).followUp = (b.followUp || decide (b.place ≠ .empty ∧ b.place ≠ .waiting)) := by
  rw [setFlag_of_clear clear, judgeRepeat_followUp, riseOnPlace_followUp]

/-- A rise on the repeat timer: of its three conditions the flag is met (R165). -/
theorem setFlag_repeatTimer_of_clear {b : NoticeBox} {f : Flag} (clear : hasFlag b.flags f = false) (m : NoticeMode) :
    (b.setFlag m f).repeatTimer =
      if m.report = .repeated ∧ m.clear = .onClear then
        (if b.repeatTimer = .stopped then .running 500 else b.repeatTimer)
      else .stopped := by
  have some := setFlag_flags_ne_zero b m f
  rw [setFlag_of_clear clear, judgeRepeat_flags] at some
  rw [setFlag_of_clear clear, judgeRepeat_repeatTimer, riseOnPlace_repeatTimer]
  simp only [some, ne_eq, not_false_eq_true, and_true]

theorem clearFlags_flags (b : NoticeBox) (m : NoticeMode) (named : Word16) :
    (b.clearFlags m named).flags = b.flags &&& ~~~named := by
  unfold NoticeBox.clearFlags
  dsimp only
  split
  · rfl
  · rw [judgeRepeat_flags]

/-- Clearing the last flag withdraws a NOTICE that waits (R163). -/
theorem clearFlags_of_none {b : NoticeBox} {named : Word16} (none : b.flags &&& ~~~named = 0) (m : NoticeMode) :
    b.clearFlags m named = ⟨b.flags &&& ~~~named, if b.place = .waiting then .empty else b.place, false, .stopped⟩ := by
  refine (if_pos none).trans ?_
  cases b.place <;> rfl

theorem clearFlags_of_some {b : NoticeBox} {named : Word16} (some : b.flags &&& ~~~named ≠ 0) (m : NoticeMode) :
    b.clearFlags m named = judgeRepeat m { b with flags := b.flags &&& ~~~named } := if_neg some

theorem repeatHolds_eq_true_iff (m : NoticeMode) (flags : Word16) :
    repeatHolds m flags = true ↔ m.report = .repeated ∧ m.clear = .onClear ∧ flags ≠ 0 := decide_eq_true_iff

/-- A running repeat timer runs out (R165). -/
theorem repeatExpire_of_running {b : NoticeBox} (running : b.repeatTimer.isRunning = true) :
    b.repeatExpire =
      { b with repeatTimer := .expired, place := if b.place = .empty then .waiting else b.place } := by
  refine (if_pos running).trans ?_
  cases b.place <;> rfl

/-! ### The commands -/

/-- The two bytes of a flag set, the low one first (chapter 1). -/
theorem ofNat_wordAt (lo hi : Byte) : BitVec.ofNat 16 (wordAt [lo, hi] 0) = hi ++ lo := by
  refine BitVec.eq_of_toNat_eq ?_
  have joined : wordAt [lo, hi] 0 = lo.toNat + 256 * hi.toNat := rfl
  rw [BitVec.toNat_append, ← Nat.shiftLeft_add_eq_or_of_lt lo.isLt, Nat.shiftLeft_eq, BitVec.toNat_ofNat, joined]
  omega

theorem portCheck_clear (d : Domain) (tag slot lo hi : Byte) : portCheck d ⟨0x03, tag, slot, [lo, hi]⟩ = none := by
  cases d <;> rfl

theorem portCheck_noticeTest (d : Domain) (tag slot : Byte) : portCheck d ⟨0x04, tag, slot, []⟩ = none := by
  cases d <;> rfl

theorem exec_clear_eq {d : Domain} {s : State} (h : s.Accepts d) (tag slot lo hi : Byte) :
    exec (.clear d tag slot [lo, hi]) s =
      .next (finish (((s.arrived d).setBox d ((s.box d).clearFlags (s.noticeMode d) (hi ++ lo))).answered d
        ⟨0x03, tag, slot, [lo, hi]⟩ .ok [])) := by
  obtain ⟨⟨live, -⟩, -⟩ := id h
  refine act_eq live ((wholeFrame_of_accepts h _ _).trans ?_) rfl
  refine (execute_of_passed (portCheck_clear d tag slot lo hi) _ _).trans ?_
  rw [runClear, ofNat_wordAt]
  rfl

theorem exec_noticeTest_eq {d : Domain} {s : State} (h : s.Accepts d) (tag slot : Byte) :
    exec (.noticeTest d tag slot []) s =
      .next (finish ((setFlag d .test (s.arrived d)).answered d ⟨0x04, tag, slot, []⟩ .ok [])) := by
  obtain ⟨⟨live, -⟩, -⟩ := id h
  exact act_eq live ((wholeFrame_of_accepts h _ _).trans (execute_of_passed (portCheck_noticeTest d tag slot) _ _)) rfl

theorem noticeDone_of_sending {d : Domain} {carried : Word16} {s : State}
    (sending : (s.box d).place = .sending carried) :
    noticeDone d s = s.setBox d ((s.box d).complete (s.noticeMode d) carried) := by
  rw [noticeDone, sending]

end Sys2Proof.Machine

open Sys2Proof Sys2Proof.Machine

/-- Settles O16: CLEAR by whether a flag is left (`clearFlags_of_some`, `clearFlags_of_none`), NOTICE-TEST by its
owner. -/
theorem clearAndNoticeTestAct : Obligations.ClearAndNoticeTestAct := by
  intro d tag slot lo hi s accepts
  have flags := clearFlags_flags (s.box d) (s.noticeMode d) (hi ++ lo)
  refine ⟨⟨_, exec_clear_eq accepts tag slot lo hi, flags, fun some => ?_, fun none => ?_⟩,
    exec_noticeTest_eq accepts tag slot⟩
  · rw [flags] at some
    rw [clearFlags_of_some some, judgeRepeat_place, judgeRepeat_followUp, judgeRepeat_repeatTimer]
    simp only [some, ne_eq, not_false_eq_true, and_true]
    exact ⟨trivial, trivial, rfl⟩
  · rw [flags] at none
    rw [clearFlags_of_none none]
    exact ⟨rfl, rfl, rfl⟩

/-- Settles O30: the transmitter is freed, and the box completes (`noticeDone_of_sending`). -/
theorem noticeCompletes : Obligations.NoticeCompletes := by
  intro d carried s live sending place m flags
  have completed : (s.box d).complete m carried =
      ⟨flags, if (s.box d).followUp = true ∧ flags ≠ 0 then .waiting else .empty, false,
        if m.report = .repeated ∧ m.clear = .onClear ∧ flags ≠ 0 then .running 500 else .stopped⟩ := by
    simp only [NoticeBox.complete, repeatHolds_eq_true_iff]
    rfl
  change execNoticeComplete d s = _
  rw [← completed]
  exact act_eq live ((complete_of_sending sending _).trans (noticeDone_of_sending (s := txOver d s) place)) rfl

/-- Settles O48: a flag that is set changes nothing, a rise acts field by field, and a repeat timer that runs out makes
the place due. -/
theorem flagsRiseAndRepeat : Obligations.FlagsRiseAndRepeat := by
  intro d f s b m
  refine ⟨⟨fun set => ?_, fun clear => ?_⟩, fun live running => ?_⟩
  · rw [setFlag, setFlag_of_set set, State.setBox_box]
  · have timer := setFlag_repeatTimer_of_clear clear m
    refine ⟨b.setFlag m f, rfl, setFlag_getLsbD b m f, setFlag_place_of_clear clear m,
      setFlag_followUp_of_clear clear m, fun repeated onClear stopped => ?_, fun repeated onClear runs => ?_,
      fun ends => ?_⟩
    · rw [timer, if_pos ⟨repeated, onClear⟩, if_pos stopped]
    · rw [timer, if_pos ⟨repeated, onClear⟩, if_neg runs]
    · rw [timer, if_neg]
      rintro ⟨repeated, onClear⟩
      rcases ends with edge | onReport
      · rw [edge] at repeated; cases repeated
      · rw [onReport] at onClear; cases onClear
  · change execRepeatTimerExpiry d s = _
    rw [← repeatExpire_of_running running]
    exact act_eq live rfl rfl
end

section
/-! PROOF. What the notice invariant looks at (`State.noticeUnit`), and the operations that leave it alone: the session,
the gate, the mapper and the scans set no flag but through the losses, the trips and the purges of LOCKED. -/

namespace Sys2Proof.Machine

open Sys2Proof

/-- The notice modes in force and the notice boxes. -/
def State.noticeUnit (s : State) : PerDomain NoticeMode × PerDomain NoticeBox := (s.active.notices, s.notices)

theorem ite_noticeUnit {s t u : State} {c : Prop} [Decidable c] (ht : t.noticeUnit = s.noticeUnit)
    (hu : u.noticeUnit = s.noticeUnit) : (if c then t else u).noticeUnit = s.noticeUnit := by split <;> assumption

theorem foldl_noticeUnit {α : Type} {f : State → α → State} (h : ∀ s a, (f s a).noticeUnit = s.noticeUnit)
    (l : List α) (s : State) : (l.foldl f s).noticeUnit = s.noticeUnit :=
  foldl_keeps (inv := fun t => t.noticeUnit = s.noticeUnit) (fun t a ht => (h t a).trans ht) l rfl

theorem ArbiterOnly.noticeUnit {s t : State} (h : ArbiterOnly s t) : t.noticeUnit = s.noticeUnit := by
  obtain ⟨_, _, _, _, rfl⟩ := h
  rfl

theorem restartSilence_noticeUnit (s : State) : (restartSilence s).noticeUnit = s.noticeUnit := ite_noticeUnit rfl rfl

/-! ### Leaving and entering OPEN -/

theorem markHeld_noticeUnit (s : State) : (markHeld s).noticeUnit = s.noticeUnit := rfl

theorem leaveOpen_noticeUnit (s : State) : (leaveOpen s).noticeUnit = s.noticeUnit := by
  have stroke : (cancelStroke s).noticeUnit = s.noticeUnit := by unfold cancelStroke; split <;> rfl
  have keys : ∀ t k, (cancelKey t k).noticeUnit = t.noticeUnit := fun _ _ => ite_noticeUnit rfl rfl
  exact (markHeld_noticeUnit _).trans ((foldl_noticeUnit keys allKeys _).trans stroke)

theorem enterOpen_noticeUnit (s : State) : (enterOpen s).noticeUnit = s.noticeUnit := by
  rw [enterOpen_eq_openedAgain]; rfl

theorem enterReleasing_noticeUnit (s : State) : (enterReleasing s).noticeUnit = s.noticeUnit :=
  ite_noticeUnit (enterOpen_noticeUnit _) rfl

/-! ### The course and the ends of a session -/

theorem removeOverlay_noticeUnit (p : SessionPresentation) (s : State) :
    (removeOverlay p s).noticeUnit = s.noticeUnit := ite_noticeUnit rfl rfl

theorem endSecure_noticeUnit (o : SessionOutcome) (r : Session) (s : State) :
    (endSecure o r s).noticeUnit = s.noticeUnit := removeOverlay_noticeUnit r.presentation (s.setCtl s.ctl.erased)

theorem endEarly_noticeUnit (o : SessionOutcome) (r : Session) (s : State) :
    (endEarly o r s).noticeUnit = s.noticeUnit := by
  have cleared : (if s.ctl.state = .presenting then removeOverlay r.presentation (s.setCtl s.ctl.erased)
      else s.setCtl s.ctl.erased).noticeUnit = s.noticeUnit := ite_noticeUnit (removeOverlay_noticeUnit _ _) rfl
  exact (enterReleasing_noticeUnit _).trans cleared

theorem endSession_noticeUnit (o : SessionOutcome) (s : State) : (endSession o s).noticeUnit = s.noticeUnit := by
  unfold endSession
  split
  · rfl
  · split
    · exact endEarly_noticeUnit _ _ s
    · exact endEarly_noticeUnit _ _ s
    · exact endSecure_noticeUnit _ _ s
    all_goals rfl

theorem onReport_noticeUnit (s : State) (g : GateReport) : (onReport s g).noticeUnit = s.noticeUnit := by
  unfold onReport
  split
  · split <;> rfl
  · exact ite_noticeUnit (enterReleasing_noticeUnit s) rfl
  · exact ite_noticeUnit rfl rfl
  · split
    · rfl
    · exact ite_noticeUnit (endSession_noticeUnit _ s) rfl

theorem takeWave_noticeUnit (s : State) : (takeWave s).noticeUnit = s.noticeUnit :=
  foldl_noticeUnit onReport_noticeUnit s.reports { s with reports := [] }

theorem takeReports_noticeUnit (s : State) : (takeReports s).noticeUnit = s.noticeUnit :=
  (takeWave_noticeUnit _).trans (takeWave_noticeUnit s)

theorem endArming_noticeUnit (s : State) : (endArming s).noticeUnit = s.noticeUnit := by
  unfold endArming
  split
  · rfl
  · rename_i r _
    have asked : (if r.presentation = .full then askLocal (writeSet (secureSet s.active r) s)
      else writeSet (secureSet s.active r) s).noticeUnit = s.noticeUnit := ite_noticeUnit rfl rfl
    exact asked

theorem noContactReport_noticeUnit (s : State) : (noContactReport s).noticeUnit = s.noticeUnit := by
  unfold noContactReport
  split
  · exact (takeReports_noticeUnit _).trans (endArming_noticeUnit s)
  · exact enterOpen_noticeUnit s
  all_goals rfl

theorem beginSession_noticeUnit (r : Session) (s : State) : (beginSession r s).noticeUnit = s.noticeUnit := by
  have arms : (arming r s).noticeUnit = s.noticeUnit := leaveOpen_noticeUnit (s.setCtl (recordedCtl r s.ctl))
  rw [beginSession_eq]
  exact ite_noticeUnit ((takeReports_noticeUnit _).trans ((endArming_noticeUnit _).trans arms)) arms

/-! ### Keys, strokes and their routing -/

/-- An accepted key that changes the buffer and tells PAY (R111, R112). -/
theorem acceptedBuffer_noticeUnit (r : Session) (ds : List Nat) (n : Nat) (s : State) :
    (pushProgress .accepted n (setBuffer ds (acceptedKey r s))).noticeUnit = s.noticeUnit := by
  have set : (setBuffer ds (acceptedKey r s)).noticeUnit = s.noticeUnit := ite_noticeUnit rfl rfl
  exact set

theorem pressDigit_noticeUnit (r : Session) (n : Nat) (s : State) : (pressDigit r n s).noticeUnit = s.noticeUnit :=
  ite_noticeUnit (ite_noticeUnit ((endSession_noticeUnit _ _).trans (acceptedBuffer_noticeUnit r _ _ s))
    (acceptedBuffer_noticeUnit r _ _ s)) rfl

theorem pressBack_noticeUnit (r : Session) (s : State) : (pressBack r s).noticeUnit = s.noticeUnit :=
  ite_noticeUnit rfl (acceptedBuffer_noticeUnit r _ _ s)

theorem pressEnter_noticeUnit (r : Session) (s : State) : (pressEnter r s).noticeUnit = s.noticeUnit :=
  ite_noticeUnit (endSession_noticeUnit .complete (acceptedKey r s)) rfl

theorem pressCell_noticeUnit (r : Session) (i : Nat) (s : State) : (pressCell r i s).noticeUnit = s.noticeUnit := by
  unfold pressCell
  split
  · rfl
  · split
    · exact pressDigit_noticeUnit _ _ s
    · exact pressBack_noticeUnit _ s
    · exact acceptedBuffer_noticeUnit r _ _ s
    · exact pressEnter_noticeUnit _ s
    · exact endSession_noticeUnit _ s
    all_goals rfl

theorem sessionPress_noticeUnit (r : Session) (k : Key) (s : State) :
    (sessionPress r k s).noticeUnit = s.noticeUnit := by
  unfold sessionPress
  split
  · exact endSession_noticeUnit _ s
  · exact acceptedBuffer_noticeUnit r _ _ s
  · exact pressEnter_noticeUnit _ s
  all_goals rfl

theorem sessionUpdate_noticeUnit (r : Session) (q : Position) (s : State) :
    (sessionUpdate r q s).noticeUnit = s.noticeUnit := by
  unfold sessionUpdate
  split
  · exact ite_noticeUnit rfl rfl
  · rfl

theorem sessionUp_noticeUnit (r : Session) (x y : Nat) (s : State) : (sessionUp r x y s).noticeUnit = s.noticeUnit := by
  unfold sessionUp
  split
  · exact ite_noticeUnit (endSession_noticeUnit .complete _) rfl
  · split
    · exact pressCell_noticeUnit _ _ s
    · rfl
    · rfl

theorem routeDown_noticeUnit (n : Nat) (q : Position) (s : State) : (routeDown n q s).noticeUnit = s.noticeUnit := by
  unfold routeDown
  split
  · rfl
  · unfold sessionDown; split <;> rfl
  · rfl

theorem routeUpdate_noticeUnit (n : Nat) (q : Position) (m : Bool) (s : State) :
    (routeUpdate n q m s).noticeUnit = s.noticeUnit := by
  unfold routeUpdate
  split
  · exact ite_noticeUnit rfl rfl
  · exact ite_noticeUnit (sessionUpdate_noticeUnit _ _ s) rfl
  · rfl

theorem routeUp_noticeUnit (n : Nat) (q : Position) (u : Bool) (x y : Nat) (s : State) :
    (routeUp n q u x y s).noticeUnit = s.noticeUnit := by
  unfold routeUp
  split
  · exact ite_noticeUnit rfl rfl
  · exact ite_noticeUnit ((takeReports_noticeUnit _).trans (sessionUp_noticeUnit _ x y (endMarks n s))) rfl
  · rfl

theorem routePress_noticeUnit (k : Key) (s : State) : (routePress k s).noticeUnit = s.noticeUnit := by
  unfold routePress
  split
  · rfl
  · exact sessionPress_noticeUnit _ _ s
  · rfl

/-! ### Scans and side keys -/

theorem takeTouch_noticeUnit (s : State) (r : TouchReport) : (takeTouch s r).noticeUnit = s.noticeUnit := by
  cases r with
  | start x y => rfl
  | track x y => exact ite_noticeUnit (ite_noticeUnit (routeUpdate_noticeUnit _ _ _ _) rfl) rfl
  | down x y => exact ite_noticeUnit (routeDown_noticeUnit _ _ _) rfl
  | up u => exact routeUp_noticeUnit _ _ _ _ _ _
  | drop => rfl

theorem endScan_noticeUnit (t : Touch) (k : ScanKind) (s : State) : (endScan t k s).noticeUnit = s.noticeUnit := by
  have taken : ((s.frontEnd.apply t k).2.foldl takeTouch
      { s with frontEnd := { (s.frontEnd.apply t k).1 with progress := .none } }).noticeUnit = s.noticeUnit :=
    foldl_noticeUnit takeTouch_noticeUnit _ _
  exact ite_noticeUnit ((noContactReport_noticeUnit _).trans taken) taken

theorem beginScan_noticeUnit (plate : Word16) (s : State) : (beginScan plate s).noticeUnit = s.noticeUnit :=
  ite_noticeUnit (requestBurst_arbiter _).noticeUnit (endScan_noticeUnit _ _ _)

theorem scanExpiry_noticeUnit (plate : Word16) (s : State) : (scanExpiry plate s).noticeUnit = s.noticeUnit :=
  ite_noticeUnit (ite_noticeUnit (beginScan_noticeUnit plate _) rfl) rfl

theorem burstDone_noticeUnit (codes : Burst) (s : State) : (burstDone codes s).noticeUnit = s.noticeUnit :=
  ite_noticeUnit ((endScan_noticeUnit _ _ _).trans (grantNext_arbiter _).noticeUnit) rfl

theorem startFrontEnd_noticeUnit (s : State) : (startFrontEnd s).noticeUnit = s.noticeUnit :=
  ite_noticeUnit (noContactReport_noticeUnit _) rfl

theorem debounceExpiry_noticeUnit (k : Key) (s : State) : (debounceExpiry k s).noticeUnit = s.noticeUnit := by
  have released : ∀ t, (routeRelease k t).noticeUnit = t.noticeUnit := fun _ => ite_noticeUnit rfl rfl
  exact ite_noticeUnit (ite_noticeUnit (routePress_noticeUnit k _) (released _)) rfl

/-! ### The owners of requests that set no flag -/

theorem runPost_noticeUnit (d : Domain) (slot : Byte) (body : List Byte) (s : State) :
    (runPost d slot body s).1.noticeUnit = s.noticeUnit := by
  have accepted : ∀ slot channel c payload, (acceptPost s d slot channel c payload).noticeUnit = s.noticeUnit :=
    fun slot channel c payload => ite_noticeUnit (t := setLevel s slot _) (u := s) rfl rfl
  unfold runPost
  dsimp only
  split
  · rfl
  · split
    · rfl
    · split
      · rfl
      · split
        · exact accepted _ _ _ _
        · rfl
        · rfl

theorem runLoad_noticeUnit (body : List Byte) (s : State) : (runLoad body s).1.noticeUnit = s.noticeUnit := by
  rw [runLoad_eq]; rfl

theorem runEntryBegin_noticeUnit (body : List Byte) (s : State) :
    (runEntryBegin body s).1.noticeUnit = s.noticeUnit := by
  unfold runEntryBegin
  split
  · rfl
  · split
    · rfl
    · split
      · rfl
      · exact beginSession_noticeUnit _ s

theorem runEntryAbort_noticeUnit (s : State) : (runEntryAbort s).1.noticeUnit = s.noticeUnit := by
  unfold runEntryAbort
  split
  · exact (takeReports_noticeUnit _).trans (endSession_noticeUnit _ s)
  · rfl

theorem acceptUnlock_noticeUnit (s : State) : (acceptUnlock s).noticeUnit = s.noticeUnit :=
  (takeReports_noticeUnit _).trans (enterReleasing_noticeUnit _)

theorem runUnlock_noticeUnit (s : State) : (runUnlock s).1.noticeUnit = s.noticeUnit := by
  unfold runUnlock
  split
  · rfl
  · split
    · rfl
    · split
      · rfl
      · exact acceptUnlock_noticeUnit s

end Sys2Proof.Machine
end

section
/-! PROOF. O58: a notice box in order stays so, whatever acts on it (R160–R166). -/

namespace Sys2Proof.Machine

open Sys2Proof

/-! ### One box -/

/-- A box of domain `d`, the repeat timer apart: its own flags, a NOTICE that waits for one of them, a follow-up mark
behind a NOTICE in transmission (R160–R163). -/
structure NoticeBox.Sound (d : Domain) (b : NoticeBox) : Prop where
  own : b.flags &&& ~~~(flagMask d) = 0
  waits : b.place = .waiting → b.flags ≠ 0
  follows : b.followUp = true → b.place.Sends

/-- A box in order under mode `m`: the repeat timer is not stopped exactly while its conditions hold (R165). -/
structure NoticeBox.InOrder (d : Domain) (m : NoticeMode) (b : NoticeBox) : Prop extends NoticeBox.Sound d b where
  repeats : b.repeatTimer ≠ .stopped ↔ m.report = .repeated ∧ m.clear = .onClear ∧ b.flags ≠ 0

theorem noticeInv_iff (s : State) : s.NoticeInv ↔ ∀ d, (s.box d).InOrder d (s.noticeMode d) := by
  constructor
  · intro h d
    obtain ⟨own, waits, follows, repeats⟩ := h d (mem_allDomains d)
    exact ⟨⟨own, waits, follows⟩, repeats⟩
  · intro h d _
    obtain ⟨⟨own, waits, follows⟩, repeats⟩ := h d
    exact ⟨own, waits, follows, repeats⟩

theorem NoticeBox.blank_inOrder (d : Domain) (m : NoticeMode) : NoticeBox.blank.InOrder d m where
  own := BitVec.zero_and
  waits h := by cases h
  follows h := by cases h
  repeats := ⟨fun runs => absurd rfl runs, fun ⟨_, _, flagged⟩ => absurd rfl flagged⟩

theorem repeatTimer_ite_iff {c : Prop} [Decidable c] {t : Timer} (h : t ≠ .stopped) :
    (if c then t else .stopped) ≠ .stopped ↔ c := by
  split <;> simp_all

/-- Judging the repeat timer afresh puts a sound box in order (R165). -/
theorem NoticeBox.Sound.judged {d : Domain} {b : NoticeBox} (h : b.Sound d) (m : NoticeMode) :
    (judgeRepeat m b).InOrder d m := by
  obtain ⟨own, waits, follows⟩ := h
  have started : (if b.repeatTimer = .stopped then .running 500 else b.repeatTimer) ≠ .stopped := by
    split
    · exact fun h => by cases h
    · assumption
  refine ⟨⟨?_, ?_, ?_⟩, ?_⟩
  · rw [judgeRepeat_flags]; exact own
  · rw [judgeRepeat_place, judgeRepeat_flags]; exact waits
  · rw [judgeRepeat_followUp, judgeRepeat_place]; exact follows
  · rw [judgeRepeat_repeatTimer, judgeRepeat_flags]; exact repeatTimer_ite_iff started

/-! ### The flags of a domain (chapter 9, FLAGS) -/

theorem mask_own {d : Domain} {f : Flag} (h : f ∈ domainFlags d) : f.mask &&& ~~~(flagMask d) = 0 := by
  have all : ∀ d, ∀ f ∈ domainFlags d, f.mask &&& ~~~(flagMask d) = 0 := by intro d; cases d <;> decide
  exact all d f h

/-- Some flags are every domain's. -/
theorem mem_domainFlags_of_shared {f : Flag} (h : f ∈ [Flag.restarted, .frameError, .overrun, .queueSpace, .test])
    (d : Domain) : f ∈ domainFlags d := by
  have all : ∀ f ∈ [Flag.restarted, .frameError, .overrun, .queueSpace, .test], f ∈ domainFlags d := by
    cases d <;> decide
  exact all f h

theorem committedFlags_own (s : State) (d : Domain) : ∀ f ∈ committedFlags s d, f ∈ domainFlags d := by
  intro f hf
  rcases List.mem_append.1 hf with tells | space
  · have own : ∀ d, ∀ f ∈ commitFlag d, f ∈ domainFlags d := by intro d; cases d <;> decide
    exact own d f tells
  · split at space
    · rw [List.mem_singleton.1 space]; exact mem_domainFlags_of_shared (by decide) d
    · cases space

theorem and_own {a b : Word16} {d : Domain} (h : a &&& ~~~(flagMask d) = 0) : (a &&& b) &&& ~~~(flagMask d) = 0 := by
  rw [BitVec.and_assoc, BitVec.and_comm b, ← BitVec.and_assoc, h]
  exact BitVec.zero_and

/-! ### What acts on a box -/

section Acts

variable {d : Domain} {m : NoticeMode} {b : NoticeBox}

/-- Setting a flag of the domain (R160, R161). -/
theorem NoticeBox.InOrder.setFlag (h : b.InOrder d m) {f : Flag} (hf : f ∈ domainFlags d) :
    (b.setFlag m f).InOrder d m := by
  cases set : hasFlag b.flags f with
  | true => rw [setFlag_of_set set]; exact h
  | false =>
    have some := setFlag_flags_ne_zero b m f
    rw [setFlag_of_clear set] at some ⊢
    rw [judgeRepeat_flags] at some
    refine NoticeBox.Sound.judged ⟨?_, fun _ => some, fun follows => ?_⟩ m
    · rw [riseOnPlace_flags, BitVec.and_or_distrib_right, h.own, mask_own hf]; rfl
    · rw [riseOnPlace_followUp, Bool.or_eq_true, decide_eq_true_eq] at follows
      have sends : b.place.Sends := follows.elim h.follows id
      rw [riseOnPlace_place, if_neg sends.1]
      exact sends

theorem NoticeBox.InOrder.raised (h : b.InOrder d m) {l : List Flag} (hl : ∀ f ∈ l, f ∈ domainFlags d) :
    (b.raised m l).InOrder d m := by
  induction l generalizing b with
  | nil => exact h
  | cons f l ih =>
    obtain ⟨first, rest⟩ := List.forall_mem_cons.1 hl
    exact ih (h.setFlag first) rest

/-- CLEAR (R163). -/
theorem NoticeBox.InOrder.clearFlags (h : b.InOrder d m) (named : Word16) : (b.clearFlags m named).InOrder d m := by
  by_cases left : b.flags &&& ~~~named = 0
  · rw [clearFlags_of_none left]
    refine ⟨⟨and_own h.own, fun waits => ?_, fun follows => by cases follows⟩, ?_⟩
    · dsimp only at waits
      split at waits
      · cases waits
      · rename_i busy; exact absurd waits busy
    · exact ⟨fun runs => absurd rfl runs, fun ⟨_, _, flagged⟩ => absurd left flagged⟩
  · have sound : ({ b with flags := b.flags &&& ~~~named } : NoticeBox).Sound d :=
      ⟨and_own h.own, fun _ => left, h.follows⟩
    rw [clearFlags_of_some left]
    exact sound.judged m

/-- A completed NOTICE (R162). -/
theorem NoticeBox.InOrder.complete (h : b.InOrder d m) (carried : Word16) : (b.complete m carried).InOrder d m := by
  unfold NoticeBox.complete
  dsimp only
  refine ⟨⟨?_, fun waits => ?_, fun follows => by cases follows⟩, ?_⟩
  · dsimp only
    split
    · exact and_own h.own
    · exact h.own
  · obtain ⟨⟨-, left⟩, -⟩ := ite_ne_right_iff.1 (waits.trans_ne fun h => by cases h)
    exact left
  · simp only [repeatHolds_eq_true_iff]
    exact repeatTimer_ite_iff fun h => by cases h

/-- New modes are taken into use, whatever the old ones (R166). -/
theorem NoticeBox.InOrder.takeMode (h : b.InOrder d m) (new : NoticeMode) : (b.takeMode new).InOrder d new := by
  refine NoticeBox.Sound.judged ?_ new
  split
  · rename_i due
    obtain ⟨-, some, empty⟩ := due
    exact ⟨h.own, fun _ => some, fun follows => absurd empty (h.follows follows).1⟩
  · exact h.toSound

/-- The repeat timer runs out (R165). -/
theorem NoticeBox.InOrder.repeatExpire (h : b.InOrder d m) : b.repeatExpire.InOrder d m := by
  cases running : b.repeatTimer.isRunning with
  | false => rw [NoticeBox.repeatExpire, running]; exact h
  | true =>
    have runs : b.repeatTimer ≠ .stopped := fun stopped => by rw [stopped] at running; cases running
    obtain ⟨repeated, onClear, flagged⟩ := h.repeats.1 runs
    rw [repeatExpire_of_running running]
    refine ⟨⟨h.own, fun _ => flagged, fun follows => ?_⟩, fun _ => ⟨repeated, onClear, flagged⟩, fun _ h => by cases h⟩
    have sends := h.follows follows
    dsimp only
    rw [if_neg sends.1]
    exact sends

/-- The NOTICE begins (R162). -/
theorem NoticeBox.InOrder.begun (h : b.InOrder d m) (carried : Word16) :
    ({ b with place := .sending carried } : NoticeBox).InOrder d m :=
  ⟨⟨h.own, fun waits => (by cases waits), fun _ => ⟨Place.noConfusion, Place.noConfusion⟩⟩, h.repeats⟩

end Acts

/-! ### The invariant from one state to the next -/

/-- From `s` to `t` the notice boxes stay in order. -/
structure NoticesKept (s t : State) : Prop where
  kept : s.NoticeInv → t.NoticeInv

namespace NoticesKept

variable {s t u : State}

theorem refl (s : State) : NoticesKept s s := ⟨id⟩

theorem trans (h : NoticesKept s t) (k : NoticesKept t u) : NoticesKept s u := ⟨k.kept ∘ h.kept⟩

theorem ite {c : Prop} [Decidable c] (h : NoticesKept s t) (k : NoticesKept s u) :
    NoticesKept s (if c then t else u) := by split <;> assumption

theorem foldl {α : Type} {f : State → α → State} (h : ∀ s a, NoticesKept s (f s a)) (l : List α) (s : State) :
    NoticesKept s (l.foldl f s) := ⟨fun inv => foldl_keeps (fun s a => (h s a).kept) l inv⟩

/-- Nothing happens to the notice unit. -/
theorem beside (h : t.noticeUnit = s.noticeUnit) : NoticesKept s t := by
  obtain ⟨modes, boxes⟩ := Prod.mk.inj h
  refine ⟨fun inv => ?_⟩
  rw [noticeInv_iff] at inv ⊢
  simpa only [State.box, State.noticeMode, modes, boxes] using inv

/-- What has happened beside the notice unit before. -/
theorem after (k : NoticesKept t u) (h : t.noticeUnit = s.noticeUnit) : NoticesKept s u := (beside h).trans k

/-- One box changes. -/
theorem setBox {d : Domain} {b : NoticeBox}
    (h : (s.box d).InOrder d (s.noticeMode d) → b.InOrder d (s.noticeMode d)) : NoticesKept s (s.setBox d b) := by
  refine ⟨fun inv => ?_⟩
  rw [noticeInv_iff] at inv ⊢
  intro e
  rw [State.box_setBox]
  split
  · subst_vars; exact h (inv _)
  · exact inv e

theorem setFlag {d : Domain} {f : Flag} (h : f ∈ domainFlags d) (s : State) : NoticesKept s (Machine.setFlag d f s) :=
  setBox fun inOrder => inOrder.setFlag h

end NoticesKept

end Sys2Proof.Machine
end

section
/-! PROOF. O58: every command keeps the notice boxes in order. What touches them is a flag of the domain that is told,
a NOTICE that begins or ends, or the repeat timer; a commit puts them in order under the modes it brings (R36, R166). -/

namespace Sys2Proof.Machine

open Sys2Proof

theorem sharedFlag_kept {f : Flag} (h : f ∈ [Flag.restarted, .frameError, .overrun, .queueSpace, .test]) (d : Domain)
    (s : State) : NoticesKept s (setFlag d f s) := .setFlag (mem_domainFlags_of_shared h d) s

/-! ### The switch (R57, R60, R62) -/

theorem setQueue_kept (s : State) (d : Domain) (q : DeliveryQueue) : NoticesKept s (s.setQueue d q) := .beside rfl

theorem judgeSpace_kept (d : Domain) (s : State) : NoticesKept s (judgeSpace d s) :=
  .foldl (fun s src => .foldl (fun s c =>
    .ite ((setQueue_kept s d _).trans (sharedFlag_kept (by decide) src _)) (.refl s)) allClasses s) allDomains s

theorem removeFrom_kept (d : Domain) (gone : Entry → Bool) (s : State) : NoticesKept s (removeFrom d gone s) :=
  setQueue_kept s d _

theorem deliveryDone_kept (d : Domain) (s : State) : NoticesKept s (deliveryDone d s) :=
  (removeFrom_kept d _ s).trans (judgeSpace_kept d _)

theorem purgeQueue_kept (gone : Entry → Bool) (s : State) (d : Domain) : NoticesKept s (purgeQueue gone s d) :=
  .ite (.refl s) ((removeFrom_kept d gone s).trans (judgeSpace_kept d _))

theorem purge_kept (gone : Entry → Bool) (s : State) : NoticesKept s (purge gone s) :=
  .foldl (purgeQueue_kept _) allDomains s

theorem runSlotBar_kept (body : List Byte) (s : State) : NoticesKept s (runSlotBar body s).1 := by
  have told : ∀ u, NoticesKept u (setFlag .app .slotChange u) := .setFlag (by decide)
  have barred : ∀ n v, NoticesKept s (setBar s n v) := fun _ _ => .beside rfl
  unfold runSlotBar
  dsimp only
  split
  · exact .refl s
  · split
    · exact ((barred _ _).trans (purge_kept _ _)).trans (told _)
    · exact (barred _ _).trans (told _)

theorem linkCleared_kept (d : Domain) (s : State) : NoticesKept s (linkCleared d s) := by
  have cleared : (clearMarksOf d (portLinkReset d s)).noticeUnit = s.noticeUnit := by cases d <;> rfl
  have purged : NoticesKept s (switchLinkReset d (portLinkReset d s)) :=
    ((purgeQueue_kept _ _ d).after cleared).trans (.beside rfl)
  exact (purged.trans (.setBox fun _ => NoticeBox.blank_inOrder d _)).trans (sharedFlag_kept (by decide) d _)

theorem linkReset_kept (d : Domain) (s : State) : NoticesKept s (linkReset d s) :=
  (linkCleared_kept d s).trans
    (.ite (.beside ((endSession_noticeUnit _ _).trans (restartSilence_noticeUnit _))) (.refl _))

/-! ### Losses, trips and the supply (R131, R149, R154) -/

theorem declareLoss_kept (s : State) : NoticesKept s (declareLoss s) :=
  .ite ((NoticesKept.setFlag (d := .pay) (f := .videoLost) (by decide) _).after rfl) (.refl s)

theorem judgeFrame_noticeUnit (lines : List Nat) (s : State) : (judgeFrame lines s).noticeUnit = s.noticeUnit :=
  ite_noticeUnit rfl rfl

theorem inputFrameStart_kept (lines : List Nat) (s : State) : NoticesKept s (inputFrameStart lines s) := by
  have judged : NoticesKept s (endInputFrame lines s) :=
    .ite ((declareLoss_kept _).after (judgeFrame_noticeUnit lines s)) (.beside (judgeFrame_noticeUnit lines s))
  exact judged.trans (.beside (takeReports_noticeUnit _))

theorem watchOnOutput_kept (s : State) : NoticesKept s (watchOnOutput s) := by
  have stops : ∀ f, NoticesKept s (declareLoss (takeReports (gateDo f s))) := fun f =>
    (declareLoss_kept _).after (takeReports_noticeUnit _)
  unfold watchOnOutput
  split
  · exact .ite (declareLoss_kept s) (stops _)
  · exact (declareLoss_kept s).trans (.beside (takeReports_noticeUnit _))
  · exact .refl s
  · exact .refl s
  · exact stops _

theorem silenceExpiry_kept (lines : List Nat) (s : State) : NoticesKept s (silenceExpiry lines s) :=
  .ite ((watchOnOutput_kept _).after (judgeFrame_noticeUnit lines _)) (.refl s)

theorem enterLocked_kept (s : State) : NoticesKept s (enterLocked s) := by
  have written : (lockWritten s).noticeUnit = s.noticeUnit := by
    have placed : (placeTamperEnd s).noticeUnit = s.noticeUnit := by
      unfold placeTamperEnd
      split
      · rfl
      · exact ite_noticeUnit rfl rfl
    exact placed
  have left : (if s.ctl.state = .opened then leaveOpen (lockWritten s) else lockWritten s).noticeUnit = s.noticeUnit :=
    ite_noticeUnit ((leaveOpen_noticeUnit _).trans written) written
  rw [enterLocked_eq]
  exact (purge_kept _ _).after left

theorem tamperTrip_kept (s : State) : NoticesKept s (tamperTrip s) :=
  .ite (.refl s) ((enterLocked_kept s).trans (.beside (takeReports_noticeUnit _)))

theorem setTamper_kept (s : State) (i : TamperInput) (t : Tamper) : NoticesKept s (s.setTamper i t) := .beside rfl

theorem judgeTamper_kept (i : TamperInput) (s : State) : NoticesKept s (judgeTamper i s) := by
  have trips : ∀ u, NoticesKept u (trip i u) := fun u =>
    .ite (setTamper_kept u i _) (((setTamper_kept u i _).trans (.setFlag (by decide) _)).trans (tamperTrip_kept _))
  exact .ite ((setTamper_kept s i _).trans (trips _)) (setTamper_kept s i _)

theorem filterExpiry_kept (i : TamperInput) (s : State) : NoticesKept s (filterExpiry i s) :=
  .ite ((setTamper_kept s i _).trans (judgeTamper_kept i _)) (.refl s)

theorem warnSupply_kept (s : State) : NoticesKept s (warnSupply s) :=
  (NoticesKept.setFlag (d := .pay) (f := .supplyWarn) (by decide) s).trans (.setFlag (by decide) _)

theorem lowSupply_kept (s : State) : NoticesKept s (lowSupply s) :=
  (NoticesKept.setFlag (d := .pay) (f := .supplyLow) (by decide) s).trans
    (.beside ((takeReports_noticeUnit _).trans (endSession_noticeUnit _ _)))

theorem supplyDone_kept (code : AdcCode) (s : State) : NoticesKept s (supplyDone code s) := by
  have moved : ∀ old new u, NoticesKept u (supplyMove old new u) := fun old new u => by
    unfold supplyMove
    split
    · exact warnSupply_kept u
    · exact lowSupply_kept u
    · exact (warnSupply_kept u).trans (lowSupply_kept _)
    · exact .refl u
  exact .ite ((moved _ _ _).after (grantNext_arbiter s).noticeUnit) (.refl s)

theorem endFullReset_kept (s : State) : NoticesKept s (endFullReset s) := by
  have supplied : (requestSupply (awakened s)).noticeUnit = s.noticeUnit :=
    (requestSupply_arbiter (awakened s)).noticeUnit
  exact (NoticesKept.foldl (fun s d => sharedFlag_kept (by decide) d s) allDomains _).after supplied

/-! ### COMMIT (R36, R166) -/

theorem switchCommitted_kept (s : State) : NoticesKept s (switchCommitted s) := ⟨fun inv => by
  rw [noticeInv_iff] at inv ⊢
  intro d
  rw [switchCommitted_box, State.noticeMode, switchCommitted_active]
  exact ((inv d).takeMode _).raised (committedFlags_own s d)⟩

theorem acceptCommit_kept (s : State) : NoticesKept s (acceptCommit s) := by
  have committed : NoticesKept s (if s.generation = 0 then startFrontEnd (commitSwitch s.active (commitTables s))
      else commitSwitch s.active (commitTables s)) :=
    .ite ((switchCommitted_kept s).trans (.beside (startFrontEnd_noticeUnit _))) (switchCommitted_kept s)
  have normals : NoticesKept s (commitNormals s.active (commitGate (if s.generation = 0
      then startFrontEnd (commitSwitch s.active (commitTables s)) else commitSwitch s.active (commitTables s)))) :=
    committed.trans (.beside rfl)
  exact (normals.trans (judgeTamper_kept .a _)).trans (judgeTamper_kept .b _)

theorem runCommit_kept (body : List Byte) (s : State) : NoticesKept s (runCommit body s).1 := by
  unfold runCommit
  split
  · exact .refl s
  · split
    · exact .refl s
    · split
      · exact .refl s
      · exact acceptCommit_kept s

/-! ### The ports -/

theorem ownerOf_kept (d : Domain) (f : Frame) (s : State) : NoticesKept s (ownerOf d f s).1 := by
  unfold ownerOf
  split
  · exact .refl s
  · exact .beside (runPost_noticeUnit _ _ _ s)
  · rw [runStatus_owner]; exact .refl s
  · exact .setBox fun inOrder => inOrder.clearFlags _
  · exact sharedFlag_kept (by decide) d s
  · exact .beside (runLoad_noticeUnit _ s)
  · exact .beside rfl
  · exact runCommit_kept _ s
  · exact .beside (runEntryBegin_noticeUnit _ s)
  · exact .beside (runEntryAbort_noticeUnit s)
  · exact runSlotBar_kept _ s
  · exact .beside (runUnlock_noticeUnit s)
  · exact .refl s

theorem validFrame_kept (d : Domain) (f : Frame) (s : State) : NoticesKept s (validFrame d f (ownerOf d f) s) := by
  have told : (if d = .pay then restartSilence s else s).noticeUnit = s.noticeUnit :=
    ite_noticeUnit (restartSilence_noticeUnit s) rfl
  have executed : ∀ u, NoticesKept u (execute d f (ownerOf d f) u) := fun u => by
    unfold execute
    split
    · exact .beside rfl
    · exact (ownerOf_kept d f u).trans (.beside rfl)
  exact NoticesKept.after (.ite (sharedFlag_kept (by decide) d _) (executed _)) told

theorem wholeFrame_kept (d : Domain) (f : Frame) (s : State) : NoticesKept s (wholeFrame d f (ownerOf d f) s) :=
  .ite (.refl s) ((validFrame_kept d f _).after rfl)

theorem receive_kept (d : Domain) (r : Receiver × RxEvent) (s : State) : NoticesKept s (receive d r s) := by
  refine .ite (.refl s) (NoticesKept.after (t := setReceiver d r.1 s) ?_ rfl)
  unfold rxEvent
  split
  · exact .refl _
  · exact sharedFlag_kept (by decide) d _
  · exact validFrame_kept d _ _

theorem discardPartial_kept (d : Domain) (s : State) : NoticesKept s (discardPartial d s) :=
  .ite ((sharedFlag_kept (by decide) d _).after rfl) (.refl s)

theorem fullReset_noticeInv (s : State) : (fullReset s).NoticeInv :=
  (noticeInv_iff _).2 fun d => by rw [fullReset_box]; exact NoticeBox.blank_inOrder d _

theorem complete_kept {d : Domain} {src : Source} {f : State → State} (h : ∀ u, NoticesKept u (f u)) (s : State) :
    NoticesKept s (complete d src f s) := .ite ((h _).after rfl) (.refl s)

theorem replyDone_kept (d : Domain) (s : State) : NoticesKept s (replyDone d s) := by
  unfold replyDone
  split
  · exact .refl s
  · exact .ite ⟨fun _ => fullReset_noticeInv s⟩ (.beside rfl)

theorem noticeDone_kept (d : Domain) (s : State) : NoticesKept s (noticeDone d s) := by
  unfold noticeDone
  split
  · exact .setBox fun inOrder => inOrder.complete _
  · exact .refl s
  · exact .refl s

/-! ### The end of a command -/

/-- Of the frames that a choice can begin, only a NOTICE acts on its box (R162). -/
theorem choose_kept (d : Domain) (s : State) : NoticesKept s (choose d s) := by
  have cases := choose_cases d s
  generalize choose d s = t at cases ⊢
  rcases cases with rfl | ⟨-, -, ⟨r, rs, -, rfl⟩ | ⟨-, session | ⟨-, notice⟩ | ⟨-, -, delivery⟩⟩⟩
  · exact .refl _
  · exact .beside rfl
  · unfold beginSessionFrame at session
    split at session
    · split at session <;> cases session <;> exact .beside rfl
    · split at session <;> cases session
      exact .beside rfl
    · cases session
  · unfold beginNotice at notice
    split at notice <;> cases notice
    exact (NoticesKept.setBox fun inOrder => inOrder.begun _).trans (.beside rfl)
  · unfold beginDelivery at delivery
    split at delivery
    · cases delivery
    · split at delivery <;> cases delivery
      exact .beside rfl

theorem finish_kept (s : State) : NoticesKept s (finish s) :=
  (NoticesKept.foldl (fun s d => choose_kept d s) allDomains s).trans
    (.foldl (fun s d => by rw [judgeStall_eq]; exact .beside rfl) allDomains _)

/-! ### All commands -/

theorem NoticesKept.of_act {s t : State} {f : State → State} (h : act s f = .next t) (hf : NoticesKept s (f s)) :
    NoticesKept s t := by
  cases h
  exact .ite (.refl s) ((hf.trans (.beside (takeReports_noticeUnit _))).trans (finish_kept _))

/-- A command whose effect is beside the notice unit. -/
theorem NoticesKept.of_quiet {s t : State} {f : State → State} (h : act s f = .next t)
    (hf : (f s).noticeUnit = s.noticeUnit) : NoticesKept s t := .of_act h (.beside hf)

theorem NoticesKept.of_actPin {s t : State} {pin f : State → State} (h : actPin s pin f = .next t)
    (hp : (pin s).noticeUnit = s.noticeUnit) (hf : (f s).noticeUnit = s.noticeUnit) : NoticesKept s t := by
  unfold actPin at h
  split at h
  · cases h; exact .beside hp
  · exact .of_quiet h hf

theorem timerExpiry_noticeUnit (t : Timer) (o : SessionOutcome) (s : State) :
    (timerExpiry t o s).noticeUnit = s.noticeUnit := ite_noticeUnit (endSession_noticeUnit o s) rfl

theorem exec_noticesKept {c : Instr} {s t : State} (h : exec c s = .next t) : NoticesKept s t := by
  cases hc : requestOf c with
  | some df =>
    rw [exec_request hc] at h
    exact .of_act h (wholeFrame_kept _ _ s)
  | none =>
    cases c with
    | lineError d =>
      change execLineError d s = _ at h
      exact .of_act h (.ite (.refl s) (discardPartial_kept d s))
    | serialBreak d =>
      change execSerialBreak d s = _ at h
      exact .of_act h (.ite (.refl s) (linkReset_kept d s))
    | breakEnd d =>
      change execBreakEnd d s = _ at h
      exact .of_quiet h (ite_noticeUnit rfl rfl)
    | interByteTimeout d => exact .of_act h (.ite (discardPartial_kept d s) (.refl s))
    | lengthOver512 d kind tag slot length => exact .of_act h (receive_kept d _ s)
    | frameCheckFail d kind tag slot body check => exact .of_act h (receive_kept d _ s)
    | readyAsserted d =>
      change execReadyAsserted d s = _ at h
      exact .of_actPin (s := s) h rfl rfl
    | readyDeasserted d =>
      change execReadyDeasserted d s = _ at h
      exact .of_actPin (s := s) h rfl rfl
    | stallTimerExpiry d =>
      exact .of_act h (.ite ((NoticesKept.setFlag (d := .pay) (f := .stall) (by decide) _).after rfl) (.refl s))
    | replyComplete d => exact .of_act h (complete_kept (replyDone_kept d) s)
    | entryEndComplete => exact .of_quiet h (ite_noticeUnit rfl rfl)
    | entryProgressComplete => exact .of_quiet h (ite_noticeUnit rfl rfl)
    | inputComplete => exact .of_quiet h (ite_noticeUnit rfl rfl)
    | noticeComplete d => exact .of_act h (complete_kept (noticeDone_kept d) s)
    | deliveryComplete d => exact .of_act h (complete_kept (deliveryDone_kept d) s)
    | fullReset => cases h; exact ⟨fun _ => fullReset_noticeInv s⟩
    | fullResetEnd => cases h; exact .ite ((endFullReset_kept s).trans (finish_kept _)) (.refl s)
    | refillTimerExpiry => exact .of_quiet h (ite_noticeUnit rfl rfl)
    | scanTimerExpiry plate => exact .of_quiet h (scanExpiry_noticeUnit plate s)
    | burstEnd codes => exact .of_quiet h (burstDone_noticeUnit codes s)
    | supplyRequestTimerExpiry => exact .of_quiet h (ite_noticeUnit (requestSupply_arbiter s).noticeUnit rfl)
    | supplyConversionEnd code => exact .of_act h (supplyDone_kept code s)
    | keyInputChange k l =>
      change execKeyInputChange k l s = _ at h
      exact .of_actPin (s := s) h rfl rfl
    | keyDebounceExpiry k => exact .of_quiet h (debounceExpiry_noticeUnit k s)
    | totalTimerExpiry => exact .of_quiet h (timerExpiry_noticeUnit _ _ s)
    | firstKeyTimerExpiry => exact .of_quiet h (timerExpiry_noticeUnit _ _ s)
    | interKeyTimerExpiry => exact .of_quiet h (timerExpiry_noticeUnit _ _ s)
    | inputFrameStart lines => exact .of_act h (inputFrameStart_kept lines s)
    | silenceWatchExpiry lines => exact .of_act h (silenceExpiry_kept lines s)
    | localFrameEnd => exact .of_quiet h rfl
    | tamperPinChange i l =>
      change execTamperPinChange i l s = _ at h
      exact .of_actPin (s := s) h rfl rfl
    | tamperFilterExpiry i => exact .of_act h (filterExpiry_kept i s)
    | paySilenceExpiry => exact .of_quiet h (ite_noticeUnit (endSession_noticeUnit _ _) rfl)
    | repeatTimerExpiry d =>
      change execRepeatTimerExpiry d s = _ at h
      exact .of_act h (.setBox NoticeBox.InOrder.repeatExpire)
    | receivedByte d b =>
      change execReceivedByte d b s = _ at h
      exact .of_act h (receive_kept d _ s)
    | _ => cases hc

theorem step_noticesKept {s t : State} (h : step s = .next t) : NoticesKept s t := by
  unfold step at h
  split at h
  · cases h; exact .beside (panelTick_arbiter s).noticeUnit
  · exact (exec_noticesKept h).after rfl

end Sys2Proof.Machine

open Sys2Proof Sys2Proof.Machine

/-- Settles O58: a box in order stays so under all that acts on it (`NoticeBox.InOrder.setFlag` and its fellows), and no
command does anything else to a box (`step_noticesKept`). -/
theorem noticeBoxesStayInOrder : Obligations.NoticeBoxesStayInOrder := fun _ _ inv h => (step_noticesKept h).kept inv
end
